-- ==== Sys2Proof/Word.lean ====
section
/-! DEFINITION. The words of the hub: registers are 32 bits wide (R10), memories are read by octets. -/

namespace Sys2Proof

/-- A register word (R10). -/
abbrev Word := BitVec 32
/-- An octet. -/
abbrev Byte := BitVec 8

end Sys2Proof
end

