-- ==== Sys2Proof/Machine/Types.lean ====
section
/-! DEFINITION. The data that commands carry and the state holds: units, crossings, requests, Maelak frames, stamps. -/

namespace Sys2Proof.Machine

/-- A time as the hub compares it (R50, R67): units of 2^-16 ns since second 0. The 96-bit and 80-bit forms of R50 are
made from it and read into it by Machine/Clock.lean. -/
abbrev Stamp := Nat

/-- What a sampler outside the TIME island measures (R53): the counter's value at the most recent TIME tick before the edge, and the
offset from that tick in ps. -/
structure Sample where
  tick : Stamp
  sub : Nat
deriving DecidableEq, Repr

/-- A switch port by its index of Table 06.1: 0 EA, 1 WA, 2 EB, 3 WB, 4 PL, 5-8 ST0-ST3, 9 HP, 10 MC, 11-18 CL0-CL7,
19 PB, 20 EV, 21 CY. -/
abbrev Port := Fin 22

/-- A unit that holds a state word of Table 01.4; its kind is the constructor (R21). -/
inductive UnitId where
  | engine (c e : Fin 8)
  | cluster (c : Fin 8)
  | bus (b : Fin 16)
  | station (p : Fin 4)
  | lane (l : Fin 5)
  | guarded (n : Fin 16)
  | sensed (g : Fin 8)
  | host
deriving DecidableEq, Repr

/-- STATE of Table 01.4. -/
inductive UState where
  | off | idle | run | stall | fault | test | reset
deriving DecidableEq, Repr

/-- RESULT of Table 01.6. -/
inductive CmdResult where
  | none | pending | done | stale | denied | badcmd | unreach
deriving DecidableEq, Repr

/-- The kind of a crossing (Table 11.2). -/
inductive XKind where
  | value | event | queue
deriving DecidableEq, Repr

/-- A crossing of Table 11.2: the islands of its sending and receiving halves (Table 11.1), its kind and its index
within the pair of islands (Table 11.6, ISL_XLAST). -/
structure Crossing where
  src : Fin 26
  dst : Fin 26
  kind : XKind
  index : BitVec 8
deriving DecidableEq, Repr

/-- The states of Table 11.4 other than OPEN. -/
inductive XState where
  | reset | resync | stopped
deriving DecidableEq, Repr

/-- Who issues a register access or a command: Ploia, host software behind HP, a hub of the fabric, or the service
port (R65, R91). -/
inductive Origin where
  | ploia
  | host
  | fabric (ring : BitVec 4) (hub : BitVec 8)
  | service
deriving DecidableEq, Repr

/-- A request as the world rules judge it (R90, R91): its world, its issuer and the switch port by which it enters. -/
structure Req where
  secure : Bool
  origin : Origin
  port : Port
deriving DecidableEq, Repr

/-- The Maelak header of Table 04.5, without HCRC. -/
structure Header where
  ver : BitVec 4
  typ : BitVec 4
  cls : BitVec 3
  world : Bool
  auth : Bool
  late : Bool
  dir : BitVec 2
  sring : BitVec 4
  dring : BitVec 4
  shub : BitVec 8
  dhub : BitVec 8
  hops : BitVec 8
  stream : BitVec 12
  seq : BitVec 16
  len : BitVec 16
  stamp : BitVec 80
  tag : BitVec 10
  sub : BitVec 6
  arg : BitVec 48
deriving DecidableEq, Repr

/-- A Maelak frame: header, payload of LEN octets, GMAC tag where AUTH is set. The pad octets are zero, and HCRC and
FCS follow from the rest by R108 and R109. -/
structure Frame where
  hdr : Header
  payload : List Byte
  gmac : BitVec 128
deriving DecidableEq, Repr

/-- What ANNOUNCE_SEND tells: whether a precision time source is present, and the samples of its egress on EA, WA, EB, WB. -/
structure AnnounceOut where
  ptp : Bool
  tOut : List Sample
deriving DecidableEq, Repr

/-- An edge of PPS_IN: its direction and its raw stamp. -/
structure PpsEdge where
  rising : Bool
  raw : Stamp
deriving DecidableEq, Repr

/-- What a command of block lock tells of a receiver: the invalid sync headers it met, and MODABS (bit 1) and LOS (bit 0). -/
structure LaneSigns where
  invalid : BitVec 16
  pins : BitVec 2
deriving DecidableEq, Repr

/-- The turn of an input of the core: its port, and which bits of the vat's words will read wrong from then on (R151 to R153). -/
structure CopyIn where
  inp : Port
  flips : List (Nat × BitVec 64)
deriving DecidableEq, Repr

/-- A receiver with block lock: its lane, and MODABS (bit 1) and LOS (bit 0). -/
structure LaneLock where
  lane : Fin 5
  pins : BitVec 2
deriving DecidableEq, Repr

/-- A dominant level of PBn_RX: its bus, and how many ps it has lasted. -/
structure BusLevel where
  bus : Fin 16
  held : Nat
deriving DecidableEq, Repr

/-- What follows the error flag of a receiving bus controller: whether the first bit after it is dominant, and how many further rises by 8
it meets. -/
structure AfterFlag where
  dominant : Bool
  more : Nat
deriving DecidableEq, Repr

/-- A negotiation offer (Table 04.2, subtype 0). -/
structure LinkOffer where
  hiMaj : BitVec 8
  hiMin : BitVec 8
  loMaj : BitVec 8
  loMin : BitVec 8
  features : BitVec 32
  serial : BitVec 64
  ring : BitVec 8
  hub : BitVec 8
  lane : BitVec 8
  mode : BitVec 8
deriving DecidableEq, Repr

/-- A negotiation accept (Table 04.2, subtype 1). -/
structure LinkAccept where
  maj : BitVec 8
  min : BitVec 8
  features : BitVec 32
  serial : BitVec 64
deriving DecidableEq, Repr

/-- What an ANNOUNCE carries (Table 02.2): its source, and the payload PRIO, source kind, grandmaster ring and hub, HOPS. -/
structure Announce where
  ring : BitVec 4
  hub : BitVec 8
  prio : BitVec 8
  kind : BitVec 8
  gmRing : BitVec 8
  gmHub : BitVec 8
  hops : BitVec 8
deriving DecidableEq, Repr

/-- A census frame (Table 05.1): the header fields that every hub keeps, and the payload. -/
structure Census where
  ring : BitVec 4
  shub : BitVec 8
  hops : BitVec 8
  round : BitVec 16
  stamp : BitVec 80
  visits : BitVec 16
  turned2 : Bool
  turned : Bool
  serial : BitVec 64
  slot : BitVec 8
  numRing : BitVec 8
  fixed : BitVec 128
  taken : BitVec 128
  reserved : BitVec 128
  used : BitVec 128
deriving DecidableEq, Repr

/-- A partner beat payload (Table 05.4). -/
structure PartnerBeat where
  hiMaj : BitVec 8
  hiMin : BitVec 8
  loMaj : BitVec 8
  loMin : BitVec 8
  role : BitVec 8
  phase : BitVec 8
  swap : BitVec 8
  lead : Bool
  peer : Bool
  t : BitVec 80
  digest : BitVec 128
deriving DecidableEq, Repr

/-- A frame of a priority bus (Table 07.11): format bits, DLC, identifier, data. -/
structure BusFrame where
  ide : Bool
  fdf : Bool
  brs : Bool
  esi : Bool
  rtr : Bool
  dlc : BitVec 4
  ident : BitVec 29
  data : List Byte
deriving DecidableEq, Repr

/-- How an attempt to send a bus frame ends (R278): success; lost arbitration; or an error with its KIND and PHASE of
PB_LASTERR, whether the controller saw a dominant bit while it sent its passive error flag, and how often ISO 11898-1 raises the counter
by 8 beyond the error itself: a bit error in its active error flag, each run of dominant bits too long after its flag (R283). -/
inductive BusEnd where
  | sent
  | lost
  | error (kind : Fin 8) (phase : Fin 8) (dominant : Bool) (more : Nat)
deriving DecidableEq, Repr

/-- The place of an event in the total order, and what the release stage needs of it (R67, R68): its class, stamp,
source, whether it names a timed consumer, and the frame's copy it refers to. -/
structure EventRef where
  cls : Fin 4
  stamp : Stamp
  ring : BitVec 4
  hub : BitVec 8
  stream : BitVec 12
  seq : BitVec 16
  timed : Bool
  copyId : Nat
deriving DecidableEq, Repr

/-- What a fault event tells beside its source: the island it comes from, the unit, and three words of the owning
chapter. The detail words of its record are made from it (R357). -/
structure FaultInfo where
  island : Nat
  unit : Nat
  a : Nat
  b : Nat
deriving DecidableEq, Repr

/-- A USB PD message that the service port sends (Table 19.2); a Request names the PDO's position and the current in 10 mA. -/
inductive PdMsg where
  | sourceCapabilities | request (pdo curr : Nat) (mismatch : Bool) | accept | reject | psRdy | sinkCapabilities
  | softReset | hardReset | notSupported
deriving DecidableEq, Repr

/-- An answer of the management API or of the service port: results by their code, refusals by their name (R38, R445, R446). -/
inductive ApiAnswer where
  | result (code : Nat) (data : List Nat)
  | data (octets : List Byte)
  | version (major minor : Nat)
  | refuseVersion | refuseBusy | refuseNotReady
deriving DecidableEq, Repr

/-- What a host or management request asks of the fabric (R180, R182). -/
inductive XKindReq where
  | read (len : Nat)
  | writeNp (data : List Byte)
  | swap (new : Word)
  | cas (cmp new : Word)
  | posted (data : List Byte) (mask : Option (BitVec 4))
deriving DecidableEq, Repr

/-- What a PCIe configuration request does (R204, R205): reads a word, or sets one of the controls of Table 07.8 that the hub's
behaviour depends on. -/
inductive HostCfg where
  | read (off : BitVec 12)
  | busMaster (on : Bool)
  | msix (en mask : Bool)
  | atomic (on : Bool)
  | power (d3 : Bool)
  | sizes (payload read : Nat)
  | aer (uncor cor : BitVec 32)
deriving DecidableEq, Repr

/-- What the power entry senses of its pins when it derives the values that they set (R402): FBUS, UV and OV in mV from one
instant, the ILIM and PLIM resistors in ohm. -/
structure PinSense where
  fbus : Nat
  uv : Nat
  ov : Nat
  ilim : Nat
  plim : Nat
deriving DecidableEq, Repr

/-- What the hub sends, drives or reports outwards, in order, newest first: the model's own record of the effects that
leave the state. -/
inductive Emission where
  | laneFrame (l : Nat) (f : Frame) (stomped : Bool)
  | stationFrame (p : Nat) (octets : List Byte) (stomped : Bool)
  | busStart (b : Nat) (f : BusFrame) (sof : Option Stamp)
  | servoOffset (path : Nat) (ofs : Int)
  | handover (e : EventRef)
  | toBlock (port : Nat) (f : Frame) (late : Bool)
  | msix (vec : Nat)
  | ploiaInt (nmi : Bool)
  | reply (req : Req) (a : Nat) (v : Word)
  | pd (m : PdMsg)
  | answer (o : Origin) (a : ApiAnswer)
  | note (what : Nat) (args : List Nat)
  | octets (what : Nat) (args : List Nat) (data : List Byte)
deriving DecidableEq, Repr

/-! ### Boundary scan (R460) -/

/-- A pin that the boundary-scan chain may hold a cell of: the pins whose cells only observe (feed: FA_SRC, FA_GATE, FBUS, FB_GATE,
FB_SRC, HS_SNSP, HS_SNSN, HS_GATE, HS_OUT, numbered so), and any other, by number. -/
inductive ScanPin where
  | goArm (n : Fin 16)
  | goFire (n : Fin 16)
  | pairLead
  | feed (k : Fin 9)
  | other (k : Nat)
deriving DecidableEq, Repr

/-- The instructions of the test access port. -/
inductive TapOp where
  | bypass | samplePreload | extest
  | factory (k : Nat)
deriving DecidableEq, Repr, Inhabited

end Sys2Proof.Machine
end

