-- ==== Sys2Proof/Syntax.lean ====
section
/-! DEFINITION. The commands of spec/opcode_table.json, one constructor per row, with the operands that its meaning needs
(the table gives none of its own). The docstring of a constructor is the row's rule and summary. -/

namespace Sys2Proof

open Machine

/-- A command to the hub: one row of the table of operations and events. -/
inductive Instr where
  /-- R23: NOP command to any unit; completes DONE without change when it carries the current epoch, otherwise STALE. -/
  | unitNop (req : Req) (u : UnitId) (expect : BitVec 8)
  /-- R26: A unit command not completed within 1 ms ends UNREACH and raises FLT_XSTOP for its crossing. -/
  | commandTimeout (u : UnitId)
  /-- R29: Every 10 ms Ploia compares each unit's authoritative state word with its shadow and corrects, marks SKEWED or UNREACH. -/
  | stateAudit
  /-- R178: End of a 100 us metering window; each class over its budget sets SW_BUDSTAT and raises FLT_BUDGET once. -/
  | budgetWindowEnd
  /-- R38: A management session request is answered with the lower of its version and 2.3, or refused VERSION below 2.0. -/
  | mgmtSessionOpen (req : Req) (major minor : BitVec 8)
  /-- R35: The management controller halts; servo, audit, flushes and management service stop while the data path runs on. -/
  | mgmtHalt
  /-- R94: A write to a register without behaviour of its own, judged for world, decode and seal before the fields take it. -/
  | registerWrite (req : Req) (a : BitVec 36) (v : Word) (be : BitVec 4)
  /-- R12: A read of an RC counter or field returns its value and clears it, keeping a bit set in the same cycle. -/
  | counterRead (req : Req) (a : BitVec 36)
  /-- R95: Before seal a host memory request reads all ones or is discarded and is counted in CHIP_SEAL.PRESEAL. -/
  | presealHostAccess (read : Bool) (req : Req) (a : BitVec 36)
  /-- R44: A write of TIME_INC_HI commits the increment with TIME_INC_LO, clamped into its bounds, on the next TIME tick. -/
  | timeIncCommit (req : Req) (value : Word)
  /-- R46: TIME_STEP_CTL.GO starts a phase step, slewed when small and negative, jumped otherwise, or rejected with STEPREJ. -/
  | stepGo (req : Req) (v : Word)
  /-- R46: The slew has withheld the whole step; the last tick adds the remainder and BUSY clears. -/
  | slewEnd
  /-- R66: The servo owner writes TIME_OFFSET; the lock state moves under Table 02.3 and freshness restarts. -/
  | timeOffsetWrite (req : Req) (v : Word)
  /-- R66: 100 ms without a TIME_OFFSET write; LOCKED goes to HOLDOVER or, with HOLD 0, to UNLOCKED. -/
  | offsetFreshnessExpiry
  /-- R66: The holdover timer runs out; the lock state becomes UNLOCKED with LOCKLOST and FLT_TLOCK. -/
  | holdoverExpiry
  /-- R73: A write of TIME_HORIZONc arms a horizon change at switch stamp S, or before seal sets the horizon at once. -/
  | timeHorizonWrite (req : Req) (c : Fin 8) (value : Word)
  /-- R74: The switch stamp S passes; the hub sets HCHGDONE and records the class and new horizon. -/
  | horizonSwitch (c : Fin 8)
  /-- R79: A read of TIME_NOW_NS returns NS and latches SEC and FRAC of the same tick. -/
  | timeNowRead (req : Req)
  /-- R68: A C0-C3 event reference reaches the release stage; it is stored by key or passed on at once as late or store-full. -/
  | releaseArrival (e : EventRef)
  /-- R69: An event's release time comes within 1,000 ns; it is handed to its timed consumers, which act at the release time. -/
  | timedHandover
  /-- R70: At or after release time the stage delivers up to four due events per tick to queue consumers in total order. -/
  | queueDelivery
  /-- R56: Every 250 ms a hub with PRIO below 255 sends ANNOUNCE on every active ring port. -/
  | announceSend (o : AnnounceOut)
  /-- R55: An ANNOUNCE is received and the grandmaster is chosen again, setting GMCHG on a change. -/
  | announceRx (l : Fin 4) (ptp : Bool) (f : Frame)
  /-- R56: An announce source not heard for 750 ms is dropped and the grandmaster is chosen again. -/
  | announceSourceDrop (ring : BitVec 4) (hub : BitVec 8) (ptp : Bool)
  /-- R57: The grandmaster sends SYNC every 31.25 ms by its counter. -/
  | syncSend (tOut : List Sample)
  /-- R59: A SYNC arrives; the offset goes to the servo owner and the SYNC is forwarded cut-through with updated correction. -/
  | syncRx (l : Fin 4) (f : Frame) (tIn tOut : Sample) (fcsOk : Bool)
  /-- R60: No SYNC on the chosen path for 100 ms; the servo owner switches path. -/
  | syncPathTimeout
  /-- R58: Each ring port sends a DREQ every second and stamps t1. -/
  | dreqSend (l : Fin 5) (t1 : Sample)
  /-- R58: A DREQ is received and answered with a DRESP carrying the turnaround t3 - t2. -/
  | dreqRx (l : Fin 5) (f : Frame) (t2 t3 : Sample)
  /-- R58: A DRESP is received and the link delay is computed, averaged, or discarded as an outlier. -/
  | drespRx (l : Fin 5) (f : Frame) (t4 : Sample)
  /-- R57: A time frame of a reserved subtype is discarded and counted. -/
  | timeFrameReservedRx (l : Fin 5)
  /-- R62: An active PPS_IN edge is stamped, qualified or discarded against the 1 s window. -/
  | ppsInEdge (e : PpsEdge)
  /-- R62: No PPS_IN edge within 1.1 s; qualification is lost, PPSLOST set and FLT_PPS raised. -/
  | ppsInLoss
  /-- R63: At each whole second of the counter the hub drives PPS_OUT high when pulses are enabled. -/
  | ppsOutPulse
  /-- R63: After OUT_WIDTH ms the hub drives PPS_OUT low. -/
  | ppsOutPulseEnd
  /-- R45: TIME_INC has stayed strictly inside its bounds for 1 s; FLT_TINCSAT is released. -/
  | tincsatRelease
  /-- R104: Lane command DISABLE sends the lane to OFF, closing the link with ADMIN first where it was up. -/
  | ringDisable (req : Req) (l : Fin 5) (expect : BitVec 8)
  /-- R104: Lane command ENABLE makes an enabled lane leave OFF into TRAIN or LOCK. -/
  | ringEnable (req : Req) (l : Fin 5) (expect : BitVec 8)
  /-- R104: Lane command RETRAIN sends the lane to HOLDDOWN, closing the link with RESTART where it was up. -/
  | ringRetrain (req : Req) (l : Fin 5) (expect : BitVec 8)
  /-- R104: Both Clause 72 receivers report ready; the lane enters LOCK and starts T_LOCK. -/
  | trainingDone (l : Fin 5)
  /-- R104: max_wait_timer of 500 ms expires; the lane goes to HOLDDOWN with TRAINFAIL. -/
  | trainingTimeout (l : Fin 5)
  /-- R104: Block lock without hi_ber has held for 1 ms in LOCK; the lane sends LINK_OFFER and enters OFFER. -/
  | blockLockHeld (l : Fin 5)
  /-- R104: T_LOCK expires in LOCK; the lane goes to HOLDDOWN with NEGTO. -/
  | tLockExpiry (l : Fin 5)
  /-- R104: T_NEG expires in OFFER or CONFIRM; the lane goes to HOLDDOWN with NEGTO. -/
  | tNegExpiry (l : Fin 5)
  /-- R104: Every 1 ms in OFFER and CONFIRM the lane resends its current negotiation frame. -/
  | negResend (l : Fin 5)
  /-- R102: A LINK_OFFER is received; the lane chooses a version and accepts, or refuses, leaving UP where it was up. -/
  | linkOfferRx (l : Fin 5) (o : LinkOffer)
  /-- R103: A LINK_ACCEPT is received or evaluated in CONFIRM; the lane goes UP with version and features in force, or is refused. -/
  | linkAcceptRx (l : Fin 5) (a : LinkAccept)
  /-- R104: A LINK_CLOSE is received in UP; the lane goes to HOLDDOWN with LINKDN, PCLOSE and FLT_LINK. -/
  | linkCloseRx (l : Fin 5)
  /-- R116: Block lock is lost or hi_ber set; the lane goes to HOLDDOWN and its queued frames are discarded. -/
  | blockLockLoss (l : Fin 5) (lost : Bool) (sg : LaneSigns)
  /-- R104: 10 ms in HOLDDOWN elapse; the lane returns to TRAIN or LOCK. -/
  | holddownExpiry (l : Fin 5)
  /-- R104: 1 s in REFUSED elapses; the lane returns to LOCK and starts T_LOCK. -/
  | refusedExpiry (l : Fin 5)
  /-- R111: A received frame's header is checked and the forwarding and consumption decision is made. -/
  | ringHeaderRx (l : Fin 5) (hdr : Header) (hcrc : BitVec 16) (start : Bool)
  /-- R114: The last block of a received frame arrives; body and FCS errors are handled and good consumed frames go on. -/
  | ringFrameEnd (l : Fin 5) (payload : List Byte) (gmac : BitVec 128) (ok : Bool)
  /-- R117: An error-count window ends; reaching ERRMAX sets ERRRATE and raises FLT_LINKERR while the lane stays UP. -/
  | errWindowEnd (l : Fin 5)
  /-- R118: Periodic sign-sign LMS update of the receiver taps and CTLE within their policy bounds. -/
  | eqAdapt (l : Fin 5) (signs : List Int)
  /-- R118: Every equaliser quantity has stayed inside its bounds for 100 ms; FLT_EQSAT is released. -/
  | eqsatRelease (l : Fin 5)
  /-- R119: A Clause 72 coefficient request is answered within bounds and code sum, or held with maximum or minimum status. -/
  | cl72CoeffRequest (l : Fin 5) (coeff : Fin 3) (inc : Bool)
  /-- R119: A Clause 72 INITIALIZE sets the transmit FIR to RING_TXFIR. -/
  | cl72Initialize (l : Fin 5)
  /-- R119: A Clause 72 PRESET sets PRE 0, MAIN 63, POST 0, clamped into the bounds. -/
  | cl72Preset (l : Fin 5)
  /-- R476: A TYPE 14 PING is answered with an ECHO carrying the same SEQ, ARG and payload. -/
  | pingRx (l : Fin 5) (hdr : Header) (payload : List Byte)
  /-- R476: A received ECHO answer enters the C7 consumer queue of MC. -/
  | echoRx (l : Fin 5) (hdr : Header) (payload : List Byte)
  /-- R126: A ROLL census frame visit; the hub claims its number or restarts the round as a better manager, and passes it on. -/
  | censusRollRx (l : Fin 4) (c : Census)
  /-- R126: An ASSIGN census frame visit; the hub chooses its number from the bitmaps and passes it on. -/
  | censusAssignRx (l : Fin 4) (c : Census)
  /-- R126: A COMMIT census frame visit; the hub adopts its number, records it in the log and passes it on. -/
  | censusCommitRx (l : Fin 4) (c : Census)
  /-- R128: The manager receives a REQUEST and starts a census round. -/
  | censusRequestRx (l : Fin 4)
  /-- R124: A census frame of a reserved step is discarded and counted in MBR_CNT_CENBAD. -/
  | censusReservedRx
  /-- R128: A manager-capable hub has heard no COMMIT for 100 ms after lane up or 3 s since the last, and starts a round. -/
  | commitSilenceTimeout (b : Bool)
  /-- R128: A pass not returned within 10 ms makes the candidate restart the round, raising FLT_CENSUS after three restarts. -/
  | censusPassTimeout (b : Bool)
  /-- R128: After FLT_CENSUS the candidate retries a round every 100 ms. -/
  | censusRetryTimer (b : Bool)
  /-- R128: The manager repeats its last COMMIT with the same round every 1 s. -/
  | commitRepeat (b : Bool)
  /-- R128: A write of MBR_CTL.CENSUS makes the manager start a round. -/
  | mbrCensusCmd (req : Req)
  /-- R129: A write of MBR_CTL.FREE makes the manager release FREENUM from reservation. -/
  | mbrFreeCmd (req : Req) (n : BitVec 7)
  /-- R145: A write of MBR_CTL.SWAP makes the leader propose a role swap or refuse it with SWAPREF. -/
  | mbrSwapCmd (req : Req)
  /-- R129: A reserved number has been held for HOURS hours and leaves the reservation table. -/
  | reservationExpiry (b : Bool) (n : BitVec 7)
  /-- R130: The hub sends an incarnation announce, three at 100 us spacing after a new incarnation and then every 1 s. -/
  | incarnAnnounceSend
  /-- R131: An incarnation announce is received; a changed incarnation or serial discards the source's duplicate-discard entries. -/
  | incarnAnnounceRx (hdr : Header)
  /-- R134: A duplicate-discard entry that accepted nothing for DDAGE ms is freed. -/
  | ddEntryAge (ring : BitVec 4) (hub : BitVec 8) (stream : BitVec 12)
  /-- R138: At each 100 us instant of the schedule the hub sends a beat on each active path. -/
  | tetherSend
  /-- R139: A good beat arrives on a path, refreshing it and possibly clearing its fault. -/
  | tetherRx (l : Fin 5) (hdr : Header)
  /-- R139: No good beat on a path for 320 us; the path is faulted and FLT_PATH raised. -/
  | pathFault (p : Fin 9)
  /-- R145: A partner beat arrives; pair formation, version and role transitions of Table 05.5 are judged. -/
  | partnerBeatRx (l : Fin 5) (hdr : Header) (b : PartnerBeat) (slot : BitVec 4)
  /-- R145: A follower receives PROPOSE with T far enough ahead and sends READY. -/
  | swapProposeRx (n : BitVec 8) (t : BitVec 80)
  /-- R145: The proposing leader has READY on the pair link and a ring path in time and sends COMMIT. -/
  | swapReadyRx (pl : Bool) (n : BitVec 8)
  /-- R145: A ready follower has COMMIT on both path kinds in time, enters F_COMMITTED and sends COMMITTED. -/
  | swapCommitRx (pl : Bool) (n : BitVec 8)
  /-- R145: The proposing leader has COMMITTED on both path kinds in time and enters L_COMMITTED. -/
  | swapCommittedRx (pl : Bool) (n : BitVec 8)
  /-- R145: An ABORT is received during a swap; the hub returns to LEADER or FOLLOWER. -/
  | swapAbortRx (n : BitVec 8)
  /-- R145: The leader's swap deadline passes in L_PROPOSED; it sends ABORT, returns to LEADER and raises FLT_SWAP. -/
  | swapDeadline
  /-- R146: The handover stamp T is reached in L_COMMITTED; the hub starts no new shared-bus frame. -/
  | swapTReached
  /-- R146: After T the last own shared-bus frame ends; the hub releases PAIR_LEAD and becomes FOLLOWER. -/
  | swapSharedFramesEnd
  /-- R145: T - 500 us passes in F_READY; the follower sends ABORT and returns to FOLLOWER. -/
  | fReadyDeadline
  /-- R145: T + SWAPWAIT passes in F_COMMITTED with PAIR_PEER still high; back to FOLLOWER with FLT_SWAP. -/
  | swapwaitExpiry
  /-- R144: PAIR_PEER has been low for 1 us; a held or committed hub takes the lead. -/
  | pairPeerLow
  /-- R145: 500 ms after join without partner beats and with PAIR_PEER low, the hub becomes SOLO. -/
  | unpairedTimeout
  /-- R160: A frame is written into the vat as one copy per queue it must reach, each checked for room. -/
  | switchCopyWrite (w : CopyIn)
  /-- R163: A C4-C7 copy waiting in a holdable block finds room in its reliable queue and is taken. -/
  | heldCopyTaken (p : Port)
  /-- R167: When an output's frame ends it chooses and starts its next frame by hand-over, priority and turns. -/
  | outputSelect (o : Port) (ecc : Fin 3) (spare : Bool)
  /-- R176: A tail sample finds no spare write slot within 1 us and is skipped. -/
  | tailSampleSkip (o : Port)
  /-- R173: A read of SW_HQ_HEADq pops the head frame into window q or reports empty or pending. -/
  | hostQueuePop (req : Req) (q : Fin 9)
  /-- R179: A read of SW_VATMIN returns the lowest free count and restarts it at the current count. -/
  | vatminRead (req : Req)
  /-- R181: A posted write reaches its target hub and is performed, or refused with a notice. -/
  | postedWriteRx
  /-- R182: A READ request reaches its target and is completed with data or a status. -/
  | npReadRx
  /-- R182: A WRITE_NP request reaches its target and is performed and completed. -/
  | npWriteRx
  /-- R182: A SWAP request is performed through a bridged host window, or completed UR. -/
  | npSwapRx
  /-- R182: A CAS request is performed through a bridged host window, or completed UR. -/
  | npCasRx
  /-- R182: A non-posted request of a reserved kind completes with UR. -/
  | npReservedRx
  /-- R189: A request waiting in HP or MC obtains a tag and completion space and is sent on its chosen route. -/
  | requestIssue (mc : Bool) (own : Option (BitVec 48 × XKindReq))
  /-- R190: A completion is matched to an outstanding request and completes it, or is discarded. -/
  | completionRx (mc : Bool)
  /-- R191: 10 us after a BUSY completion the requester reissues the request, completing CA after three tries. -/
  | busyReissue (t : BitVec 10)
  /-- R192: A request not completed within CTO completes with TIMEOUT and raises FLT_CTO. -/
  | completionTimeout (t : BitVec 10)
  /-- R192: CTO + 1 ms after a timeout, or after a chip reset, the tag returns to use. -/
  | tagQuarantineEnd (t : Option (BitVec 10))
  /-- R192: A completer abandons a request it has not answered within CTO of arrival. -/
  | completerAbandon (id : Nat)
  /-- R196: A fenced request waits XB_ORD.WAIT, is performed anyway and raises FLT_FENCE. -/
  | fenceTimeout (id : Nat)
  /-- R202: A posted-fault notice reaches its source; it is recorded, queued for the host or passed to Ploia. -/
  | noticeRx (mc : Bool)
  /-- R202: A read of XB_PFQ pops the oldest notice and latches its address registers. -/
  | noticeQueuePop (req : Req)
  /-- R208: An inbound host write through a BAR window is mapped to a fabric posted write, or discarded. -/
  | hostBarWrite (bar : Fin 3) (off : Nat) (data : List Byte) (mask : Option (BitVec 4))
  /-- R208: An inbound host read is split into fabric READs and answered with a PCIe completion. -/
  | hostBarRead (bar : Fin 3) (off len : Nat)
  /-- R207: A fabric request to a bridged host window is mapped to a PCIe request towards host memory. -/
  | hostWindowRequest (posted : Bool)
  /-- R208: The root complex completes an outbound read and a fabric completion is formed. -/
  | pcieCompletionRx (id : Nat) (ok : Bool) (data : List Byte)
  /-- R205: A PCIe configuration request is answered, with CRS until the host sheet is applied. -/
  | hostConfigRequest (q : HostCfg)
  /-- R206: Host link down or hot reset; outbound requests complete CA, posted writes discarded with notices. -/
  | hostLinkDown (hot : Bool)
  /-- R206: The host link comes up and LINKUP is set. -/
  | hostLinkUp (width rate : Fin 4)
  /-- R205: PERST_N changes; the host port may train only while it is high. -/
  | perstNChange (level : Bool)
  /-- R211: A side-band INTERRUPT message to HP sends its MSI-X vector, or is discarded below 12. -/
  | sbInterruptRx
  /-- R211: A side-band DOORBELL message is queued in XB_DOORBELL or discarded when full. -/
  | sbDoorbellRx (mc : Bool)
  /-- R211: A side-band message of reserved kind is discarded and counted in XB_CNT_SBBAD. -/
  | sbReservedRx (mc : Bool)
  /-- R213: A write of XB_SB_DATA sends a side-band frame to XB_SB_DST on HP's stream. -/
  | sbDataWrite (req : Req) (v : Word)
  /-- R211: A read of XB_DOORBELL pops the oldest doorbell value. -/
  | doorbellPop (req : Req)
  /-- R216: A station frame is accepted or discarded, then delivered as PTP or tunnelled, hosted or dropped by rule. -/
  | stFrameRx (p : Fin 4) (octets : List Byte) (fcsOk : Bool) (raw : Sample)
  /-- R218: A released Ethernet tunnel is sent unchanged on its far station port, queueing a PTP stamp. -/
  | stTunnelTx (p : Fin 4) (raw : Sample)
  /-- R223: Station port command DISABLE. -/
  | stDisable (req : Req) (p : Fin 4) (expect : BitVec 8)
  /-- R223: Station port command ENABLE. -/
  | stEnable (req : Req) (p : Fin 4) (expect : BitVec 8)
  /-- R223: Station port command RESTART_AN restarts Clause 37 auto-negotiation. -/
  | stRestartAn (req : Req) (p : Fin 4) (expect : BitVec 8)
  /-- R223: A station port link comes up or goes down and its state word changes. -/
  | stLinkChange (p : Fin 4) (up anDone : Bool) (speed : Fin 4)
  /-- R64: A read of ST_TSFIFO pops the oldest transmit stamp and latches its time. -/
  | stTsfifoPop (req : Req) (p : Fin 4)
  /-- R231: Engine executes JMP, decrementing a loop register where tested and jumping on the test. -/
  | engineJmp (c e : Fin 8) (pins : Word)
  /-- R230: Engine executes WAIT, stalling until its source reaches the level or edge. -/
  | engineWait (c e : Fin 8) (pins : Word)
  /-- R233: Engine executes IN, shifting bits into the ISR with optional auto-drain. -/
  | engineIn (c e : Fin 8) (pins : Word)
  /-- R233: Engine executes OUT, shifting bits out of the OSR with optional auto-fill. -/
  | engineOut (c e : Fin 8)
  /-- R233: Engine executes PUSH, moving the ISR into the RX queue. -/
  | enginePush (c e : Fin 8)
  /-- R233: Engine executes PULL, loading the OSR from the TX queue. -/
  | enginePull (c e : Fin 8)
  /-- R231: Engine executes MOV between its registers and pins. -/
  | engineMov (c e : Fin 8) (pins : Word)
  /-- R231: Engine executes SET of pins, directions or registers. -/
  | engineSet (c e : Fin 8)
  /-- R231: Engine executes IRQ, setting or clearing a cluster flag. -/
  | engineIrq (c e : Fin 8)
  /-- R237: Engine executes STMP, taking a cycle or edge stamp into SR and optionally pushing it. -/
  | engineStmp (c e : Fin 8)
  /-- R240: Engine executes EMIT, closing its stream buffer into a frame. -/
  | engineEmit (c e : Fin 8)
  /-- R246: An instruction has stalled for 1 ms; the engine shows STALL with its reason. -/
  | engineStallTimeout (c e : Fin 8)
  /-- R246: Engine command START begins running at ARG[5:0]. -/
  | engineStart (req : Req) (c e : Fin 8) (expect : BitVec 8) (pc : BitVec 6)
  /-- R246: Engine command STOP sends the engine to IDLE keeping registers and queues. -/
  | engineStop (req : Req) (c e : Fin 8) (expect : BitVec 8)
  /-- R246: Engine command RESTART clears registers, queues and fault cause. -/
  | engineRestart (req : Req) (c e : Fin 8) (expect : BitVec 8)
  /-- R246: Engine command STEP executes one instruction and its delay while stopped. -/
  | engineStep (req : Req) (c e : Fin 8) (expect : BitVec 8) (pins : Word)
  /-- R246: Engine command RELEASE stops the engine and makes its lines inputs. -/
  | engineRelease (req : Req) (c e : Fin 8) (expect : BitVec 8)
  /-- R243: Cluster command SYNC starts masked idle engines on one ECLK cycle. -/
  | clusterSync (req : Req) (c : Fin 8) (expect mask : BitVec 8)
  /-- R244: Cluster command ARM arms masked idle engines to start at time T. -/
  | clusterArm (req : Req) (c : Fin 8) (expect mask : BitVec 8)
  /-- R244: Cluster command DISARM disarms masked engines. -/
  | clusterDisarm (req : Req) (c : Fin 8) (expect mask : BitVec 8)
  /-- R246: Cluster command STOP stops each masked engine as STOP. -/
  | clusterStop (req : Req) (c : Fin 8) (expect mask : BitVec 8)
  /-- R244: Time T is reached and armed engines start on the nearest edge. -/
  | engineTimedStart (c : Fin 8)
  /-- R245: A WIRE message to a cluster sets a wire flag at its release time or arrival. -/
  | wireFlagRx (c : Fin 8)
  /-- R245: A WIRE start message starts idle unarmed engines of its mask. -/
  | wireStartRx (c : Fin 8)
  /-- R245: A WIRE stop message stops the engines of its mask. -/
  | wireStopRx (c : Fin 8)
  /-- R236: A line transition holds past its glitch filter and counts as a stamped edge. -/
  | lineEdge (c : Fin 8) (k : Fin 32) (level : Bool) (raw : Sample)
  /-- R239: A line's event gap ends; a changed level sends an event for the latest edge. -/
  | edgeGapEnd (c : Fin 8) (k : Fin 32)
  /-- R242: At release a stream frame for a cluster puts its words into the target engine's TX queue, or is discarded. -/
  | streamFill (c : Fin 8)
  /-- R235: A write of BRD_TXQ pushes a word into an engine's TX queue, or sets TXOVF. -/
  | txqPush (req : Req) (c e : Fin 8) (w : Word)
  /-- R235: A read of BRD_RXQ pops one word from an engine's RX queue. -/
  | rxqPop (req : Req) (c e : Fin 8)
  /-- R226: A cluster PLL loses lock; engines go OFF, lines hold, cluster enters FAULT with FLT_CLPLL. -/
  | clusterPllLoss (c : Fin 8)
  /-- R226: The cluster PLL relocks; the offset is remeasured and the cluster returns to RUN. -/
  | clusterPllRelock (c : Fin 8)
  /-- R252: Every 1 ms each group samples SIREFg with its ADC. -/
  | sirefSample (g : Fin 8) (uv : Nat)
  /-- R253: Every 16 ms a group moves its threshold towards the target within SLEW and bounds. -/
  | thresholdUpdate (g : Fin 8)
  /-- R254: 16 ms after entry the group sets its threshold at once and enters RUN. -/
  | senFirstThreshold (g : Fin 8)
  /-- R256: A sensed-input comparator changes level, starting or restarting the debounce wait. -/
  | comparatorTransition (n : Fin 64) (level : Bool) (raw : Sample)
  /-- R256: The comparator has held the other level for DEBOUNCE; the accepted level changes. -/
  | debounceEnd (n : Fin 64)
  /-- R257: A chatter window ends; lines enter or leave chatter with CHATON or CHATOFF events. -/
  | chatterWindowEnd (g : Fin 8)
  /-- R253: A group threshold has stayed inside its bounds for 1 s; FLT_SENSAT is released. -/
  | sensatRelease (g : Fin 8)
  /-- R260: Group command ENABLE moves an OFF group to IDLE. -/
  | senEnable (req : Req) (g : Fin 8) (expect : BitVec 8)
  /-- R260: Group command DISABLE sends the group OFF, clearing levels and sending OFF events. -/
  | senDisable (req : Req) (g : Fin 8) (expect : BitVec 8)
  /-- R263: At release time each island applies an ARM or FIRE source level to its channel. -/
  | grdLevelApply (evb : Bool)
  /-- R264: The MINON time ends and a pending level 0 takes FIRE inactive. -/
  | minonEnd (n : Fin 16)
  /-- R264: FIRE has been active for MAXON; it goes inactive, holds and raises FLT_GRDMAXON. -/
  | maxonExpiry (n : Fin 16)
  /-- R266: The readback comparator of GOn_RB changes level and the settle time restarts. -/
  | rbSenseChange (n : Fin 16) (level : Bool)
  /-- R267: A readback mismatch has lasted RBSETTLE; FLT_GRDRB or PAIRDIFF, and with BLOCK the channel enters FAULT. -/
  | rbMismatch (n : Fin 16)
  /-- R268: Channel command DISABLE sends the channel OFF with pins high-impedance. -/
  | grdDisable (req : Req) (n : Fin 16) (expect : BitVec 8)
  /-- R268: Channel command ENABLE enters RUN when copies agree. -/
  | grdEnable (req : Req) (n : Fin 16) (expect : BitVec 8)
  /-- R268: Channel command CLEAR returns a FAULT channel to RUN when copies agree. -/
  | grdClear (req : Req) (n : Fin 16) (expect : BitVec 8)
  /-- R273: Bus command DISABLE sends the controller OFF, keeping spool and timed list. -/
  | pbDisable (req : Req) (b : Fin 16) (expect : BitVec 8)
  /-- R273: Bus command ENABLE moves a valid controller from OFF to INTEGRATE. -/
  | pbEnable (req : Req) (b : Fin 16) (expect : BitVec 8)
  /-- R283: Bus command RECOVER starts bus-off recovery. -/
  | pbRecover (req : Req) (b : Fin 16) (expect : BitVec 8)
  /-- R273: Bus command SLEEP puts a running controller to sleep once the bus is idle. -/
  | pbSleep (req : Req) (b : Fin 16) (expect : BitVec 8)
  /-- R288: Bus command WAKE makes a sleeping controller integrate again. -/
  | pbWake (req : Req) (b : Fin 16) (expect : BitVec 8)
  /-- R279: Bus command ABORT retires the spool head. -/
  | pbAbort (req : Req) (b : Fin 16) (expect : BitVec 8)
  /-- R279: Bus command FLUSH retires every spool entry. -/
  | pbFlush (req : Req) (b : Fin 16) (expect : BitVec 8)
  /-- R273: Eleven consecutive recessive bits are seen; the controller enters RUN. -/
  | pbIntegrateDone (b : Fin 16)
  /-- R273: 128 occurrences of eleven recessive bits end recovery; counters cleared and RUN entered. -/
  | pbRecoveryDone (b : Fin 16)
  /-- R273: The bus becomes idle after SLEEP and the controller enters SLEEP, setting STB by wake mode. -/
  | pbSleepEnter (b : Fin 16)
  /-- R276: At its release time a bus tunnel enters the spool, or is discarded when the spool is full. -/
  | pbTunnelEntry (idle : Bool)
  /-- R276: A write of PB_TXGO with GO 1 puts the staged frame into the spool or returns FULL or BADFRAME. -/
  | pbTxgoNow (req : Req) (b : Fin 16)
  /-- R281: A write of PB_TXGO with GO 2 places the staged frame in the timed list or refuses it. -/
  | pbTxgoTimed (req : Req) (b : Fin 16)
  /-- R276: A timed host frame reaches its time T and enters the spool. -/
  | pbTimedEntry (b : Fin 16) (idle : Bool)
  /-- R280: The spool head starts its SOF at bus idle or at its timed instant when not fenced. -/
  | pbTxStart (b : Fin 16)
  /-- R278: A transmission attempt ends in success, error or lost arbitration; the head retires or is offered again. -/
  | pbTxEnd (b : Fin 16) (e : BusEnd)
  /-- R286: A valid bus frame is received, stamped and routed by the first matching filter. -/
  | pbFrameRx (b : Fin 16) (f : BusFrame) (self : Bool) (sof eof : Sample)
  /-- R290: A spool entry has waited FOLAGE while fenced and is retired. -/
  | pbFolageExpiry (b : Fin 16)
  /-- R288: In EDGE wake mode a dominant level held WAKEFILT wakes the controller. -/
  | pbWakeEdge (lv : BusLevel)
  /-- R289: A WIRE message wakes bus n. -/
  | wirePbWakeRx
  /-- R289: A WIRE message puts bus n to sleep. -/
  | wirePbSleepRx
  /-- R289: A WIRE message aborts the head of bus n. -/
  | wirePbAbortRx
  /-- R299: A crossing half sees no activity for 1,024 cycles and puts the crossing into STOPPED with FLT_XSTOP. -/
  | crossingTimeout (x : Crossing) (side : Bool)
  /-- R300: LIVE toggles return for 64 cycles; a STOPPED crossing is reset and released. -/
  | crossingLiveReturn (x : Crossing)
  /-- R300: Both halves have seen the other's toggle; the crossing enters OPEN and sends current values. -/
  | crossingResyncDone (x : Crossing)
  /-- R304: A write of ISL_GRESET orders a group reset, or is refused with RSTREF. -/
  | groupResetOrder (req : Req) (v : Word)
  /-- R302: After 2 us the group leaves reset and its units restart from configuration. -/
  | groupResetRelease (g : Fin 24) (vio : Fin 3)
  /-- R419: Chip reset is released at power-good; straps are sampled and start-up begins. -/
  | chipResetRelease (slot : BitVec 4) (testmode : Bool)
  /-- R395: The boot ROM verifies and runs the active or staging Ploia image, or enters recovery. -/
  | bootImageVerify (sfdp : Bool)
  /-- R316: Ploia checks both ream slots and chooses one, or finds none valid. -/
  | reamSlotCheck
  /-- R319: Ploia validates and applies every sheet of the chosen ream in order. -/
  | sheetsApply (vio : List (Fin 3))
  /-- R318: A new ream is checked and written to the other slot with MAGIC last. -/
  | reamWriteRequest (req : Req) (image : List Byte) (reset : Bool)
  /-- R318: The ream write ends with STAGED, or WRFAIL with a code in REAM_WRCHK. -/
  | reamWriteDone (ok : Bool)
  /-- R325: A recovery-set request asks for a chip reset. -/
  | recoveryResetRequest (req : Req)
  /-- R326: 10 ms after STAGED in recovery, Ploia resets the chip. -/
  | stagedReset
  /-- R339: KEY_OP APPLY checks the staged entry and writes the slot VALID, or ends with a failure result. -/
  | keyApply (req : Req)
  /-- R345: KEY_OP DESTROY makes a slot and its descendants DEAD, or erases the root. -/
  | keyDestroy (req : Req) (slot : BitVec 7)
  /-- R336: Every 100 ms the integrity tag of every non-empty slot is checked; failures become DEAD. -/
  | keyScrub (upsets : List (Fin 64 × BitVec 256))
  /-- R339: A TYPE 13 LOAD frame, secure and authenticated, applies its entry and is answered with RESULT. -/
  | keyLoadFrameRx (ring : BitVec 4) (hub : BitVec 8) (stream : BitVec 12) (cls : BitVec 3)
  /-- R339: A TYPE 13 RESULT frame returns the result code of a remote LOAD. -/
  | keyResultRx (ring : BitVec 4) (hub : BitVec 8)
  /-- R343: A write of KEY_RSELr selects tag keys, or is ignored whole with RSELREF. -/
  | keyRselWrite (req : Req) (r : Fin 16) (v : Word)
  /-- R341: A new owner transport key is sealed into both helper copies in turn. -/
  | otkProvision (req : Req) (key : BitVec 256) (okFirst okSecond : Bool)
  /-- R332: An owner-key digest or revoke fuse is blown over the service port. -/
  | ownerFuseBlow (req : Req) (set : Fin 4) (digest : Option (BitVec 384))
  /-- R350: A transfer of fault events reaches the collector, which escalates, records and reacts. -/
  | faultEvent (src : Fin 128) (island : Fin 26)
  /-- R351: W ms without event or rise lower a source's class by one. -/
  | classFall (src : Fin 128)
  /-- R356: After a CHIPRST reaction the chip reset enters once the flush commits or 2 ms pass. -/
  | faultResetEntry
  /-- R361: At each 500 us instant of the counter ALIVE toggles while every condition holds. -/
  | aliveToggle
  /-- R363: A write of FLT_ALIVE.REARM restarts ALIVE, or is refused with REARMREF. -/
  | aliveRearm (req : Req)
  /-- R364: ERRMIN runs out and ERR_N is released unless held. -/
  | errnRelease
  /-- R358: A write of FLT_PENDm clears pending bits and may resend vector 0. -/
  | faultPendClear (req : Req) (m : Fin 4) (v : Word)
  /-- R357: A read of FLT_RECPOP pops the oldest fault record and latches its details. -/
  | faultRecordPop (req : Req)
  /-- R350: A write of FLT_SRCn_CFG changing BASE or CEIL resets the current class within the new bounds. -/
  | faultSrcCfgWrite (req : Req) (n : Fin 78) (v : Word)
  /-- R366: A write of FLT_STREQ asks for a self-test, which runs, defers, joins or is refused. -/
  | selftestRequest (req : Req) (v : Word)
  /-- R365: A paced step of a continuous SHADOW self-test on idle or spare resources. -/
  | selftestShadowStep (t : Fin 11) (unit where_ : Nat) (ok passEnd : Bool)
  /-- R365: A unit has been in its window for 1 s and a WINDOW test begins on it. -/
  | selftestWindowStart (t : Fin 11) (n : Nat)
  /-- R365: A WINDOW test completes with pass or fail, raising FLT_BIST on failure. -/
  | selftestWindowEnd (ok : Bool) (where_ : Nat)
  /-- R366: A deferred test whose unit never entered its window within STDEFER ends CANCELLED. -/
  | selftestDeferExpiry
  /-- R368: In factory test mode a write of FLT_INJ raises COUNT events of a source. -/
  | faultInject (req : Req) (v : Word)
  /-- R465: The die sensor rises through 120 C and FLT_DIETEMP is raised. -/
  | dieTempCross (t : Int)
  /-- R373: The LOG_CFG.FLUSH interval ends and Ploia orders a flush. -/
  | flushInterval
  /-- R373: A write of LOG_CTL.FLUSH orders a flush, merged if within 100 ms of the last. -/
  | logFlushCmd (req : Req) (v : Word)
  /-- R372: A flush's trailer is written and read back, committing the running copy or retrying. -/
  | flushCommit (ok : Bool)
  /-- R376: A year roll-up write completes and its trailer is read back; ROLLUP set. -/
  | rollupDone (ok : Bool)
  /-- R375: Every 1 s of AON time the periodic histograms take a sample. -/
  | histogramSample (die : Int) (vdd vdds vddsh vio33 vddaon vaon33 : BitVec 16)
  /-- R378: The AON island writes a direct journal record or identity copy itself. -/
  | directRecord (typ : Fin 11) (arg : BitVec 16) (data : BitVec 48)
  /-- R378: The 100 ms identity-write spacing ends and a pending identity change is written. -/
  | identityWriteDeferred
  /-- R387: Update request START opens or resumes a session and reports missing chunks. -/
  | updStart (req : Req) (id : BitVec 64) (len : Nat) (force : Bool)
  /-- R386: Update request CHUNK stores one 512-octet chunk and writes its mark. -/
  | updChunk (req : Req) (id : BitVec 64) (index : Nat) (crc : Word) (data : List Byte) (ok : Bool)
  /-- R388: Update request COMMIT checks the whole image and stages it. -/
  | updCommit (req : Req) (id : BitVec 64) (reset : Bool)
  /-- R390: Update request ABORT ends the session and frees the staging slot. -/
  | updAbort (req : Req)
  /-- R393: Update request CONFIRM makes the trial permanent and raises the security version. -/
  | updConfirm (req : Req)
  /-- R391: One verified step of the sector swap completes and is recorded. -/
  | couchStepDone (ok : Bool)
  /-- R392: The trial window ends without CONFIRM and the AON island orders a chip reset. -/
  | trialExpiry
  /-- R400: Every 10 us the power-entry ADC samples the feeds and judges feed presence. -/
  | peAdcSample (fa fb fbus vout : Nat)
  /-- R399: Reverse current on a feed turns its ideal-diode gate off. -/
  | feedReverse (b : Bool)
  /-- R399: The feed source has exceeded FBUS for 10 us and its gate is driven again. -/
  | feedForwardResume (b : Bool)
  /-- R402: Every 1 s the pin-set window and limits are derived, setting PINERR when out of range. -/
  | pinDerive (p : PinSense)
  /-- R401: The UV/OV window opens or breaks, starting qualification or turning the FET off. -/
  | uvovWindowChange (uvOk ovOk : Bool)
  /-- R404: The window has stayed open for the insertion delay; the FET starts to ramp when allowed. -/
  | insertionDelayEnd
  /-- R415: The gate is fully enhanced and VDS low for 1 ms; the entry reaches ON and entry good. -/
  | rampComplete
  /-- R408: RAMP has not reached ON within 500 ms; the FET turns off with FLT_PWRTIMER. -/
  | rampTimeout
  /-- R406: VSNS reaches the foldback limit; the FET regulates and the fault timer starts. -/
  | regulationEntry (vsns vds : Nat)
  /-- R406: VSNS has stayed below the limit for 100 us; regulation and the fault timer end. -/
  | regulationEnd
  /-- R407: VSNS reaches the fast-trip threshold and the FET is pulled off into COOL. -/
  | fastTrip (vsns : Nat)
  /-- R408: Regulation has lasted TFLT; the FET turns off into COOL with FLT_PWRTIMER. -/
  | faultTimerExpiry
  /-- R409: Every 1 us the FET junction model updates; reaching TMAX turns the FET off. -/
  | thermalModelUpdate (vsns vds temp : Nat)
  /-- R411: The owed off-time runs out with TJ low enough; the entry retries, stops or latches. -/
  | offTimeEnd
  /-- R411: ON has held for 10 s and the consecutive retry count restarts. -/
  | retryCountReset
  /-- R406: The foldback limit has stayed inside its bounds for 1 s; FLT_FOLDSAT is released. -/
  | foldsatRelease
  /-- R415: A keyed write of PWR_CTL.REARM takes a LATCHED power entry to OFF. -/
  | pwrRearm (req : Req) (v : Word)
  /-- R418: VAON33 has stood above 2.80 V for 1 ms; the AON island leaves reset and loads its log state. -/
  | aonStart (fa fb vbus cc2 : Bool) (p : PinSense)
  /-- R418: VAON33 falls below 2.60 V for 1 us and the whole hub is reset. -/
  | aonReset
  /-- R419: A rail has stood above its warning level for 100 us and the next enable is driven. -/
  | railGoodStep
  /-- R419: All core rails have stood above warning for 1 ms; power-good is set. -/
  | powerGood
  /-- R420: A rail misses its warning level within 10 ms of its enable; the attempt ends and powers down. -/
  | railSeqTimeout
  /-- R420: 1 s after a failed attempt the sequencer tries again unless HALTED. -/
  | seqRetry
  /-- R422: A rail dips below warning or entry good falls; SUPWARN and DEFER set and a flush ordered. -/
  | supplyWarningBegin (below above : BitVec 5)
  /-- R424: All rails have recovered for CLRHOLD; the warning ends with a BROWNEND record. -/
  | supplyWarningEnd
  /-- R423: A flash request waiting on DEFER for 1 s ends with its flash failure. -/
  | deferTimeout
  /-- R425: A rail crosses its reset or over-voltage level; chip reset is asserted and rails power down. -/
  | railReset (rail : Fin 4) (ov : Bool)
  /-- R425: 100 ms after a rail reset the sequencer starts again. -/
  | railResequence
  /-- R426: EGRST ms after entry good falls, chip reset follows if no reset level was crossed earlier. -/
  | egrstExpiry
  /-- R427: At 100 us intervals the next rail enable is dropped in reverse order. -/
  | powerDownStep
  /-- R429: RESET_N falls and chip reset is held. -/
  | resetNFall
  /-- R429: RESET_N rises and chip reset is released if power-good is set. -/
  | resetNRise
  /-- R430: A keyed write of PWR_RSTCTL orders an orderly reset and a log flush. -/
  | orderlyResetOrder (req : Req) (v : Word)
  /-- R430: The flush ends or 2 ms pass and the orderly chip reset enters. -/
  | orderlyResetEntry
  /-- R437: A partner is seen on CC for tCCDebounce and the port attaches as sink or source. -/
  | ccAttach (cc2 : Bool) (rplvl : Fin 3) (accessory canSource : Bool)
  /-- R437: CC open for tPDDebounce detaches the port and ends every sequence. -/
  | ccDetach
  /-- R437: As sink, VBUS below 3.67 V for 15 ms outside a transition detaches the port. -/
  | vbusDetach
  /-- R435: The unattached port toggles between source and sink presentation every half tDRP. -/
  | drpToggle
  /-- R438: As sink, Source_Capabilities arrive and the engine requests its chosen PDO. -/
  | pdSourceCapsRx (pdos : List Word)
  /-- R438: As source, a Request is accepted within the PDO or rejected. -/
  | pdRequestRx (pdo : Fin 8) (curr : BitVec 10)
  /-- R444: An Accept of a new sink voltage starts the transition with VBUS detach suspended. -/
  | pdAcceptRx
  /-- R438: A Reject of the sink's Request keeps the contract in force. -/
  | pdRejectRx
  /-- R441: A Wait answer is handled by WAITMODE, retrying or keeping the contract. -/
  | pdWaitRx
  /-- R444: PS_RDY completes the voltage transition and the new contract is in force. -/
  | pdPsRdyRx
  /-- R435: Get_Source_Cap is answered with the source capabilities. -/
  | pdGetSourceCapRx
  /-- R435: Get_Sink_Cap is answered with Sink_Capabilities. -/
  | pdGetSinkCapRx
  /-- R440: A Soft_Reset from the partner is accepted and counted. -/
  | pdSoftResetRx
  /-- R440: A Hard_Reset from the partner is counted and handled keeping SNKEN high. -/
  | pdHardResetRx
  /-- R435: PR_Swap, DR_Swap or VCONN_Swap is answered with Reject. -/
  | pdRoleSwapRx
  /-- R435: Any other PD message is answered with Not_Supported. -/
  | pdUnsupportedRx
  /-- R440: An expected answer misses 27 ms; the engine sends Soft_Reset, then Hard_Reset. -/
  | senderResponseTimeout
  /-- R440: No Source_Capabilities within 465 ms of attachment; the sink sends Hard_Reset. -/
  | sinkWaitCapTimeout
  /-- R440: After 25 ms of open CC in ErrorRecovery the port toggles again. -/
  | errorRecoveryEnd
  /-- R441: 100 ms after a Wait the sink repeats its Request, up to WAITMAX times. -/
  | waitRetry
  /-- R444: PSTransitionTimer expires without PS_RDY and the engine sends Hard_Reset. -/
  | psTransitionTimeout
  /-- R443: As sink, VBUS exceeds the contract by 10 %; SNKEN drops and Hard_Reset is sent. -/
  | vbusOvervoltage (mv : Nat)
  /-- R443: SVC_OCP_N low for 1 ms turns the source off and enters ErrorRecovery. -/
  | sourceOcp
  /-- R439: Keyed SVC_OVR command RENEGOTIATE makes a Request at once with any override. -/
  | svcRenegotiate (req : Req)
  /-- R439: Keyed SVC_OVR command HARDRESET sends Hard_Reset. -/
  | svcHardreset (req : Req)
  /-- R439: Keyed SVC_OVR command ERRORRECOVERY enters ErrorRecovery. -/
  | svcErrorrecovery (req : Req)
  /-- R445: A Vendor_Defined_Extended management request arrives and is passed on, answered or refused BUSY or NOTREADY. -/
  | svcVdmRequest (data : List Byte)
  /-- R446: An IDENT request is answered by the AON island with identity and ream status. -/
  | svcIdent
  /-- R446: A LOGREAD request is answered from the log memory, up to 256 octets. -/
  | svcLogread (off len : Nat)
  /-- R104: The Clause 49 block synchroniser gains block lock with hi_ber clear, starting the 1 ms that ends LOCK. -/
  | blockLockAcquired (k : LaneLock)
  /-- R283: A bus error is detected while the controller receives, raising REC and possibly entering error-passive with FLT_PBPASSIVE. -/
  | pbRxError (b : Fin 16) (kind phase : Fin 8) (af : AfterFlag)
  /-- R271: A recessive res bit after FDF sends the controller to bus integration without an error frame, unless PXHD is off. -/
  | pbProtocolException (b : Fin 16)
  /-- R143: PAIR_PEER rises, so the shared-bus fence withholds transmission and DETAIL[8] FOLLOW is set. -/
  | pairPeerRise
  /-- R364: A write of FLT_ERRN.HOLD keeps ERR_N low, or on clearing releases it once ERRMIN has run out. -/
  | errnHoldWrite (req : Req) (hold : Bool)
  /-- R373: 100 ms after the previous flush began, a flush into which earlier triggers merged starts. -/
  | mergedFlushStart
deriving DecidableEq, Repr

end Sys2Proof
end

