-- ==== Sys2Proof/Machine/Crc.lean ====
section
/-! DEFINITION. Octet strings and the checks of R108, R109 and R371. -/

namespace Sys2Proof.Machine

/-- n octets of a number, least significant first. -/
def leBytes : Nat → Nat → List Byte
  | 0, _ => []
  | n + 1, v => BitVec.ofNat 8 v :: leBytes n (v / 256)

/-- n octets of a number, most significant first (R477). -/
def beBytes (n v : Nat) : List Byte := (leBytes n v).reverse

/-- The number of an octet string, least significant octet first. -/
def ofLe : List Byte → Nat
  | [] => 0
  | b :: t => b.toNat + 256 * ofLe t

/-- The number of an octet string, most significant octet first (R477). -/
def ofBe (l : List Byte) : Nat := ofLe l.reverse

/-- n octets of a list from an offset, short strings filled with 0. -/
def slice (l : List Byte) (off n : Nat) : List Byte :=
  let t := (l.drop off).take n
  t ++ List.replicate (n - t.length) 0#8

/-- One bit of a CRC with the polynomial p that shifts left. -/
def crcStepL (w : Nat) (p : BitVec w) (c : BitVec w) : BitVec w :=
  if c.msb then (c <<< 1) ^^^ p else c <<< 1

/-- One bit of a reflected CRC with the reversed polynomial p. -/
def crcStepR (p c : BitVec 32) : BitVec 32 := if c.getLsbD 0 then (c >>> 1) ^^^ p else c >>> 1

/-- f applied n times. -/
def times {α : Type} : Nat → (α → α) → α → α
  | 0, _, x => x
  | n + 1, f, x => times n f (f x)

/-- R108: CRC-16, polynomial 0x1021, initial value 0xFFFF, no reflection, no final XOR. -/
def crc16 (l : List Byte) : BitVec 16 :=
  l.foldl (fun c b => times 8 (crcStepL 16 0x1021#16) (c ^^^ (b ++ 0#8))) 0xFFFF#16

/-- A reflected CRC-32 with the reversed polynomial p. -/
def crc32R (p : BitVec 32) (l : List Byte) : BitVec 32 :=
  ~~~(l.foldl (fun c b => times 8 (crcStepR p) (c ^^^ b.setWidth 32)) 0xFFFFFFFF#32)

/-- R109: the IEEE 802.3 CRC-32. -/
def crc32 (l : List Byte) : BitVec 32 := crc32R 0xEDB88320#32 l

/-- R309, R371: CRC-32C. -/
def crc32c (l : List Byte) : BitVec 32 := crc32R 0x82F63B78#32 l

end Sys2Proof.Machine
end

