-- ==== Sys2Proof/Config.lean ====
section
/-! DEFINITION. What the spec leaves open and an implementation fixes. A constant without a body is a FREE VALUE:
nothing in Lean can evaluate it, and a theorem holds whatever it is. -/

namespace Sys2Proof.Config

open Machine

/-- FREE VALUE (log 3): word k of the four detail words of a fault record, where no chapter lays it out (R357). -/
opaque faultDetail : (src : Nat) → FaultInfo → (k : Nat) → Word

/-- FREE VALUE (log 4): which of the free cells, of the number given, the head of the free list names (R152). -/
opaque freeCell : (draw : Nat) → (free : Nat) → Nat

/-- FREE VALUE (log 5): octets of the last cell of a frame past its end, which R151 does not define. -/
opaque cellFill : (cell : Nat) → (octet : Nat) → Byte

/-- FREE VALUE (log 6): the root that the part's silicon gives (R328). -/
opaque pufRoot : BitVec 256

/-- FREE VALUE (log 6): the public key, X then Y, that the boot ROM holds at a key index (R383). -/
opaque romKey : (index : Nat) → List Byte

/-- FREE VALUE (log 7): a word that the spec leaves open, drawn by number. -/
opaque freeWord : (draw : Nat) → Word

/-- FREE VALUE (log 7): a choice that the spec leaves open, drawn by number. -/
opaque freeBool : (draw : Nat) → Bool

/-- FREE VALUE (log 8): octet k of the body of an identity copy of the watermark log, whose inner layout the spec does
not give (Table 15.1), as a function of numbers that tell what it holds. -/
opaque identityOctet : (content : List Nat) → (k : Nat) → Byte

/-- FREE VALUE (log 8): octet k of the header of the watermark log beyond its MAGIC, for a part's serial number. -/
opaque logHeader : (serial : List Byte) → (k : Nat) → Byte

/-- FREE VALUE (log 8): octet k of the header of a year record, as a function of what it holds (R376). -/
opaque yearHeader : (content : List Nat) → (k : Nat) → Byte

/-- FREE VALUE (log 39): the temperature in 0.1 C that the beta equation gives for a TEMP voltage in mV, N25 and BETA (R410). -/
opaque ntcTemp : (mv n25 beta : Nat) → Int

/-- FREE VALUE (log 9): octet k of a trailer or chunk that reads back wrong (R372, R386). -/
opaque badTrailer : (draw : Nat) → (k : Nat) → Byte

/-- FREE VALUE (log 10): the factory pad delay of PPS_IN, in 2^-16 ns (Table 02.1): no register shows it. -/
opaque ppsPadDelay : Nat

/-- FREE VALUE (log 154): the pins of the boundary-scan chain from TDI to TDO, which Volheja's description file gives (R460). -/
opaque scanChain : List ScanPin

/-- FREE VALUE (log 154): the length of the TAP's instruction register. -/
opaque tapLength : Nat

/-- FREE VALUE (log 154): the instruction of a TAP code in factory test mode; outside of it a factory code is BYPASS. -/
opaque tapCode : List Bool → TapOp

end Sys2Proof.Config
end

