-- ==== Sys2Proof/Machine/FaultTable.lean ====
section
/-! DEFINITION. The fault sources of Table 14.1 and their defaults (R349). Written from that table. -/

namespace Sys2Proof.Machine

/-- One row of Table 14.1: the base class, the ceiling, whether C0P is set, N, W in ms and the reaction bits of
Table 14.2. -/
structure FaultRow where
  base : Nat
  ceil : Nat
  c0p : Bool
  n : Nat
  w : Nat
  react : Nat
deriving DecidableEq, Repr

namespace Flt

/-- Source 0 of page CHIP_ (Table 14.1). -/
def WORLD : Nat := 0
/-- Source 1 of page CHIP_ (Table 14.1). -/
def DECODE : Nat := 1
/-- Source 2 of page CHIP_ (Table 14.1). -/
def SEALWR : Nat := 2
/-- Source 3 of page ISL_ (Table 14.1). -/
def SKEW : Nat := 3
/-- Source 4 of page ISL_ (Table 14.1). -/
def XSTOP : Nat := 4
/-- Source 5 of page SW_ (Table 14.1). -/
def BUDGET : Nat := 5
/-- Source 6 of page TIME_ (Table 14.1). -/
def TLOCK : Nat := 6
/-- Source 7 of page TIME_ (Table 14.1). -/
def LATE : Nat := 7
/-- Source 8 of page TIME_ (Table 14.1). -/
def RELFULL : Nat := 8
/-- Source 9 of page TIME_ (Table 14.1). -/
def TINCSAT : Nat := 9
/-- Source 10 of page TIME_ (Table 14.1). -/
def PPS : Nat := 10
/-- Source 11 of page RING_ (Table 14.1). -/
def LINK : Nat := 11
/-- Source 12 of page RING_ (Table 14.1). -/
def LINKVER : Nat := 12
/-- Source 13 of page RING_ (Table 14.1). -/
def LINKERR : Nat := 13
/-- Source 14 of page RING_ (Table 14.1). -/
def EQSAT : Nat := 14
/-- Source 15 of page RING_ (Table 14.1). -/
def GMAC : Nat := 15
/-- Source 16 of page MBR_ (Table 14.1). -/
def CENSUS : Nat := 16
/-- Source 17 of page MBR_ (Table 14.1). -/
def NUMCONF : Nat := 17
/-- Source 18 of page MBR_ (Table 14.1). -/
def RINGMIX : Nat := 18
/-- Source 19 of page MBR_ (Table 14.1). -/
def PATH : Nat := 19
/-- Source 20 of page MBR_ (Table 14.1). -/
def PEER : Nat := 20
/-- Source 21 of page MBR_ (Table 14.1). -/
def PAIRVER : Nat := 21
/-- Source 22 of page MBR_ (Table 14.1). -/
def PAIRREAM : Nat := 22
/-- Source 23 of page MBR_ (Table 14.1). -/
def PAIRSPLIT : Nat := 23
/-- Source 24 of page MBR_ (Table 14.1). -/
def SWAP : Nat := 24
/-- Source 25 of page MBR_ (Table 14.1). -/
def DDFULL : Nat := 25
/-- Source 26 of page MBR_ (Table 14.1). -/
def BYPASSNB : Nat := 26
/-- Source 27 of page SW_ (Table 14.1). -/
def VATLOW : Nat := 27
/-- Source 28 of page SW_ (Table 14.1). -/
def VATFULL : Nat := 28
/-- Source 29 of page SW_ (Table 14.1). -/
def VATECC : Nat := 29
/-- Source 30 of page SW_ (Table 14.1). -/
def INOVF : Nat := 30
/-- Source 31 of page SW_ (Table 14.1). -/
def QDROP : Nat := 31
/-- Source 32 of page XB_ (Table 14.1). -/
def CTO : Nat := 32
/-- Source 33 of page XB_ (Table 14.1). -/
def FENCE : Nat := 33
/-- Source 34 of page XB_ (Table 14.1). -/
def POSTFAIL : Nat := 34
/-- Source 35 of page XB_ (Table 14.1). -/
def TUNVER : Nat := 35
/-- Source 36 of page BRD_ (Table 14.1). -/
def BANKV : Nat := 36
/-- Source 37 of page BRD_ (Table 14.1). -/
def CLPLL : Nat := 37
/-- Source 38 of page BRD_ (Table 14.1). -/
def ENGFAULT : Nat := 38
/-- Source 39 of page BRD_ (Table 14.1). -/
def FILLLOST : Nat := 39
/-- Source 40 of page SEN_ (Table 14.1). -/
def SENSAT : Nat := 40
/-- Source 41 of page SEN_ (Table 14.1). -/
def SENCHAT : Nat := 41
/-- Source 42 of page GRD_ (Table 14.1). -/
def GRDCOPY : Nat := 42
/-- Source 43 of page GRD_ (Table 14.1). -/
def GRDMAXON : Nat := 43
/-- Source 44 of page GRD_ (Table 14.1). -/
def GRDRB : Nat := 44
/-- Source 45 of page GRD_ (Table 14.1). -/
def PAIRDIFF : Nat := 45
/-- Source 46 of page PB_ (Table 14.1). -/
def PBCFG : Nat := 46
/-- Source 47 of page PB_ (Table 14.1). -/
def PBSPOOL : Nat := 47
/-- Source 48 of page PB_ (Table 14.1). -/
def PBPASSIVE : Nat := 48
/-- Source 49 of page PB_ (Table 14.1). -/
def PBBUSOFF : Nat := 49
/-- Source 50 of page PB_ (Table 14.1). -/
def PBALONE : Nat := 50
/-- Source 51 of page REAM_ (Table 14.1). -/
def REAMSLOT : Nat := 51
/-- Source 52 of page REAM_ (Table 14.1). -/
def NOREAM : Nat := 52
/-- Source 53 of page KEY_ (Table 14.1). -/
def PUF : Nat := 53
/-- Source 54 of page KEY_ (Table 14.1). -/
def KEYTAG : Nat := 54
/-- Source 55 of page KEY_ (Table 14.1). -/
def KEYUSE : Nat := 55
/-- Source 56 of page FLT_ (Table 14.1). -/
def LOCKSTEP : Nat := 56
/-- Source 57 of page FLT_ (Table 14.1). -/
def MGMTECC : Nat := 57
/-- Source 58 of page FLT_ (Table 14.1). -/
def BIST : Nat := 58
/-- Source 59 of page FLT_ (Table 14.1). -/
def RESETLOOP : Nat := 59
/-- Source 60 of page FLT_ (Table 14.1). -/
def TESTSTRAP : Nat := 60
/-- Source 61 of page PWR_ (Table 14.1). -/
def DIETEMP : Nat := 61
/-- Source 62 of page PWR_ (Table 14.1). -/
def FOLDSAT : Nat := 62
/-- Source 63 of page PWR_ (Table 14.1). -/
def PWRTRIP : Nat := 63
/-- Source 64 of page PWR_ (Table 14.1). -/
def PWRLIMIT : Nat := 64
/-- Source 65 of page PWR_ (Table 14.1). -/
def PWRTIMER : Nat := 65
/-- Source 66 of page PWR_ (Table 14.1). -/
def PWRFEED : Nat := 66
/-- Source 67 of page PWR_ (Table 14.1). -/
def PWRUVOV : Nat := 67
/-- Source 68 of page PWR_ (Table 14.1). -/
def FETTEMP : Nat := 68
/-- Source 69 of page PWR_ (Table 14.1). -/
def SUPWARN : Nat := 69
/-- Source 70 of page PWR_ (Table 14.1). -/
def RAILRST : Nat := 70
/-- Source 71 of page LOG_ (Table 14.1). -/
def LOGWR : Nat := 71
/-- Source 72 of page LOG_ (Table 14.1). -/
def LOGWEAR : Nat := 72
/-- Source 73 of page UPD_ (Table 14.1). -/
def UPDFAIL : Nat := 73
/-- Source 74 of page UPD_ (Table 14.1). -/
def TRIALBACK : Nat := 74
/-- Source 75 of page SVC_ (Table 14.1). -/
def SVCPD : Nat := 75
/-- Source 76 of page SVC_ (Table 14.1). -/
def SVCFAULT : Nat := 76
/-- Source 77 of page FLT_ (Table 14.1). -/
def MGMTHALT : Nat := 77

end Flt

/-- Table 14.1, sources 0 to 38. -/
def faultRows0 : List FaultRow := [
  ⟨1, 2, false, 16, 1000, 0⟩,  -- FLT_WORLD
  ⟨0, 1, false, 16, 1000, 0⟩,  -- FLT_DECODE
  ⟨0, 1, false, 16, 1000, 0⟩,  -- FLT_SEALWR
  ⟨1, 2, false, 16, 1000, 0⟩,  -- FLT_SKEW
  ⟨2, 3, false, 16, 1000, 0⟩,  -- FLT_XSTOP
  ⟨1, 2, false, 16, 1000, 0⟩,  -- FLT_BUDGET
  ⟨2, 3, true, 16, 1000, 0⟩,  -- FLT_TLOCK
  ⟨1, 3, true, 5, 100, 0⟩,  -- FLT_LATE
  ⟨2, 3, true, 16, 1000, 0⟩,  -- FLT_RELFULL
  ⟨1, 2, false, 16, 1000, 0⟩,  -- FLT_TINCSAT
  ⟨1, 2, false, 16, 1000, 0⟩,  -- FLT_PPS
  ⟨1, 2, false, 16, 1000, 0⟩,  -- FLT_LINK
  ⟨2, 2, false, 16, 1000, 0⟩,  -- FLT_LINKVER
  ⟨1, 2, false, 16, 1000, 0⟩,  -- FLT_LINKERR
  ⟨1, 2, false, 16, 1000, 0⟩,  -- FLT_EQSAT
  ⟨1, 3, false, 16, 1000, 0⟩,  -- FLT_GMAC
  ⟨2, 3, false, 16, 1000, 0⟩,  -- FLT_CENSUS
  ⟨2, 2, false, 16, 1000, 0⟩,  -- FLT_NUMCONF
  ⟨2, 2, false, 16, 1000, 0⟩,  -- FLT_RINGMIX
  ⟨1, 2, false, 16, 1000, 0⟩,  -- FLT_PATH
  ⟨2, 3, false, 16, 1000, 0⟩,  -- FLT_PEER
  ⟨2, 2, false, 16, 1000, 0⟩,  -- FLT_PAIRVER
  ⟨2, 3, false, 16, 1000, 0⟩,  -- FLT_PAIRREAM
  ⟨2, 3, false, 16, 1000, 0⟩,  -- FLT_PAIRSPLIT
  ⟨1, 2, false, 16, 1000, 0⟩,  -- FLT_SWAP
  ⟨2, 3, true, 16, 1000, 0⟩,  -- FLT_DDFULL
  ⟨1, 2, false, 16, 1000, 0⟩,  -- FLT_BYPASSNB
  ⟨1, 2, false, 16, 1000, 0⟩,  -- FLT_VATLOW
  ⟨2, 3, true, 16, 1000, 0⟩,  -- FLT_VATFULL
  ⟨2, 4, false, 4, 10000, 0⟩,  -- FLT_VATECC
  ⟨1, 2, false, 16, 1000, 0⟩,  -- FLT_INOVF
  ⟨1, 2, false, 16, 1000, 0⟩,  -- FLT_QDROP
  ⟨1, 2, false, 16, 1000, 0⟩,  -- FLT_CTO
  ⟨1, 2, false, 16, 1000, 0⟩,  -- FLT_FENCE
  ⟨1, 2, false, 16, 1000, 0⟩,  -- FLT_POSTFAIL
  ⟨1, 1, false, 16, 1000, 0⟩,  -- FLT_TUNVER
  ⟨2, 2, false, 16, 1000, 0⟩,  -- FLT_BANKV
  ⟨2, 3, false, 16, 1000, 0⟩,  -- FLT_CLPLL
  ⟨2, 3, false, 16, 1000, 0⟩]  -- FLT_ENGFAULT

/-- Table 14.1, sources 39 to 77. -/
def faultRows1 : List FaultRow := [
  ⟨1, 2, false, 16, 1000, 0⟩,  -- FLT_FILLLOST
  ⟨1, 2, false, 16, 1000, 0⟩,  -- FLT_SENSAT
  ⟨1, 2, false, 16, 1000, 0⟩,  -- FLT_SENCHAT
  ⟨3, 4, true, 2, 1000, 0⟩,  -- FLT_GRDCOPY
  ⟨2, 3, false, 16, 1000, 0⟩,  -- FLT_GRDMAXON
  ⟨2, 3, false, 16, 1000, 0⟩,  -- FLT_GRDRB
  ⟨2, 2, false, 16, 1000, 0⟩,  -- FLT_PAIRDIFF
  ⟨2, 2, false, 16, 1000, 0⟩,  -- FLT_PBCFG
  ⟨1, 2, false, 16, 1000, 0⟩,  -- FLT_PBSPOOL
  ⟨1, 2, false, 16, 1000, 0⟩,  -- FLT_PBPASSIVE
  ⟨2, 3, false, 16, 1000, 0⟩,  -- FLT_PBBUSOFF
  ⟨1, 2, false, 16, 1000, 0⟩,  -- FLT_PBALONE
  ⟨1, 1, false, 16, 1000, 0⟩,  -- FLT_REAMSLOT
  ⟨2, 2, false, 16, 1000, 0⟩,  -- FLT_NOREAM
  ⟨3, 3, false, 16, 1000, 0⟩,  -- FLT_PUF
  ⟨2, 4, false, 4, 10000, 0⟩,  -- FLT_KEYTAG
  ⟨1, 2, false, 16, 1000, 0⟩,  -- FLT_KEYUSE
  ⟨3, 4, false, 2, 60000, 8⟩,  -- FLT_LOCKSTEP
  ⟨1, 3, false, 16, 1000, 0⟩,  -- FLT_MGMTECC
  ⟨2, 3, false, 16, 1000, 0⟩,  -- FLT_BIST
  ⟨2, 4, false, 3, 60000, 0⟩,  -- FLT_RESETLOOP
  ⟨1, 1, false, 16, 1000, 0⟩,  -- FLT_TESTSTRAP
  ⟨2, 3, false, 16, 1000, 0⟩,  -- FLT_DIETEMP
  ⟨1, 2, false, 16, 1000, 0⟩,  -- FLT_FOLDSAT
  ⟨2, 3, false, 16, 1000, 0⟩,  -- FLT_PWRTRIP
  ⟨1, 2, false, 16, 1000, 0⟩,  -- FLT_PWRLIMIT
  ⟨2, 3, false, 16, 1000, 0⟩,  -- FLT_PWRTIMER
  ⟨1, 2, false, 16, 1000, 0⟩,  -- FLT_PWRFEED
  ⟨2, 2, false, 16, 1000, 0⟩,  -- FLT_PWRUVOV
  ⟨2, 3, false, 16, 1000, 0⟩,  -- FLT_FETTEMP
  ⟨1, 2, false, 16, 1000, 0⟩,  -- FLT_SUPWARN
  ⟨2, 3, false, 16, 1000, 0⟩,  -- FLT_RAILRST
  ⟨2, 3, false, 16, 1000, 0⟩,  -- FLT_LOGWR
  ⟨1, 2, false, 16, 1000, 0⟩,  -- FLT_LOGWEAR
  ⟨1, 2, false, 16, 1000, 0⟩,  -- FLT_UPDFAIL
  ⟨2, 2, false, 16, 1000, 0⟩,  -- FLT_TRIALBACK
  ⟨0, 1, false, 16, 1000, 0⟩,  -- FLT_SVCPD
  ⟨1, 2, false, 16, 1000, 0⟩,  -- FLT_SVCFAULT
  ⟨3, 3, false, 16, 1000, 0⟩]  -- FLT_MGMTHALT

/-- Table 14.1: the defaults of source n; sources 78 to 127 are reserved (R349). -/
def faultRow (n : Nat) : Option FaultRow := (faultRows0 ++ faultRows1)[n]?

end Sys2Proof.Machine
end

