-- ==== Sys2Proof/Machine/RegMap.lean ====
section
/-! DEFINITION. The register map: the address of every register of the page tables of the spec (Tables 02.5, 03.5,
04.9, 05.6, 06.4, 07.12, 07.14, 07.16, 08.9, 09.7, 09.9, 10.5, 11.5, 12.8, 13.3, 14.5, 15.5, 16.4, 17.4, 18.5 and
19.3), at the page offsets of Table 03.3; the place of every field of their field tables; and one row per register
with its reset value and the bits each access code of Table 00.6 covers. Written from those tables. -/

namespace Sys2Proof.Machine

/-- A field of a register: its local address, its lowest bit and its width (R9). -/
structure Field where
  reg : Nat
  lo : Nat
  width : Nat
deriving DecidableEq, Repr

/-- Table 03.3: the 0x4000 block of ring lane l (0 EA, 1 WA, 2 EB, 3 WB, 4 PL). -/
def laneBase (l : Nat) : Nat := if l = 4 then 0x080000 else 0x020000 + 0x4000 * l

namespace Reg

/-- 02.5: Current NS. -/
def TIME_NOW_NS : Nat := 0x010000
/-- 02.5: Latched SEC[31:0]. -/
def TIME_NOW_SEC : Nat := 0x010004
/-- 02.5: Latched FRAC and SEC[47:32]. -/
def TIME_NOW_HI : Nat := 0x010008
/-- 02.5: Increment, fraction low. -/
def TIME_INC_LO : Nat := 0x010010
/-- 02.5: Increment, high part. -/
def TIME_INC_HI : Nat := 0x010014
/-- 02.5: Lower bound, low. -/
def TIME_INC_MIN_LO : Nat := 0x010018
/-- 02.5: Lower bound, high. -/
def TIME_INC_MIN_HI : Nat := 0x01001C
/-- 02.5: Upper bound, low. -/
def TIME_INC_MAX_LO : Nat := 0x010020
/-- 02.5: Upper bound, high. -/
def TIME_INC_MAX_HI : Nat := 0x010024
/-- 02.5: Step, whole seconds. -/
def TIME_STEP_SEC : Nat := 0x010028
/-- 02.5: Step, ns. -/
def TIME_STEP_NS : Nat := 0x01002C
/-- 02.5: Step fraction and control. -/
def TIME_STEP_CTL : Nat := 0x010030
/-- 02.5: Owner, step limit, holdover. -/
def TIME_LOCK_CTL : Nat := 0x010034
/-- 02.5: Offset written by the servo owner. -/
def TIME_OFFSET : Nat := 0x010038
/-- 02.5: Lock state and events. -/
def TIME_STATUS : Nat := 0x01003C
/-- 02.5: H_c per class. -/
def TIME_HORIZON (n : Nat) : Nat := 0x010040 + 0x4 * n
/-- 02.5: Horizon bounds per class. -/
def TIME_HBOUND (n : Nat) : Nat := 0x010060 + 0x4 * n
/-- 02.5: Switch stamp, SEC[31:0]. -/
def TIME_HCHG_SEC : Nat := 0x010080
/-- 02.5: Switch stamp, NS. -/
def TIME_HCHG_NS : Nat := 0x010084
/-- 02.5: Armed and last change. -/
def TIME_HCHG_STAT : Nat := 0x010088
/-- 02.5: Events past the deckle per class. -/
def TIME_LATECNT (n : Nat) : Nat := 0x0100A0 + 0x4 * n
/-- 02.5: Events released by a jump. -/
def TIME_SKIPCNT : Nat := 0x0100C0
/-- 02.5: Events delivered because the store was full. -/
def TIME_FULLCNT : Nat := 0x0100C4
/-- 02.5: Events discarded before opening. -/
def TIME_PRECNT : Nat := 0x0100C8
/-- 02.5: PPS_IN and PPS_OUT. -/
def TIME_PPS_CTL : Nat := 0x0100D0
/-- 02.5: NS of last qualified PPS_IN edge. -/
def TIME_PPS_NS : Nat := 0x0100D4
/-- 02.5: SEC[31:0] of that edge. -/
def TIME_PPS_SEC : Nat := 0x0100D8
/-- 02.5: Grandmaster priority and sources. -/
def TIME_GM_CTL : Nat := 0x0100E0
/-- 02.5: Current grandmaster and path. -/
def TIME_GM_STAT : Nat := 0x0100E4
/-- 03.5: Part and vendor codes. -/
def CHIP_ID : Nat := 0x000000
/-- 03.5: Stepping. -/
def CHIP_REV : Nat := 0x000004
/-- 03.5: Serial number, bits 31:0. -/
def CHIP_SERIAL_LO : Nat := 0x000008
/-- 03.5: Serial number, bits 63:32. -/
def CHIP_SERIAL_HI : Nat := 0x00000C
/-- 03.5: Straps sampled at chip reset. -/
def CHIP_STRAP : Nat := 0x000010
/-- 03.5: Seal state and pre-seal count. -/
def CHIP_SEAL : Nat := 0x000014
/-- 03.5: World of the reading request. -/
def CHIP_CALLER : Nat := 0x000018
/-- 03.5: World of register pages. -/
def CHIP_PAGEWLD (n : Nat) : Nat := 0x000020 + 0x4 * n
/-- 03.5: World of host windows 0–31. -/
def CHIP_WINWLD : Nat := 0x000040
/-- 03.5: World of switch ports. -/
def CHIP_PORTWLD : Nat := 0x000044
/-- 03.5: World of the vat and log windows. -/
def CHIP_MISCWLD : Nat := 0x000048
/-- 04.9: Lane use, mode, SECAUTH, features offered. -/
def RING_CTL (l : Nat) : Nat := laneBase l + 0x0
/-- 04.9: Shadow of the lane's state word (Table 01.4). -/
def RING_STATE (l : Nat) : Nat := laneBase l + 0x4
/-- 04.9: Lane command. -/
def RING_CMD (l : Nat) : Nat := laneBase l + 0x8
/-- 04.9: Command status. -/
def RING_CMDSTAT (l : Nat) : Nat := laneBase l + 0xC
/-- 04.9: Link events. -/
def RING_EVT (l : Nat) : Nat := laneBase l + 0x10
/-- 04.9: Link state, version and features in force, pins. -/
def RING_LINK (l : Nat) : Nat := laneBase l + 0x14
/-- 04.9: Partner identity. -/
def RING_PARTNER (l : Nat) : Nat := laneBase l + 0x18
/-- 04.9: Partner serial number, bits 31:0. -/
def RING_PSERIAL_LO (l : Nat) : Nat := laneBase l + 0x1C
/-- 04.9: Partner serial number, bits 63:32. -/
def RING_PSERIAL_HI (l : Nat) : Nat := laneBase l + 0x20
/-- 04.9: Factory lane latencies for the mode selected. -/
def RING_LAT (l : Nat) : Nat := laneBase l + 0x30
/-- 04.9: Board trace delays. -/
def RING_TRACE (l : Nat) : Nat := laneBase l + 0x34
/-- 04.9: Link asymmetry constant. -/
def RING_ASYM (l : Nat) : Nat := laneBase l + 0x38
/-- 04.9: Mean link delay (R58). -/
def RING_DELAY (l : Nat) : Nat := laneBase l + 0x3C
/-- 04.9: CTLE and TAP1 bounds. -/
def RING_EQ_BND0 (l : Nat) : Nat := laneBase l + 0x40
/-- 04.9: TAP2–TAP5 bounds. -/
def RING_EQ_BND1 (l : Nat) : Nat := laneBase l + 0x44
/-- 04.9: CTLE and TAP1 in use. -/
def RING_EQ_NOW0 (l : Nat) : Nat := laneBase l + 0x48
/-- 04.9: TAP2–TAP5 in use. -/
def RING_EQ_NOW1 (l : Nat) : Nat := laneBase l + 0x4C
/-- 04.9: Saturation and transmit limits. -/
def RING_EQ_STAT (l : Nat) : Nat := laneBase l + 0x50
/-- 04.9: Transmit FIR codes. -/
def RING_TXFIR (l : Nat) : Nat := laneBase l + 0x54
/-- 04.9: Transmit FIR bounds. -/
def RING_TXFIR_BND (l : Nat) : Nat := laneBase l + 0x58
/-- 04.9: Counters (Table 04.14). -/
def RING_CNT_RXF (l : Nat) : Nat := laneBase l + 0x80
/-- 04.9: Counters (Table 04.14). -/
def RING_CNT_TXF (l : Nat) : Nat := laneBase l + 0x84
/-- 04.9: Counters (Table 04.14). -/
def RING_CNT_BLK (l : Nat) : Nat := laneBase l + 0x88
/-- 04.9: Counters (Table 04.14). -/
def RING_CNT_HCRC (l : Nat) : Nat := laneBase l + 0x8C
/-- 04.9: Counters (Table 04.14). -/
def RING_CNT_FCS (l : Nat) : Nat := laneBase l + 0x90
/-- 04.9: Counters (Table 04.14). -/
def RING_CNT_STOMP (l : Nat) : Nat := laneBase l + 0x94
/-- 04.9: Counters (Table 04.14). -/
def RING_CNT_DISC (l : Nat) : Nat := laneBase l + 0x98
/-- 04.9: Counters (Table 04.14). -/
def RING_CNT_GMAC (l : Nat) : Nat := laneBase l + 0x9C
/-- 04.9: Counters (Table 04.14). -/
def RING_CNT_HOPS (l : Nat) : Nat := laneBase l + 0xA0
/-- 04.9: Counters (Table 04.14). -/
def RING_CNT_DLYDISC (l : Nat) : Nat := laneBase l + 0xA4
/-- 04.9: Versions offered. -/
def RING_VERSION : Nat := 0x084000
/-- 04.9: Error-rate window and threshold. -/
def RING_ERRCFG : Nat := 0x084004
/-- 05.6: Rings, manager capability, fixed numbers, pair-B mode. -/
def MBR_CFG : Nat := 0x030000
/-- 05.6: Ring masks of the two pairs. -/
def MBR_BRIDGE : Nat := 0x030004
/-- 05.6: Duplicate-entry age. -/
def MBR_DDCFG : Nat := 0x030008
/-- 05.6: Mirror pair and swap timing. -/
def MBR_PAIRCFG : Nat := 0x03000C
/-- 05.6: Reservation time. -/
def MBR_HOLDNUM : Nat := 0x030010
/-- 05.6: Identity on pair A's ring. -/
def MBR_ID_A : Nat := 0x030020
/-- 05.6: Identity on pair B's ring (bridge). -/
def MBR_ID_B : Nat := 0x030024
/-- 05.6: Manager and round, pair A. -/
def MBR_MGR : Nat := 0x030028
/-- 05.6: Join and pair status. -/
def MBR_STATUS : Nat := 0x03002C
/-- 05.6: Events. -/
def MBR_EVT : Nat := 0x030030
/-- 05.6: Census, swap, free. -/
def MBR_CTL : Nat := 0x030034
/-- 05.6: Faulted paths. -/
def MBR_PATH : Nat := 0x030038
/-- 05.6: Role and swap. -/
def MBR_PAIR : Nat := 0x03003C
/-- 05.6: USED of the last COMMIT, bits 0–127. -/
def MBR_USED (n : Nat) : Nat := 0x030040 + 0x4 * n
/-- 05.6: RESERVED of the last COMMIT. -/
def MBR_RESV (n : Nat) : Nat := 0x030050 + 0x4 * n
/-- 05.6: Counters. -/
def MBR_CNT_DUP : Nat := 0x030080
/-- 05.6: Counters. -/
def MBR_CNT_OLD : Nat := 0x030084
/-- 05.6: Counters. -/
def MBR_CNT_DDFULL : Nat := 0x030088
/-- 05.6: Counters. -/
def MBR_CNT_INCRESET : Nat := 0x03008C
/-- 05.6: Counters. -/
def MBR_CNT_CENBAD : Nat := 0x030090
/-- 05.6: Counters. -/
def MBR_CNT_ROUND : Nat := 0x030094
/-- 05.6: Counters. -/
def MBR_CNT_EARLY : Nat := 0x030098
/-- 06.4: Low-vat threshold. -/
def SW_VATCFG : Nat := 0x040000
/-- 06.4: Free cells. -/
def SW_VATFREE : Nat := 0x040004
/-- 06.4: Fewest free cells since last read. -/
def SW_VATMIN : Nat := 0x040008
/-- 06.4: Core events. -/
def SW_EVT : Nat := 0x04000C
/-- 06.4: Mirror queue limits. -/
def SW_MIRCFG : Nat := 0x040010
/-- 06.4: Output scheduling. -/
def SW_OUTCFG (n : Nat) : Nat := 0x040020 + 0x4 * n
/-- 06.4: Queue policy and limit. -/
def SW_QCFG (o c : Nat) : Nat := 0x040080 + 0x20 * o + 0x4 * c
/-- 06.4: Tail sampling. -/
def SW_TSCFG (o c : Nat) : Nat := 0x040400 + 0x20 * o + 0x4 * c
/-- 06.4: Lost items. -/
def SW_LOST (o c : Nat) : Nat := 0x040800 + 0x20 * o + 0x4 * c
/-- 06.4: Ingress buffer overflows. -/
def SW_CNT_INOVF (n : Nat) : Nat := 0x040C00 + 0x4 * n
/-- 06.4: Frames lowered (R88). -/
def SW_CNT_LOWER : Nat := 0x040D00
/-- 06.4: Authenticated frames discarded (R89). -/
def SW_CNT_AUTHWD : Nat := 0x040D04
/-- 06.4: C0–C2 copies refused for lack of cells. -/
def SW_CNT_VATFULL : Nat := 0x040D08
/-- 06.4: Vat ECC events (R153). -/
def SW_CNT_ECC : Nat := 0x040D0C
/-- 06.4: Copies refused under R157. -/
def SW_CNT_WORLDQ : Nat := 0x040D10
/-- 06.4: Tail samples skipped. -/
def SW_CNT_TSSKIP : Nat := 0x040D14
/-- 06.4: Tail samples lost from mirror queues. -/
def SW_CNT_TSLOST : Nat := 0x040D18
/-- 06.4: Class budgets. -/
def SW_BUDGET (i c : Nat) : Nat := 0x040E00 + 0x20 * i + 0x4 * c
/-- 06.4: Budget overruns. -/
def SW_BUDSTAT (n : Nat) : Nat := 0x041100 + 0x4 * n
/-- 06.4: Pop of host queue q. -/
def SW_HQ_HEAD (q : Nat) : Nat := 0x042000 + 0x10 * q
/-- 06.4: Fill of host queue q. -/
def SW_HQ_LVL (q : Nat) : Nat := 0x042004 + 0x10 * q
/-- 06.4: Window of host queue q, 2,112 octets. -/
def SW_HQ_WIN (q : Nat) : Nat := 0x044000 + 0x1000 * q
/-- 07.12: Read split size, completion timeout. -/
def XB_CFG : Nat := 0x050000
/-- 07.12: Fence wait. -/
def XB_ORD : Nat := 0x050004
/-- 07.12: Tags kept for MC. -/
def XB_TAGCFG : Nat := 0x050008
/-- 07.12: Tags in use. -/
def XB_TAGUSE : Nat := 0x05000C
/-- 07.12: Requester streams. -/
def XB_STREAM : Nat := 0x050010
/-- 07.12: Completer stream. -/
def XB_CPLSTREAM : Nat := 0x050014
/-- 07.12: Route per destination ring. -/
def XB_RTE : Nat := 0x050018
/-- 07.12: Notice rate. -/
def XB_PFCFG : Nat := 0x05001C
/-- 07.12: Default far ports. -/
def XB_TUNDEF : Nat := 0x050020
/-- 07.12: Events. -/
def XB_EVT : Nat := 0x050024
/-- 07.12: Pop of the notice queue. -/
def XB_PFQ : Nat := 0x050030
/-- 07.12: Failed address, bits 31:0. -/
def XB_PFQ_ADDR_LO : Nat := 0x050034
/-- 07.12: Failed address, bits 47:32. -/
def XB_PFQ_ADDR_HI : Nat := 0x050038
/-- 07.12: Side-band destination. -/
def XB_SB_DST : Nat := 0x050040
/-- 07.12: Side-band data. -/
def XB_SB_DATA : Nat := 0x050044
/-- 07.12: Pop of the doorbell queue. -/
def XB_DOORBELL : Nat := 0x050048
/-- 07.12: Doorbells queued. -/
def XB_DBLVL : Nat := 0x05004C
/-- 07.12: Counters. -/
def XB_CNT_MALF : Nat := 0x050080
/-- 07.12: Counters. -/
def XB_CNT_BADCPL : Nat := 0x050084
/-- 07.12: Counters. -/
def XB_CNT_BUSY : Nat := 0x050088
/-- 07.12: Counters. -/
def XB_CNT_CTO : Nat := 0x05008C
/-- 07.12: Counters. -/
def XB_CNT_LATECPL : Nat := 0x050090
/-- 07.12: Counters. -/
def XB_CNT_REROUTE : Nat := 0x050094
/-- 07.12: Counters. -/
def XB_CNT_FENCETO : Nat := 0x050098
/-- 07.12: Counters. -/
def XB_CNT_PFSUPP : Nat := 0x05009C
/-- 07.12: Counters. -/
def XB_CNT_PFSTALE : Nat := 0x0500A0
/-- 07.12: Counters. -/
def XB_CNT_SBBAD : Nat := 0x0500A4
/-- 07.12: Counters. -/
def XB_CNT_DBFULL : Nat := 0x0500A8
/-- 07.12: Counters. -/
def XB_CNT_TUNVER : Nat := 0x0500AC
/-- 07.12: Counters. -/
def XB_CNT_TUNDROP : Nat := 0x0500B0
/-- 07.12: Counters. -/
def XB_CNT_NOROUTE : Nat := 0x0500B4
/-- 07.12: Counters. -/
def XB_CNT_PFSENT : Nat := 0x0500B8
/-- 07.12: Counters. -/
def XB_CNT_PFRECV : Nat := 0x0500BC
/-- 07.12: Counters. -/
def XB_CNT_GUESS : Nat := 0x0500C0
/-- 07.14: BAR2 size. -/
def HP_CTL : Nat := 0x060000
/-- 07.14: Shadow of the state word. -/
def HP_STATE : Nat := 0x060004
/-- 07.14: Link status. -/
def HP_LINK : Nat := 0x060008
/-- 07.14: Link events. -/
def HP_EVT : Nat := 0x06000C
/-- 07.14: Device ID, Vendor ID. -/
def HP_ID0 : Nat := 0x060010
/-- 07.14: Subsystem IDs. -/
def HP_ID1 : Nat := 0x060014
/-- 07.14: Class code, revision. -/
def HP_ID2 : Nat := 0x060018
/-- 07.14: Counters. -/
def HP_CNT_NOWIN : Nat := 0x060080
/-- 07.14: Counters. -/
def HP_CNT_DROPCPL : Nat := 0x060084
/-- 07.14: Counters. -/
def HP_CNT_CRS : Nat := 0x060088
/-- 07.14: Counters. -/
def HP_CNT_CA : Nat := 0x06008C
/-- 07.14: Window enable, direction, lanes, size. -/
def HP_WIN_CTL (w : Nat) : Nat := 0x060100 + 0x20 * w
/-- 07.14: SRC, bits 31:0 and 63:32. -/
def HP_WIN_SRC_LO (w : Nat) : Nat := 0x060104 + 0x20 * w
/-- 07.14: SRC, bits 31:0 and 63:32. -/
def HP_WIN_SRC_HI (w : Nat) : Nat := 0x060108 + 0x20 * w
/-- 07.14: DST, bits 31:0 and 63:32. -/
def HP_WIN_DST_LO (w : Nat) : Nat := 0x06010C + 0x20 * w
/-- 07.14: DST, bits 31:0 and 63:32. -/
def HP_WIN_DST_HI (w : Nat) : Nat := 0x060110 + 0x20 * w
/-- 07.16: Mode and enables. -/
def ST_CTL (p : Nat) : Nat := 0x070000 + 0x1000 * p + 0x0
/-- 07.16: Shadow of the state word. -/
def ST_STATE (p : Nat) : Nat := 0x070000 + 0x1000 * p + 0x4
/-- 07.16: Command. -/
def ST_CMD (p : Nat) : Nat := 0x070000 + 0x1000 * p + 0x8
/-- 07.16: Command status. -/
def ST_CMDSTAT (p : Nat) : Nat := 0x070000 + 0x1000 * p + 0xC
/-- 07.16: Link status. -/
def ST_LINK (p : Nat) : Nat := 0x070000 + 0x1000 * p + 0x10
/-- 07.16: Factory port latency (R52). -/
def ST_LAT (p : Nat) : Nat := 0x070000 + 0x1000 * p + 0x14
/-- 07.16: External PHY latency (R52). -/
def ST_PHYLAT (p : Nat) : Nat := 0x070000 + 0x1000 * p + 0x18
/-- 07.16: Action for unmatched frames. -/
def ST_DEFAULT (p : Nat) : Nat := 0x070000 + 0x1000 * p + 0x1C
/-- 07.16: Pop of the transmit stamp FIFO (R64). -/
def ST_TSFIFO (p : Nat) : Nat := 0x070000 + 0x1000 * p + 0x20
/-- 07.16: Latched stamp: NS. -/
def ST_TS_NS (p : Nat) : Nat := 0x070000 + 0x1000 * p + 0x24
/-- 07.16: Latched stamp: NS. -/
def ST_TS_SEC (p : Nat) : Nat := 0x070000 + 0x1000 * p + 0x28
/-- 07.16: Rule k match, k = 0–15. -/
def ST_RULE_MATCH (p k : Nat) : Nat := 0x070000 + 0x1000 * p + 0x100 + 0x8 * k
/-- 07.16: Rule k action. -/
def ST_RULE_ACT (p k : Nat) : Nat := 0x070000 + 0x1000 * p + 0x104 + 0x8 * k
/-- 07.16: Counters. -/
def ST_CNT_RXF (p : Nat) : Nat := 0x070000 + 0x1000 * p + 0x200
/-- 07.16: Counters. -/
def ST_CNT_TXF (p : Nat) : Nat := 0x070000 + 0x1000 * p + 0x204
/-- 07.16: Counters. -/
def ST_CNT_FCS (p : Nat) : Nat := 0x070000 + 0x1000 * p + 0x208
/-- 07.16: Counters. -/
def ST_CNT_SHORT (p : Nat) : Nat := 0x070000 + 0x1000 * p + 0x20C
/-- 07.16: Counters. -/
def ST_CNT_LONG (p : Nat) : Nat := 0x070000 + 0x1000 * p + 0x210
/-- 07.16: Counters. -/
def ST_CNT_NORULE (p : Nat) : Nat := 0x070000 + 0x1000 * p + 0x214
/-- 07.16: Counters. -/
def ST_CNT_TSOVF (p : Nat) : Nat := 0x070000 + 0x1000 * p + 0x218
/-- 08.9: Enable, clock, bank, lock. -/
def BRD_CCFG (c : Nat) : Nat := 0x100000 + 0x10000 * c + 0x0
/-- 08.9: Shadow of the cluster state word. -/
def BRD_CSTATE (c : Nat) : Nat := 0x100000 + 0x10000 * c + 0x4
/-- 08.9: Cluster command. -/
def BRD_CCMD (c : Nat) : Nat := 0x100000 + 0x10000 * c + 0x8
/-- 08.9: Command status. -/
def BRD_CCMDSTAT (c : Nat) : Nat := 0x100000 + 0x10000 * c + 0xC
/-- 08.9: T, NS. -/
def BRD_TMS_NS (c : Nat) : Nat := 0x100000 + 0x10000 * c + 0x10
/-- 08.9: T, SEC[31:0]. -/
def BRD_TMS_SEC (c : Nat) : Nat := 0x100000 + 0x10000 * c + 0x14
/-- 08.9: T, SEC[47:32]. -/
def BRD_TMS_HI (c : Nat) : Nat := 0x100000 + 0x10000 * c + 0x18
/-- 08.9: Engine and wire flags. -/
def BRD_FLAGS (c : Nat) : Nat := 0x100000 + 0x10000 * c + 0x20
/-- 08.9: Set engine flags. -/
def BRD_FLAGSET (c : Nat) : Nat := 0x100000 + 0x10000 * c + 0x24
/-- 08.9: Events. -/
def BRD_EVT (c : Nat) : Nat := 0x100000 + 0x10000 * c + 0x28
/-- 08.9: Line owners. -/
def BRD_LINEOWN (c n : Nat) : Nat := 0x100000 + 0x10000 * c + 0x30 + 0x4 * n
/-- 08.9: Edge events per line. -/
def BRD_EDGECFG (c n : Nat) : Nat := 0x100000 + 0x10000 * c + 0x40 + 0x4 * n
/-- 08.9: Edge event route. -/
def BRD_EDGESTR (c : Nat) : Nat := 0x100000 + 0x10000 * c + 0x48
/-- 08.9: Filter and gap. -/
def BRD_EDGEFLT (c : Nat) : Nat := 0x100000 + 0x10000 * c + 0x4C
/-- 08.9: Synchronized levels. -/
def BRD_LINEIN (c : Nat) : Nat := 0x100000 + 0x10000 * c + 0x50
/-- 08.9: Driven levels. -/
def BRD_LINEOUT (c : Nat) : Nat := 0x100000 + 0x10000 * c + 0x54
/-- 08.9: Lines driving. -/
def BRD_LINEOE (c : Nat) : Nat := 0x100000 + 0x10000 * c + 0x58
/-- 08.9: Pad delays (R52). -/
def BRD_LAT (c : Nat) : Nat := 0x100000 + 0x10000 * c + 0x5C
/-- 08.9: Counters. -/
def BRD_CNT_EDGEEVT (c : Nat) : Nat := 0x100000 + 0x10000 * c + 0x80
/-- 08.9: Counters. -/
def BRD_CNT_EDGESUP (c : Nat) : Nat := 0x100000 + 0x10000 * c + 0x84
/-- 08.9: Counters. -/
def BRD_CNT_EDGEOVR (c : Nat) : Nat := 0x100000 + 0x10000 * c + 0x88
/-- 08.9: Counters. -/
def BRD_CNT_WIREBAD (c : Nat) : Nat := 0x100000 + 0x10000 * c + 0x8C
/-- 08.9: Counters. -/
def BRD_CNT_STARTMISS (c : Nat) : Nat := 0x100000 + 0x10000 * c + 0x90
/-- 08.9: Window (R247, R249). -/
def BRD_EWIN (c e : Nat) : Nat := 0x100000 + 0x10000 * c + 0x1000 + 0x100 * e
/-- 08.9: Pin mapping (R247, R249). -/
def BRD_EPINS (c e : Nat) : Nat := 0x100000 + 0x10000 * c + 0x1004 + 0x100 * e
/-- 08.9: Tail, shifts, queues (R247, R249). -/
def BRD_ESHIFT (c e : Nat) : Nat := 0x100000 + 0x10000 * c + 0x1008 + 0x100 * e
/-- 08.9: Divider (R247, R249). -/
def BRD_EDIV (c e : Nat) : Nat := 0x100000 + 0x10000 * c + 0x100C + 0x100 * e
/-- 08.9: Stream route (R247, R249). -/
def BRD_ESTR (c e : Nat) : Nat := 0x100000 + 0x10000 * c + 0x1010 + 0x100 * e
/-- 08.9: Shadow of the engine state word. -/
def BRD_ESTATE (c e : Nat) : Nat := 0x100000 + 0x10000 * c + 0x1014 + 0x100 * e
/-- 08.9: Engine command. -/
def BRD_ECMD (c e : Nat) : Nat := 0x100000 + 0x10000 * c + 0x1018 + 0x100 * e
/-- 08.9: Command status. -/
def BRD_ECMDSTAT (c e : Nat) : Nat := 0x100000 + 0x10000 * c + 0x101C + 0x100 * e
/-- 08.9: Queue levels. -/
def BRD_EQLVL (c e : Nat) : Nat := 0x100000 + 0x10000 * c + 0x1020 + 0x100 * e
/-- 08.9: Push to TX queue. -/
def BRD_TXQ (c e : Nat) : Nat := 0x100000 + 0x10000 * c + 0x1024 + 0x100 * e
/-- 08.9: Pop from RX queue. -/
def BRD_RXQ (c e : Nat) : Nat := 0x100000 + 0x10000 * c + 0x1028 + 0x100 * e
/-- 08.9: PC and live stall reason. -/
def BRD_EPC (c e : Nat) : Nat := 0x100000 + 0x10000 * c + 0x102C + 0x100 * e
/-- 08.9: X, Y. -/
def BRD_EX (c e : Nat) : Nat := 0x100000 + 0x10000 * c + 0x1030 + 0x100 * e
/-- 08.9: X, Y. -/
def BRD_EY (c e : Nat) : Nat := 0x100000 + 0x10000 * c + 0x1034 + 0x100 * e
/-- 08.9: Counters. -/
def BRD_CNT_RXLOST (c e : Nat) : Nat := 0x100000 + 0x10000 * c + 0x1038 + 0x100 * e
/-- 08.9: Counters. -/
def BRD_CNT_FILLLOST (c e : Nat) : Nat := 0x100000 + 0x10000 * c + 0x103C + 0x100 * e
/-- 08.9: Counters. -/
def BRD_CNT_FRAMES (c e : Nat) : Nat := 0x100000 + 0x10000 * c + 0x1040 + 0x100 * e
/-- 08.9: Program store (R247, R249). -/
def BRD_PROG (c w : Nat) : Nat := 0x100000 + 0x10000 * c + 0x8000 + 0x4 * w
/-- 09.1: Enable, K, SLEW. -/
def SEN_GCFG (g : Nat) : Nat := 0x180000 + 0x100 * g
/-- 09.1: Threshold bounds. -/
def SEN_GBND (g : Nat) : Nat := 0x180004 + 0x100 * g
/-- 09.1: Shadow of the group state word. -/
def SEN_GSTATE (g : Nat) : Nat := 0x180008 + 0x100 * g
/-- 09.1: Group command. -/
def SEN_GCMD (g : Nat) : Nat := 0x18000C + 0x100 * g
/-- 09.1: Command status. -/
def SEN_GCMDSTAT (g : Nat) : Nat := 0x180010 + 0x100 * g
/-- 09.1: Reference and threshold. -/
def SEN_GREF (g : Nat) : Nat := 0x180014 + 0x100 * g
/-- 09.1: Event route. -/
def SEN_GSTR (g : Nat) : Nat := 0x180018 + 0x100 * g
/-- 09.1: Line 8g + j. -/
def SEN_LCFG (g j : Nat) : Nat := 0x180020 + 0x100 * g + 0x4 * j
/-- 09.1: Accepted levels, SI0–SI31. -/
def SEN_LEVEL0 : Nat := 0x180800
/-- 09.1: Accepted levels, SI32–SI63. -/
def SEN_LEVEL1 : Nat := 0x180804
/-- 09.1: Lines in chatter. -/
def SEN_CHAT0 : Nat := 0x180808
/-- 09.1: Lines in chatter. -/
def SEN_CHAT1 : Nat := 0x18080C
/-- 09.1: Chatter window and limits. -/
def SEN_CHATCFG : Nat := 0x180810
/-- 09.1: Comparator and pad delay (R52). -/
def SEN_LAT : Nat := 0x180814
/-- 09.1: Events sent. -/
def SEN_CNT_EVT : Nat := 0x180880
/-- 09.1: Events sent. -/
def SEN_CNT_CHAT : Nat := 0x180884
/-- 09.3: Enable, modes, readback. -/
def GRD_CFG (n : Nat) : Nat := 0x190000 + 0x100 * n
/-- 09.3: ARM source identity. -/
def GRD_ARMSRC (n : Nat) : Nat := 0x190004 + 0x100 * n
/-- 09.3: ARM source line and enable. -/
def GRD_ARMLINE (n : Nat) : Nat := 0x190008 + 0x100 * n
/-- 09.3: FIRE source identity. -/
def GRD_FIRESRC (n : Nat) : Nat := 0x19000C + 0x100 * n
/-- 09.3: FIRE source line and enable. -/
def GRD_FIRELINE (n : Nat) : Nat := 0x190010 + 0x100 * n
/-- 09.3: MAXON, MINON. -/
def GRD_TIME (n : Nat) : Nat := 0x190014 + 0x100 * n
/-- 09.3: Readback settle. -/
def GRD_RB (n : Nat) : Nat := 0x190018 + 0x100 * n
/-- 09.3: Shadow of the channel state word. -/
def GRD_STATE (n : Nat) : Nat := 0x19001C + 0x100 * n
/-- 09.3: Channel command. -/
def GRD_CMD (n : Nat) : Nat := 0x190020 + 0x100 * n
/-- 09.3: Command status. -/
def GRD_CMDSTAT (n : Nat) : Nat := 0x190024 + 0x100 * n
/-- 09.3: Live pin levels. -/
def GRD_STAT (n : Nat) : Nat := 0x190028 + 0x100 * n
/-- 09.3: FIRE activations. -/
def GRD_CNT_FIRE (n : Nat) : Nat := 0x19002C + 0x100 * n
/-- 09.3: FIRE activations. -/
def GRD_CNT_LATE (n : Nat) : Nat := 0x190030 + 0x100 * n
/-- 09.3: Readback and MAXON events. -/
def GRD_EVT : Nat := 0x191000
/-- 09.3: PAIRDIFF per channel. -/
def GRD_PAIRDIFF : Nat := 0x191004
/-- 10.5: Enable, modes, lone-node handling. -/
def PB_CFG (b : Nat) : Nat := 0x1A0000 + 0x1000 * b + 0x0
/-- 10.5: Nominal bit timing. -/
def PB_NBT (b : Nat) : Nat := 0x1A0000 + 0x1000 * b + 0x4
/-- 10.5: Data-phase bit timing. -/
def PB_DBT (b : Nat) : Nat := 0x1A0000 + 0x1000 * b + 0x8
/-- 10.5: Transmitter delay compensation. -/
def PB_TDC (b : Nat) : Nat := 0x1A0000 + 0x1000 * b + 0xC
/-- 10.5: Transceiver delays (R52). -/
def PB_XCVR (b : Nat) : Nat := 0x1A0000 + 0x1000 * b + 0x10
/-- 10.5: Follower entry age. -/
def PB_SHCFG (b : Nat) : Nat := 0x1A0000 + 0x1000 * b + 0x14
/-- 10.5: Wake mode and filter. -/
def PB_WAKECFG (b : Nat) : Nat := 0x1A0000 + 0x1000 * b + 0x18
/-- 10.5: Shadow of the state word. -/
def PB_STATE (b : Nat) : Nat := 0x1A0000 + 0x1000 * b + 0x20
/-- 10.5: Bus command. -/
def PB_CMD (b : Nat) : Nat := 0x1A0000 + 0x1000 * b + 0x24
/-- 10.5: Command status. -/
def PB_CMDSTAT (b : Nat) : Nat := 0x1A0000 + 0x1000 * b + 0x28
/-- 10.5: Events. -/
def PB_EVT (b : Nat) : Nat := 0x1A0000 + 0x1000 * b + 0x2C
/-- 10.5: TEC, REC, error state. -/
def PB_ERRCNT (b : Nat) : Nat := 0x1A0000 + 0x1000 * b + 0x30
/-- 10.5: Spool and timed-list levels. -/
def PB_SPOOL (b : Nat) : Nat := 0x1A0000 + 0x1000 * b + 0x34
/-- 10.5: Identifier at the spool head. -/
def PB_HEAD (b : Nat) : Nat := 0x1A0000 + 0x1000 * b + 0x38
/-- 10.5: Last error seen. -/
def PB_LASTERR (b : Nat) : Nat := 0x1A0000 + 0x1000 * b + 0x3C
/-- 10.5: Stage: data octets 4k to 4k + 3. -/
def PB_TXDATA (b n : Nat) : Nat := 0x1A0000 + 0x1000 * b + 0x40 + 0x4 * n
/-- 10.5: Stage: identifier. -/
def PB_TXID (b : Nat) : Nat := 0x1A0000 + 0x1000 * b + 0x80
/-- 10.5: Stage: format and DLC. -/
def PB_TXCTL (b : Nat) : Nat := 0x1A0000 + 0x1000 * b + 0x84
/-- 10.5: Stage: T, NS. -/
def PB_TXAT_NS (b : Nat) : Nat := 0x1A0000 + 0x1000 * b + 0x88
/-- 10.5: Stage: T, SEC[31:0]. -/
def PB_TXAT_SEC (b : Nat) : Nat := 0x1A0000 + 0x1000 * b + 0x8C
/-- 10.5: Stage: T, SEC[47:32]. -/
def PB_TXAT_HI (b : Nat) : Nat := 0x1A0000 + 0x1000 * b + 0x90
/-- 10.5: Submit the stage. -/
def PB_TXGO (b : Nat) : Nat := 0x1A0000 + 0x1000 * b + 0x94
/-- 10.5: Result of the last submit. -/
def PB_TXSTAT (b : Nat) : Nat := 0x1A0000 + 0x1000 * b + 0x98
/-- 10.5: Counters. -/
def PB_CNT_RXF (b : Nat) : Nat := 0x1A0000 + 0x1000 * b + 0xC0
/-- 10.5: Counters. -/
def PB_CNT_TXF (b : Nat) : Nat := 0x1A0000 + 0x1000 * b + 0xC4
/-- 10.5: Counters. -/
def PB_CNT_ACKERR (b : Nat) : Nat := 0x1A0000 + 0x1000 * b + 0xC8
/-- 10.5: Counters. -/
def PB_CNT_ERRF (b : Nat) : Nat := 0x1A0000 + 0x1000 * b + 0xCC
/-- 10.5: Counters. -/
def PB_CNT_NOFILT (b : Nat) : Nat := 0x1A0000 + 0x1000 * b + 0xD0
/-- 10.5: Counters. -/
def PB_CNT_SPOOLFULL (b : Nat) : Nat := 0x1A0000 + 0x1000 * b + 0xD4
/-- 10.5: Counters. -/
def PB_CNT_TTLATE (b : Nat) : Nat := 0x1A0000 + 0x1000 * b + 0xD8
/-- 10.5: Counters. -/
def PB_CNT_OSDROP (b : Nat) : Nat := 0x1A0000 + 0x1000 * b + 0xDC
/-- 10.5: Counters. -/
def PB_CNT_ABORT (b : Nat) : Nat := 0x1A0000 + 0x1000 * b + 0xE0
/-- 10.5: Counters. -/
def PB_CNT_FOLAGE (b : Nat) : Nat := 0x1A0000 + 0x1000 * b + 0xE4
/-- 10.5: Counters. -/
def PB_CNT_TUNREJ (b : Nat) : Nat := 0x1A0000 + 0x1000 * b + 0xE8
/-- 10.5: Counters. -/
def PB_CNT_WAKELOST (b : Nat) : Nat := 0x1A0000 + 0x1000 * b + 0xEC
/-- 10.5: Counters. -/
def PB_CNT_WIREBAD (b : Nat) : Nat := 0x1A0000 + 0x1000 * b + 0xF0
/-- 10.5: Counters. -/
def PB_CNT_ALONEDROP (b : Nat) : Nat := 0x1A0000 + 0x1000 * b + 0xF4
/-- 10.5: Counters. -/
def PB_CNT_BUSOFF (b : Nat) : Nat := 0x1A0000 + 0x1000 * b + 0xF8
/-- 10.5: Filter k, k = 0–63. -/
def PB_FLT_ID (b k : Nat) : Nat := 0x1A0000 + 0x1000 * b + 0x400 + 0x10 * k
/-- 10.5: Filter k mask. -/
def PB_FLT_MASK (b k : Nat) : Nat := 0x1A0000 + 0x1000 * b + 0x404 + 0x10 * k
/-- 10.5: Filter k action. -/
def PB_FLT_ROUTE (b k : Nat) : Nat := 0x1A0000 + 0x1000 * b + 0x408 + 0x10 * k
/-- 10.5: Filter k destination. -/
def PB_FLT_DEST (b k : Nat) : Nat := 0x1A0000 + 0x1000 * b + 0x40C + 0x10 * k
/-- 10.5: Action for unmatched frames. -/
def PB_DEFROUTE (b : Nat) : Nat := 0x1A0000 + 0x1000 * b + 0x800
/-- 10.5: Destination for unmatched frames. -/
def PB_DEFDEST (b : Nat) : Nat := 0x1A0000 + 0x1000 * b + 0x804
/-- 11.5: Clocks running, per island. -/
def ISL_CLKSTAT : Nat := 0x260000
/-- 11.5: Groups in reset. -/
def ISL_GRPSTAT : Nat := 0x260004
/-- 11.5: Group reset order. -/
def ISL_GRESET : Nat := 0x260008
/-- 11.5: Events. -/
def ISL_EVT : Nat := 0x26000C
/-- 11.5: Crossings now STOPPED. -/
def ISL_XSTAT : Nat := 0x260010
/-- 11.5: Last crossing to enter STOPPED. -/
def ISL_XLAST : Nat := 0x260014
/-- 11.5: Counters. -/
def ISL_CNT_XSTOP : Nat := 0x260020
/-- 11.5: Counters. -/
def ISL_CNT_XDROP : Nat := 0x260024
/-- 11.5: Counters. -/
def ISL_CNT_EVSAT : Nat := 0x260028
/-- 11.5: Counters. -/
def ISL_CNT_GRESET : Nat := 0x26002C
/-- 12.8: Slot in force, format, bypass. -/
def REAM_STATUS : Nat := 0x270000
/-- 12.8: Generation in force. -/
def REAM_GEN : Nat := 0x270004
/-- 12.8: Check result, slot 0. -/
def REAM_CHK0 : Nat := 0x270008
/-- 12.8: Check result, slot 1. -/
def REAM_CHK1 : Nat := 0x27000C
/-- 12.8: GEN found in slot 0. -/
def REAM_GEN0 : Nat := 0x270010
/-- 12.8: GEN found in slot 1. -/
def REAM_GEN1 : Nat := 0x270014
/-- 12.8: Ream digest (R311). -/
def REAM_DIGEST (n : Nat) : Nat := 0x270020 + 0x4 * n
/-- 12.8: Kazex release (R321). -/
def REAM_KAZEX_REL : Nat := 0x270050
/-- 12.8: KMODEL, octets 0–3. -/
def REAM_KAZEX_LO : Nat := 0x270054
/-- 12.8: KMODEL, octets 4–7. -/
def REAM_KAZEX_HI : Nat := 0x270058
/-- 12.8: F0 notes. -/
def REAM_NOTE : Nat := 0x270060
/-- 12.8: Seal and join times. -/
def REAM_T0 : Nat := 0x270064
/-- 12.8: Lock time. -/
def REAM_T1 : Nat := 0x270068
/-- 12.8: Ream write events. -/
def REAM_EVT : Nat := 0x27006C
/-- 12.8: Result of the last ream write. -/
def REAM_WRCHK : Nat := 0x270070
/-- 13.3: Root, OTK, slot counts. -/
def KEY_STATUS : Nat := 0x200000
/-- 13.3: Events. -/
def KEY_EVT : Nat := 0x200004
/-- 13.3: Classes tagged per world. -/
def KEY_AUTHCFG : Nat := 0x200008
/-- 13.3: Key operation. -/
def KEY_OP : Nat := 0x20000C
/-- 13.3: Operation status. -/
def KEY_OPSTAT : Nat := 0x200010
/-- 13.3: Staged entry, octets 4k to 4k + 3. -/
def KEY_STAGE (n : Nat) : Nat := 0x200040 + 0x4 * n
/-- 13.3: Tag keys of source ring r. -/
def KEY_RSEL (n : Nat) : Nat := 0x200080 + 0x4 * n
/-- 13.3: M_PLOIA. -/
def KEY_MEASP (n : Nat) : Nat := 0x200100 + 0x4 * n
/-- 13.3: M_REAM. -/
def KEY_MEASR (n : Nat) : Nat := 0x200130 + 0x4 * n
/-- 13.3: M_SVN. -/
def KEY_MEASSVN : Nat := 0x200160
/-- 13.3: Counters. -/
def KEY_CNT_TAGFAIL : Nat := 0x200180
/-- 13.3: Counters. -/
def KEY_CNT_SPENT : Nat := 0x200184
/-- 13.3: Counters. -/
def KEY_CNT_NOKEY : Nat := 0x200188
/-- 13.3: Counters. -/
def KEY_CNT_NXT : Nat := 0x20018C
/-- 13.3: Counters. -/
def KEY_CNT_USE : Nat := 0x200190
/-- 13.3: Slot n metadata. -/
def KEY_SLOT_META (n : Nat) : Nat := 0x201000 + 0x8 * n
/-- 13.3: Slot n remaining uses. -/
def KEY_SLOT_USES (n : Nat) : Nat := 0x201004 + 0x8 * n
/-- 14.5: Grave latch, highest pending class, test mode. -/
def FLT_STATUS : Nat := 0x210000
/-- 14.5: Collector events. -/
def FLT_EVT : Nat := 0x210004
/-- 14.5: Class masks. -/
def FLT_CLASSCFG (n : Nat) : Nat := 0x210010 + 0x4 * n
/-- 14.5: ALIVE state and rearm. -/
def FLT_ALIVE : Nat := 0x210030
/-- 14.5: ERR_N hold and minimum. -/
def FLT_ERRN : Nat := 0x210034
/-- 14.5: Pending bits. -/
def FLT_PEND (n : Nat) : Nat := 0x210040 + 0x4 * n
/-- 14.5: Pop of the record queue. -/
def FLT_RECPOP : Nat := 0x210050
/-- 14.5: Detail words of the popped record. -/
def FLT_RECDET (n : Nat) : Nat := 0x210054 + 0x4 * n
/-- 14.5: FIRST: NS. -/
def FLT_RECFIRST_NS : Nat := 0x210064
/-- 14.5: FIRST: NS. -/
def FLT_RECFIRST_SEC : Nat := 0x210068
/-- 14.5: LAST: NS. -/
def FLT_RECLAST_NS : Nat := 0x21006C
/-- 14.5: LAST: NS. -/
def FLT_RECLAST_SEC : Nat := 0x210070
/-- 14.5: Self-test period and deferral. -/
def FLT_STCFG : Nat := 0x210080
/-- 14.5: Self-test request. -/
def FLT_STREQ : Nat := 0x210084
/-- 14.5: Self-test result. -/
def FLT_STRES : Nat := 0x210088
/-- 14.5: Health summary. -/
def FLT_HEALTH : Nat := 0x21008C
/-- 14.5: Injection (R368). -/
def FLT_INJ : Nat := 0x210090
/-- 14.5: Per-test counts. -/
def FLT_HTEST (n : Nat) : Nat := 0x2100C0 + 0x4 * n
/-- 14.5: Class, escalation, reaction. -/
def FLT_SRC_CFG (n : Nat) : Nat := 0x211000 + 0x10 * n
/-- 14.5: Window W. -/
def FLT_SRC_WIN (n : Nat) : Nat := 0x211004 + 0x10 * n
/-- 14.5: Current class. -/
def FLT_SRC_STAT (n : Nat) : Nat := 0x211008 + 0x10 * n
/-- 14.5: Events. -/
def FLT_SRC_CNT (n : Nat) : Nat := 0x21100C + 0x10 * n
/-- 15.5: Flush interval. -/
def LOG_CFG : Nat := 0x220000
/-- 15.5: Format, copy, flush state. -/
def LOG_STATUS : Nat := 0x220004
/-- 15.5: Events. -/
def LOG_EVT : Nat := 0x220008
/-- 15.5: Flush order. -/
def LOG_CTL : Nat := 0x22000C
/-- 15.5: GEN of the current running copy. -/
def LOG_GEN_LO : Nat := 0x220010
/-- 15.5: GEN of the current running copy. -/
def LOG_GEN_HI : Nat := 0x220014
/-- 15.5: ms since the last commit. -/
def LOG_AGE : Nat := 0x220018
/-- 15.5: SEQ of the next journal record. -/
def LOG_JSEQ : Nat := 0x22001C
/-- 15.5: Counters. -/
def LOG_CNT_FLUSH : Nat := 0x220080
/-- 15.5: Counters. -/
def LOG_CNT_MERGED : Nat := 0x220084
/-- 15.5: Counters. -/
def LOG_CNT_JLOST : Nat := 0x220088
/-- 15.5: Counters. -/
def LOG_CNT_RETRY : Nat := 0x22008C
/-- 16.4: State and boot source. -/
def UPD_STATUS : Nat := 0x230000
/-- 16.4: Events. -/
def UPD_EVT : Nat := 0x230004
/-- 16.4: Confirm window. -/
def UPD_CFG : Nat := 0x230008
/-- 16.4: CONFIRM and ABORT. -/
def UPD_CTL : Nat := 0x23000C
/-- 16.4: Chunks. -/
def UPD_PROGRESS : Nat := 0x230010
/-- 16.4: Session ID. -/
def UPD_SESSID_LO : Nat := 0x230014
/-- 16.4: Session ID. -/
def UPD_SESSID_HI : Nat := 0x230018
/-- 16.4: Releases. -/
def UPD_RUNREL : Nat := 0x23001C
/-- 16.4: Releases. -/
def UPD_STAGEREL : Nat := 0x230020
/-- 16.4: Security versions. -/
def UPD_SVN : Nat := 0x230024
/-- 16.4: Trial time left. -/
def UPD_TRIAL : Nat := 0x230028
/-- 16.4: Last request result. -/
def UPD_RESULT : Nat := 0x23002C
/-- 16.4: Counters. -/
def UPD_CNT_CHUNK : Nat := 0x230080
/-- 16.4: Counters. -/
def UPD_CNT_DUP : Nat := 0x230084
/-- 16.4: Counters. -/
def UPD_CNT_FALLBACK : Nat := 0x230088
/-- 17.4: Fast trip, retries, fault timer, insertion delay. -/
def PWR_CFG : Nat := 0x240000
/-- 17.4: Ream window. -/
def PWR_WIN : Nat := 0x240004
/-- 17.4: Ream limits. -/
def PWR_LIM : Nat := 0x240008
/-- 17.4: Window set by the pins. -/
def PWR_PIN0 : Nat := 0x24000C
/-- 17.4: Limits set by the pins. -/
def PWR_PIN1 : Nat := 0x240010
/-- 17.4: Thermal resistances. -/
def PWR_FETM0 : Nat := 0x240014
/-- 17.4: Time constants. -/
def PWR_FETM1 : Nat := 0x240018
/-- 17.4: Sense resistor, temperatures. -/
def PWR_FETM2 : Nat := 0x24001C
/-- 17.4: NTC constants. -/
def PWR_NTC : Nat := 0x240020
/-- 17.4: State and flags. -/
def PWR_STATUS : Nat := 0x240024
/-- 17.4: Events. -/
def PWR_EVT : Nat := 0x240028
/-- 17.4: Rearm. -/
def PWR_CTL : Nat := 0x24002C
/-- 17.4: Feed voltages. -/
def PWR_MEAS0 : Nat := 0x240030
/-- 17.4: FBUS and HS_OUT. -/
def PWR_MEAS1 : Nat := 0x240034
/-- 17.4: VSNS and TJ. -/
def PWR_MEAS2 : Nat := 0x240038
/-- 17.4: Last turn-off. -/
def PWR_LAST : Nat := 0x24003C
/-- 17.4: Owed off-time. -/
def PWR_COOL : Nat := 0x240040
/-- 17.4: Counters. -/
def PWR_CNT_FTRIP : Nat := 0x240080
/-- 17.4: Counters. -/
def PWR_CNT_LIMIT : Nat := 0x240084
/-- 17.4: Counters. -/
def PWR_CNT_TIMER : Nat := 0x240088
/-- 17.4: Counters. -/
def PWR_CNT_FETTEMP : Nat := 0x24008C
/-- 17.4: Counters. -/
def PWR_CNT_RETRY : Nat := 0x240090
/-- 17.4: Counters. -/
def PWR_CNT_REVA : Nat := 0x240094
/-- 17.4: Counters. -/
def PWR_CNT_REVB : Nat := 0x240098
/-- 18.5: Warning clear hold. -/
def PWR_SUPCFG : Nat := 0x240100
/-- 18.5: Warnings, sequencer. -/
def PWR_SUPSTAT : Nat := 0x240104
/-- 18.5: Events. -/
def PWR_SUPEVT : Nat := 0x240108
/-- 18.5: Last reset kind and rail. -/
def PWR_RSTCAUSE : Nat := 0x24010C
/-- 18.5: Orderly reset (R430). -/
def PWR_RSTCTL : Nat := 0x240110
/-- 18.5: Duration of the last warning. -/
def PWR_WARNLAST : Nat := 0x240114
/-- 18.5: VDD, VDDS. -/
def PWR_RAIL0 : Nat := 0x240118
/-- 18.5: VDDSH, VIO33. -/
def PWR_RAIL1 : Nat := 0x24011C
/-- 18.5: VDDAON, VAON33. -/
def PWR_RAIL2 : Nat := 0x240120
/-- 18.5: Counters. -/
def PWR_CNT_WARN : Nat := 0x240180
/-- 18.5: Counters. -/
def PWR_CNT_RECOVER : Nat := 0x240184
/-- 18.5: Counters. -/
def PWR_CNT_RAILRST : Nat := 0x240188
/-- 19.3: Roles, Try.SNK, wait handling, world. -/
def SVC_CFG : Nat := 0x250000
/-- 19.3: Sink choice. -/
def SVC_SNKCFG : Nat := 0x250004
/-- 19.3: Attachment and contract state. -/
def SVC_STATUS : Nat := 0x250008
/-- 19.3: Events. -/
def SVC_EVT : Nat := 0x25000C
/-- 19.3: Contract in force. -/
def SVC_CONTRACT : Nat := 0x250010
/-- 19.3: Firmware request override. -/
def SVC_OVRREQ : Nat := 0x250014
/-- 19.3: Firmware commands. -/
def SVC_OVR : Nat := 0x250018
/-- 19.3: Source PDOs last received. -/
def SVC_SRCCAP (n : Nat) : Nat := 0x250020 + 0x4 * n
/-- 19.3: Counters. -/
def SVC_CNT_NOREPLY : Nat := 0x250080
/-- 19.3: Counters. -/
def SVC_CNT_SOFTRST : Nat := 0x250084
/-- 19.3: Counters. -/
def SVC_CNT_HARDRST : Nat := 0x250088
/-- 19.3: Counters. -/
def SVC_CNT_WAIT : Nat := 0x25008C
/-- 19.3: Counters. -/
def SVC_CNT_ACC : Nat := 0x250090
/-- 19.3: Counters. -/
def SVC_CNT_VDEM : Nat := 0x250094

end Reg

namespace Fld

def TIME_NOW_NS_NS : Field := ⟨Reg.TIME_NOW_NS, 0, 32⟩
def TIME_NOW_SEC_SEC_LO : Field := ⟨Reg.TIME_NOW_SEC, 0, 32⟩
def TIME_NOW_HI_FRAC : Field := ⟨Reg.TIME_NOW_HI, 16, 16⟩
def TIME_NOW_HI_SEC_HI : Field := ⟨Reg.TIME_NOW_HI, 0, 16⟩
def TIME_INC_LO_F_LO : Field := ⟨Reg.TIME_INC_LO, 0, 32⟩
def TIME_INC_HI_I : Field := ⟨Reg.TIME_INC_HI, 8, 8⟩
def TIME_INC_HI_F_HI : Field := ⟨Reg.TIME_INC_HI, 0, 8⟩
def TIME_INC_MIN_LO_F_LO : Field := ⟨Reg.TIME_INC_MIN_LO, 0, 32⟩
def TIME_INC_MIN_HI_I : Field := ⟨Reg.TIME_INC_MIN_HI, 8, 8⟩
def TIME_INC_MIN_HI_F_HI : Field := ⟨Reg.TIME_INC_MIN_HI, 0, 8⟩
def TIME_INC_MAX_LO_F_LO : Field := ⟨Reg.TIME_INC_MAX_LO, 0, 32⟩
def TIME_INC_MAX_HI_I : Field := ⟨Reg.TIME_INC_MAX_HI, 8, 8⟩
def TIME_INC_MAX_HI_F_HI : Field := ⟨Reg.TIME_INC_MAX_HI, 0, 8⟩
def TIME_STEP_SEC_VAL : Field := ⟨Reg.TIME_STEP_SEC, 0, 32⟩
def TIME_STEP_NS_VAL : Field := ⟨Reg.TIME_STEP_NS, 0, 32⟩
def TIME_STEP_CTL_GO : Field := ⟨Reg.TIME_STEP_CTL, 31, 1⟩
def TIME_STEP_CTL_BUSY : Field := ⟨Reg.TIME_STEP_CTL, 30, 1⟩
def TIME_STEP_CTL_SLEW : Field := ⟨Reg.TIME_STEP_CTL, 29, 1⟩
def TIME_STEP_CTL_FRAC : Field := ⟨Reg.TIME_STEP_CTL, 0, 16⟩
def TIME_LOCK_CTL_OWNER : Field := ⟨Reg.TIME_LOCK_CTL, 31, 1⟩
def TIME_LOCK_CTL_STEPMAX : Field := ⟨Reg.TIME_LOCK_CTL, 16, 10⟩
def TIME_LOCK_CTL_HOLD : Field := ⟨Reg.TIME_LOCK_CTL, 0, 14⟩
def TIME_OFFSET_OFS : Field := ⟨Reg.TIME_OFFSET, 0, 32⟩
def TIME_STATUS_SKIPPED : Field := ⟨Reg.TIME_STATUS, 23, 1⟩
def TIME_STATUS_GMCHG : Field := ⟨Reg.TIME_STATUS, 22, 1⟩
def TIME_STATUS_PPSLOST : Field := ⟨Reg.TIME_STATUS, 21, 1⟩
def TIME_STATUS_HCHGLATE : Field := ⟨Reg.TIME_STATUS, 20, 1⟩
def TIME_STATUS_HCHGDONE : Field := ⟨Reg.TIME_STATUS, 19, 1⟩
def TIME_STATUS_OWNREJ : Field := ⟨Reg.TIME_STATUS, 18, 1⟩
def TIME_STATUS_STEPREJ : Field := ⟨Reg.TIME_STATUS, 17, 1⟩
def TIME_STATUS_LOCKLOST : Field := ⟨Reg.TIME_STATUS, 16, 1⟩
def TIME_STATUS_INCSAT : Field := ⟨Reg.TIME_STATUS, 8, 1⟩
def TIME_STATUS_GM : Field := ⟨Reg.TIME_STATUS, 4, 1⟩
def TIME_STATUS_FREERUN : Field := ⟨Reg.TIME_STATUS, 3, 1⟩
def TIME_STATUS_OPEN : Field := ⟨Reg.TIME_STATUS, 2, 1⟩
def TIME_STATUS_LOCK : Field := ⟨Reg.TIME_STATUS, 0, 2⟩
def TIME_HORIZON_H (n : Nat) : Field := ⟨(Reg.TIME_HORIZON n), 0, 20⟩
def TIME_HBOUND_HMAX (n : Nat) : Field := ⟨(Reg.TIME_HBOUND n), 16, 10⟩
def TIME_HBOUND_HMIN (n : Nat) : Field := ⟨(Reg.TIME_HBOUND n), 0, 10⟩
def TIME_HCHG_SEC_SEC_LO : Field := ⟨Reg.TIME_HCHG_SEC, 0, 32⟩
def TIME_HCHG_NS_NOW : Field := ⟨Reg.TIME_HCHG_NS, 31, 1⟩
def TIME_HCHG_NS_NS : Field := ⟨Reg.TIME_HCHG_NS, 0, 30⟩
def TIME_HCHG_STAT_PEND : Field := ⟨Reg.TIME_HCHG_STAT, 31, 1⟩
def TIME_HCHG_STAT_CLASS : Field := ⟨Reg.TIME_HCHG_STAT, 24, 3⟩
def TIME_HCHG_STAT_H_NEW : Field := ⟨Reg.TIME_HCHG_STAT, 0, 20⟩
def TIME_LATECNT_COUNT (n : Nat) : Field := ⟨(Reg.TIME_LATECNT n), 0, 32⟩
def TIME_SKIPCNT_COUNT : Field := ⟨Reg.TIME_SKIPCNT, 0, 32⟩
def TIME_FULLCNT_COUNT : Field := ⟨Reg.TIME_FULLCNT, 0, 32⟩
def TIME_PRECNT_COUNT : Field := ⟨Reg.TIME_PRECNT, 0, 32⟩
def TIME_PPS_CTL_OUT_WIDTH : Field := ⟨Reg.TIME_PPS_CTL, 16, 9⟩
def TIME_PPS_CTL_OUT_FORCE : Field := ⟨Reg.TIME_PPS_CTL, 3, 1⟩
def TIME_PPS_CTL_OUT_EN : Field := ⟨Reg.TIME_PPS_CTL, 2, 1⟩
def TIME_PPS_CTL_IN_POL : Field := ⟨Reg.TIME_PPS_CTL, 1, 1⟩
def TIME_PPS_CTL_IN_EN : Field := ⟨Reg.TIME_PPS_CTL, 0, 1⟩
def TIME_PPS_NS_NS : Field := ⟨Reg.TIME_PPS_NS, 0, 32⟩
def TIME_PPS_SEC_SEC_LO : Field := ⟨Reg.TIME_PPS_SEC, 0, 32⟩
def TIME_GM_CTL_PTP_PORT : Field := ⟨Reg.TIME_GM_CTL, 10, 2⟩
def TIME_GM_CTL_SRC_PTP : Field := ⟨Reg.TIME_GM_CTL, 9, 1⟩
def TIME_GM_CTL_SRC_PPS : Field := ⟨Reg.TIME_GM_CTL, 8, 1⟩
def TIME_GM_CTL_PRIO : Field := ⟨Reg.TIME_GM_CTL, 0, 8⟩
def TIME_GM_STAT_PATH : Field := ⟨Reg.TIME_GM_STAT, 24, 2⟩
def TIME_GM_STAT_HOPS : Field := ⟨Reg.TIME_GM_STAT, 16, 8⟩
def TIME_GM_STAT_KIND : Field := ⟨Reg.TIME_GM_STAT, 12, 4⟩
def TIME_GM_STAT_GM_RING : Field := ⟨Reg.TIME_GM_STAT, 8, 4⟩
def TIME_GM_STAT_GM_HUB : Field := ⟨Reg.TIME_GM_STAT, 0, 8⟩
def CHIP_ID_PART : Field := ⟨Reg.CHIP_ID, 16, 16⟩
def CHIP_ID_VENDOR : Field := ⟨Reg.CHIP_ID, 0, 16⟩
def CHIP_REV_STEPPING : Field := ⟨Reg.CHIP_REV, 0, 8⟩
def CHIP_SERIAL_LO_SERIAL : Field := ⟨Reg.CHIP_SERIAL_LO, 0, 32⟩
def CHIP_SERIAL_HI_SERIAL : Field := ⟨Reg.CHIP_SERIAL_HI, 0, 32⟩
def CHIP_STRAP_TESTMODE : Field := ⟨Reg.CHIP_STRAP, 5, 1⟩
def CHIP_STRAP_SLOTVALID : Field := ⟨Reg.CHIP_STRAP, 4, 1⟩
def CHIP_STRAP_SLOT : Field := ⟨Reg.CHIP_STRAP, 0, 4⟩
def CHIP_SEAL_SEALED : Field := ⟨Reg.CHIP_SEAL, 31, 1⟩
def CHIP_SEAL_PRESEAL : Field := ⟨Reg.CHIP_SEAL, 0, 16⟩
def CHIP_CALLER_WORLD : Field := ⟨Reg.CHIP_CALLER, 0, 1⟩
def CHIP_PAGEWLD_SEC (n : Nat) : Field := ⟨(Reg.CHIP_PAGEWLD n), 0, 32⟩
def CHIP_WINWLD_SEC : Field := ⟨Reg.CHIP_WINWLD, 0, 32⟩
def CHIP_PORTWLD_SEC : Field := ⟨Reg.CHIP_PORTWLD, 0, 22⟩
def CHIP_MISCWLD_LOGWIN : Field := ⟨Reg.CHIP_MISCWLD, 1, 1⟩
def CHIP_MISCWLD_VATWIN : Field := ⟨Reg.CHIP_MISCWLD, 0, 1⟩
def RING_CTL_FEAT_OFFER (l : Nat) : Field := ⟨(Reg.RING_CTL l), 8, 4⟩
def RING_CTL_SECAUTH (l : Nat) : Field := ⟨(Reg.RING_CTL l), 2, 1⟩
def RING_CTL_MODE (l : Nat) : Field := ⟨(Reg.RING_CTL l), 1, 1⟩
def RING_CTL_EN (l : Nat) : Field := ⟨(Reg.RING_CTL l), 0, 1⟩
def RING_EVT_FEATDROP (l : Nat) : Field := ⟨(Reg.RING_EVT l), 7, 1⟩
def RING_EVT_PCLOSE (l : Nat) : Field := ⟨(Reg.RING_EVT l), 6, 1⟩
def RING_EVT_ERRRATE (l : Nat) : Field := ⟨(Reg.RING_EVT l), 5, 1⟩
def RING_EVT_NEGTO (l : Nat) : Field := ⟨(Reg.RING_EVT l), 4, 1⟩
def RING_EVT_TRAINFAIL (l : Nat) : Field := ⟨(Reg.RING_EVT l), 3, 1⟩
def RING_EVT_VERREF (l : Nat) : Field := ⟨(Reg.RING_EVT l), 2, 1⟩
def RING_EVT_LINKDN (l : Nat) : Field := ⟨(Reg.RING_EVT l), 1, 1⟩
def RING_EVT_LINKUP (l : Nat) : Field := ⟨(Reg.RING_EVT l), 0, 1⟩
def RING_LINK_AG_MAJ (l : Nat) : Field := ⟨(Reg.RING_LINK l), 28, 4⟩
def RING_LINK_AG_MIN (l : Nat) : Field := ⟨(Reg.RING_LINK l), 24, 4⟩
def RING_LINK_AG_FEAT (l : Nat) : Field := ⟨(Reg.RING_LINK l), 16, 4⟩
def RING_LINK_MODABS (l : Nat) : Field := ⟨(Reg.RING_LINK l), 11, 1⟩
def RING_LINK_LOS (l : Nat) : Field := ⟨(Reg.RING_LINK l), 10, 1⟩
def RING_LINK_HIBER (l : Nat) : Field := ⟨(Reg.RING_LINK l), 9, 1⟩
def RING_LINK_BLOCKLOCK (l : Nat) : Field := ⟨(Reg.RING_LINK l), 8, 1⟩
def RING_LINK_LSTATE (l : Nat) : Field := ⟨(Reg.RING_LINK l), 0, 4⟩
def RING_PARTNER_PVALID (l : Nat) : Field := ⟨(Reg.RING_PARTNER l), 31, 1⟩
def RING_PARTNER_PRINGV (l : Nat) : Field := ⟨(Reg.RING_PARTNER l), 30, 1⟩
def RING_PARTNER_PRING (l : Nat) : Field := ⟨(Reg.RING_PARTNER l), 24, 4⟩
def RING_PARTNER_PHUB (l : Nat) : Field := ⟨(Reg.RING_PARTNER l), 16, 8⟩
def RING_PARTNER_PLANE (l : Nat) : Field := ⟨(Reg.RING_PARTNER l), 8, 3⟩
def RING_PARTNER_PMODE (l : Nat) : Field := ⟨(Reg.RING_PARTNER l), 7, 1⟩
def RING_PSERIAL_LO_SERIAL (l : Nat) : Field := ⟨(Reg.RING_PSERIAL_LO l), 0, 32⟩
def RING_PSERIAL_HI_SERIAL (l : Nat) : Field := ⟨(Reg.RING_PSERIAL_HI l), 0, 32⟩
def RING_LAT_TX_LAT (l : Nat) : Field := ⟨(Reg.RING_LAT l), 16, 16⟩
def RING_LAT_RX_LAT (l : Nat) : Field := ⟨(Reg.RING_LAT l), 0, 16⟩
def RING_TRACE_TX_TRACE (l : Nat) : Field := ⟨(Reg.RING_TRACE l), 16, 16⟩
def RING_TRACE_RX_TRACE (l : Nat) : Field := ⟨(Reg.RING_TRACE l), 0, 16⟩
def RING_ASYM_ASYM (l : Nat) : Field := ⟨(Reg.RING_ASYM l), 0, 16⟩
def RING_DELAY_DLY (l : Nat) : Field := ⟨(Reg.RING_DELAY l), 0, 32⟩
def RING_EQ_BND0_TAP1_MAX (l : Nat) : Field := ⟨(Reg.RING_EQ_BND0 l), 24, 7⟩
def RING_EQ_BND0_TAP1_MIN (l : Nat) : Field := ⟨(Reg.RING_EQ_BND0 l), 16, 7⟩
def RING_EQ_BND0_CTLE_MAX (l : Nat) : Field := ⟨(Reg.RING_EQ_BND0 l), 8, 5⟩
def RING_EQ_BND0_CTLE_MIN (l : Nat) : Field := ⟨(Reg.RING_EQ_BND0 l), 0, 5⟩
def RING_EQ_BND1_TAP5_MAX (l : Nat) : Field := ⟨(Reg.RING_EQ_BND1 l), 24, 5⟩
def RING_EQ_BND1_TAP4_MAX (l : Nat) : Field := ⟨(Reg.RING_EQ_BND1 l), 16, 5⟩
def RING_EQ_BND1_TAP3_MAX (l : Nat) : Field := ⟨(Reg.RING_EQ_BND1 l), 8, 5⟩
def RING_EQ_BND1_TAP2_MAX (l : Nat) : Field := ⟨(Reg.RING_EQ_BND1 l), 0, 5⟩
def RING_EQ_NOW0_TAP1 (l : Nat) : Field := ⟨(Reg.RING_EQ_NOW0 l), 8, 7⟩
def RING_EQ_NOW0_CTLE (l : Nat) : Field := ⟨(Reg.RING_EQ_NOW0 l), 0, 5⟩
def RING_EQ_NOW1_TAP5 (l : Nat) : Field := ⟨(Reg.RING_EQ_NOW1 l), 24, 6⟩
def RING_EQ_NOW1_TAP4 (l : Nat) : Field := ⟨(Reg.RING_EQ_NOW1 l), 16, 6⟩
def RING_EQ_NOW1_TAP3 (l : Nat) : Field := ⟨(Reg.RING_EQ_NOW1 l), 8, 6⟩
def RING_EQ_NOW1_TAP2 (l : Nat) : Field := ⟨(Reg.RING_EQ_NOW1 l), 0, 6⟩
def RING_EQ_STAT_TXLIM (l : Nat) : Field := ⟨(Reg.RING_EQ_STAT l), 16, 1⟩
def RING_EQ_STAT_SAT (l : Nat) : Field := ⟨(Reg.RING_EQ_STAT l), 0, 6⟩
def RING_TXFIR_POST (l : Nat) : Field := ⟨(Reg.RING_TXFIR l), 16, 5⟩
def RING_TXFIR_MAIN (l : Nat) : Field := ⟨(Reg.RING_TXFIR l), 8, 6⟩
def RING_TXFIR_PRE (l : Nat) : Field := ⟨(Reg.RING_TXFIR l), 0, 4⟩
def RING_TXFIR_BND_POST_MAX (l : Nat) : Field := ⟨(Reg.RING_TXFIR_BND l), 16, 5⟩
def RING_TXFIR_BND_MAIN_MIN (l : Nat) : Field := ⟨(Reg.RING_TXFIR_BND l), 8, 6⟩
def RING_TXFIR_BND_PRE_MAX (l : Nat) : Field := ⟨(Reg.RING_TXFIR_BND l), 0, 4⟩
def RING_CNT_RXF_COUNT (l : Nat) : Field := ⟨(Reg.RING_CNT_RXF l), 0, 32⟩
def RING_CNT_TXF_COUNT (l : Nat) : Field := ⟨(Reg.RING_CNT_TXF l), 0, 32⟩
def RING_CNT_BLK_COUNT (l : Nat) : Field := ⟨(Reg.RING_CNT_BLK l), 0, 32⟩
def RING_CNT_HCRC_COUNT (l : Nat) : Field := ⟨(Reg.RING_CNT_HCRC l), 0, 32⟩
def RING_CNT_FCS_COUNT (l : Nat) : Field := ⟨(Reg.RING_CNT_FCS l), 0, 32⟩
def RING_CNT_STOMP_COUNT (l : Nat) : Field := ⟨(Reg.RING_CNT_STOMP l), 0, 32⟩
def RING_CNT_DISC_COUNT (l : Nat) : Field := ⟨(Reg.RING_CNT_DISC l), 0, 32⟩
def RING_CNT_GMAC_COUNT (l : Nat) : Field := ⟨(Reg.RING_CNT_GMAC l), 0, 32⟩
def RING_CNT_HOPS_COUNT (l : Nat) : Field := ⟨(Reg.RING_CNT_HOPS l), 0, 32⟩
def RING_CNT_DLYDISC_COUNT (l : Nat) : Field := ⟨(Reg.RING_CNT_DLYDISC l), 0, 32⟩
def RING_VERSION_MAX_MAJ : Field := ⟨Reg.RING_VERSION, 24, 8⟩
def RING_VERSION_MAX_MIN : Field := ⟨Reg.RING_VERSION, 16, 8⟩
def RING_VERSION_MIN_MAJ : Field := ⟨Reg.RING_VERSION, 8, 8⟩
def RING_VERSION_MIN_MIN : Field := ⟨Reg.RING_VERSION, 0, 8⟩
def RING_ERRCFG_ERRWIN : Field := ⟨Reg.RING_ERRCFG, 16, 16⟩
def RING_ERRCFG_ERRMAX : Field := ⟨Reg.RING_ERRCFG, 0, 16⟩
def MBR_CFG_FIXNUM : Field := ⟨Reg.MBR_CFG, 16, 7⟩
def MBR_CFG_RING_B : Field := ⟨Reg.MBR_CFG, 12, 4⟩
def MBR_CFG_RING_A : Field := ⟨Reg.MBR_CFG, 8, 4⟩
def MBR_CFG_PAIRB : Field := ⟨Reg.MBR_CFG, 4, 2⟩
def MBR_CFG_FIXMODE : Field := ⟨Reg.MBR_CFG, 1, 2⟩
def MBR_CFG_MGRCAP : Field := ⟨Reg.MBR_CFG, 0, 1⟩
def MBR_BRIDGE_AMASK : Field := ⟨Reg.MBR_BRIDGE, 16, 16⟩
def MBR_BRIDGE_BMASK : Field := ⟨Reg.MBR_BRIDGE, 0, 16⟩
def MBR_DDCFG_DDAGE : Field := ⟨Reg.MBR_DDCFG, 0, 10⟩
def MBR_PAIRCFG_SWAPWAIT : Field := ⟨Reg.MBR_PAIRCFG, 16, 8⟩
def MBR_PAIRCFG_SWAPLEAD : Field := ⟨Reg.MBR_PAIRCFG, 8, 8⟩
def MBR_PAIRCFG_EN : Field := ⟨Reg.MBR_PAIRCFG, 0, 1⟩
def MBR_HOLDNUM_HOURS : Field := ⟨Reg.MBR_HOLDNUM, 0, 16⟩
def MBR_ID_A_VALID : Field := ⟨Reg.MBR_ID_A, 31, 1⟩
def MBR_ID_A_RING : Field := ⟨Reg.MBR_ID_A, 24, 4⟩
def MBR_ID_A_HUB : Field := ⟨Reg.MBR_ID_A, 16, 7⟩
def MBR_ID_A_INCARN : Field := ⟨Reg.MBR_ID_A, 0, 16⟩
def MBR_ID_B_VALID : Field := ⟨Reg.MBR_ID_B, 31, 1⟩
def MBR_ID_B_RING : Field := ⟨Reg.MBR_ID_B, 24, 4⟩
def MBR_ID_B_HUB : Field := ⟨Reg.MBR_ID_B, 16, 7⟩
def MBR_ID_B_INCARN : Field := ⟨Reg.MBR_ID_B, 0, 16⟩
def MBR_MGR_ISMGR : Field := ⟨Reg.MBR_MGR, 31, 1⟩
def MBR_MGR_MGRHUB : Field := ⟨Reg.MBR_MGR, 16, 7⟩
def MBR_MGR_ROUND : Field := ⟨Reg.MBR_MGR, 0, 16⟩
def MBR_STATUS_PAIRREAM : Field := ⟨Reg.MBR_STATUS, 3, 1⟩
def MBR_STATUS_BYPASS : Field := ⟨Reg.MBR_STATUS, 2, 1⟩
def MBR_STATUS_JOINED_B : Field := ⟨Reg.MBR_STATUS, 1, 1⟩
def MBR_STATUS_JOINED_A : Field := ⟨Reg.MBR_STATUS, 0, 1⟩
def MBR_EVT_BYPASSNB : Field := ⟨Reg.MBR_EVT, 6, 1⟩
def MBR_EVT_LADDERX : Field := ⟨Reg.MBR_EVT, 5, 1⟩
def MBR_EVT_SWAPREF : Field := ⟨Reg.MBR_EVT, 4, 1⟩
def MBR_EVT_SWAPDONE : Field := ⟨Reg.MBR_EVT, 3, 1⟩
def MBR_EVT_NUMCHG : Field := ⟨Reg.MBR_EVT, 2, 1⟩
def MBR_EVT_MGRCHG : Field := ⟨Reg.MBR_EVT, 1, 1⟩
def MBR_EVT_ROUNDEND : Field := ⟨Reg.MBR_EVT, 0, 1⟩
def MBR_CTL_CENSUS : Field := ⟨Reg.MBR_CTL, 31, 1⟩
def MBR_CTL_SWAP : Field := ⟨Reg.MBR_CTL, 30, 1⟩
def MBR_CTL_FREE : Field := ⟨Reg.MBR_CTL, 29, 1⟩
def MBR_CTL_FREENUM : Field := ⟨Reg.MBR_CTL, 0, 7⟩
def MBR_PATH_PEERGONE : Field := ⟨Reg.MBR_PATH, 11, 1⟩
def MBR_PATH_PARTNER : Field := ⟨Reg.MBR_PATH, 8, 3⟩
def MBR_PATH_LADDERP : Field := ⟨Reg.MBR_PATH, 6, 2⟩
def MBR_PATH_NEIGH : Field := ⟨Reg.MBR_PATH, 0, 4⟩
def MBR_PAIR_SWAPNUM : Field := ⟨Reg.MBR_PAIR, 24, 8⟩
def MBR_PAIR_PHASE : Field := ⟨Reg.MBR_PAIR, 20, 4⟩
def MBR_PAIR_ROLE : Field := ⟨Reg.MBR_PAIR, 16, 4⟩
def MBR_PAIR_PVER : Field := ⟨Reg.MBR_PAIR, 8, 8⟩
def MBR_PAIR_PHUB : Field := ⟨Reg.MBR_PAIR, 0, 7⟩
def SW_VATCFG_LOWWAT : Field := ⟨Reg.SW_VATCFG, 0, 16⟩
def SW_VATFREE_FREE : Field := ⟨Reg.SW_VATFREE, 0, 17⟩
def SW_VATMIN_MINFREE : Field := ⟨Reg.SW_VATMIN, 0, 17⟩
def SW_EVT_TSSKIP : Field := ⟨Reg.SW_EVT, 6, 1⟩
def SW_EVT_BUDGET : Field := ⟨Reg.SW_EVT, 5, 1⟩
def SW_EVT_QDROP : Field := ⟨Reg.SW_EVT, 4, 1⟩
def SW_EVT_ECC : Field := ⟨Reg.SW_EVT, 3, 1⟩
def SW_EVT_INOVF : Field := ⟨Reg.SW_EVT, 2, 1⟩
def SW_EVT_VATFULL : Field := ⟨Reg.SW_EVT, 1, 1⟩
def SW_EVT_VATLOW : Field := ⟨Reg.SW_EVT, 0, 1⟩
def SW_MIRCFG_HPLIM : Field := ⟨Reg.SW_MIRCFG, 16, 16⟩
def SW_MIRCFG_MCLIM : Field := ⟨Reg.SW_MIRCFG, 0, 16⟩
def SW_OUTCFG_LOWGAP (n : Nat) : Field := ⟨(Reg.SW_OUTCFG n), 20, 10⟩
def SW_OUTCFG_WEIGHT7 (n : Nat) : Field := ⟨(Reg.SW_OUTCFG n), 16, 4⟩
def SW_OUTCFG_WEIGHT6 (n : Nat) : Field := ⟨(Reg.SW_OUTCFG n), 12, 4⟩
def SW_OUTCFG_WEIGHT5 (n : Nat) : Field := ⟨(Reg.SW_OUTCFG n), 8, 4⟩
def SW_OUTCFG_WEIGHT4 (n : Nat) : Field := ⟨(Reg.SW_OUTCFG n), 4, 4⟩
def SW_OUTCFG_WEIGHT3 (n : Nat) : Field := ⟨(Reg.SW_OUTCFG n), 0, 4⟩
def SW_QCFG_POLICY (o c : Nat) : Field := ⟨(Reg.SW_QCFG o c), 31, 1⟩
def SW_QCFG_LIMIT (o c : Nat) : Field := ⟨(Reg.SW_QCFG o c), 0, 16⟩
def SW_TSCFG_TARGET (o c : Nat) : Field := ⟨(Reg.SW_TSCFG o c), 31, 1⟩
def SW_TSCFG_N (o c : Nat) : Field := ⟨(Reg.SW_TSCFG o c), 0, 16⟩
def SW_LOST_COUNT (o c : Nat) : Field := ⟨(Reg.SW_LOST o c), 0, 32⟩
def SW_CNT_INOVF_COUNT (n : Nat) : Field := ⟨(Reg.SW_CNT_INOVF n), 0, 32⟩
def SW_CNT_LOWER_COUNT : Field := ⟨Reg.SW_CNT_LOWER, 0, 32⟩
def SW_CNT_AUTHWD_COUNT : Field := ⟨Reg.SW_CNT_AUTHWD, 0, 32⟩
def SW_CNT_VATFULL_COUNT : Field := ⟨Reg.SW_CNT_VATFULL, 0, 32⟩
def SW_CNT_ECC_COUNT : Field := ⟨Reg.SW_CNT_ECC, 0, 32⟩
def SW_CNT_WORLDQ_COUNT : Field := ⟨Reg.SW_CNT_WORLDQ, 0, 32⟩
def SW_CNT_TSSKIP_COUNT : Field := ⟨Reg.SW_CNT_TSSKIP, 0, 32⟩
def SW_CNT_TSLOST_COUNT : Field := ⟨Reg.SW_CNT_TSLOST, 0, 32⟩
def SW_BUDGET_OCTETS (i c : Nat) : Field := ⟨(Reg.SW_BUDGET i c), 0, 21⟩
def SW_BUDSTAT_OVR (n : Nat) : Field := ⟨(Reg.SW_BUDSTAT n), 0, 8⟩
def SW_HQ_HEAD_HEAD (q : Nat) : Field := ⟨(Reg.SW_HQ_HEAD q), 0, 32⟩
def SW_HQ_LVL_FRAMES (q : Nat) : Field := ⟨(Reg.SW_HQ_LVL q), 19, 13⟩
def SW_HQ_LVL_CELLS (q : Nat) : Field := ⟨(Reg.SW_HQ_LVL q), 0, 17⟩
def XB_CFG_MAXRD : Field := ⟨Reg.XB_CFG, 16, 12⟩
def XB_CFG_CTO : Field := ⟨Reg.XB_CFG, 0, 14⟩
def XB_ORD_WAIT : Field := ⟨Reg.XB_ORD, 0, 10⟩
def XB_TAGCFG_MCRES : Field := ⟨Reg.XB_TAGCFG, 0, 10⟩
def XB_TAGUSE_MCUSE : Field := ⟨Reg.XB_TAGUSE, 16, 11⟩
def XB_TAGUSE_HPUSE : Field := ⟨Reg.XB_TAGUSE, 0, 11⟩
def XB_STREAM_HPSTR : Field := ⟨Reg.XB_STREAM, 16, 12⟩
def XB_STREAM_MCSTR : Field := ⟨Reg.XB_STREAM, 0, 12⟩
def XB_CPLSTREAM_CPLSTR : Field := ⟨Reg.XB_CPLSTREAM, 0, 12⟩
def XB_PFCFG_RATE : Field := ⟨Reg.XB_PFCFG, 0, 8⟩
def XB_TUNDEF_ETHPORT : Field := ⟨Reg.XB_TUNDEF, 8, 8⟩
def XB_TUNDEF_BUSPORT : Field := ⟨Reg.XB_TUNDEF, 0, 8⟩
def XB_EVT_GUESS : Field := ⟨Reg.XB_EVT, 7, 1⟩
def XB_EVT_TUNVER : Field := ⟨Reg.XB_EVT, 6, 1⟩
def XB_EVT_DBFULL : Field := ⟨Reg.XB_EVT, 5, 1⟩
def XB_EVT_PFQLOST : Field := ⟨Reg.XB_EVT, 4, 1⟩
def XB_EVT_CTO : Field := ⟨Reg.XB_EVT, 3, 1⟩
def XB_EVT_FENCETO : Field := ⟨Reg.XB_EVT, 2, 1⟩
def XB_EVT_REROUTE : Field := ⟨Reg.XB_EVT, 1, 1⟩
def XB_EVT_NOROUTE : Field := ⟨Reg.XB_EVT, 0, 1⟩
def XB_PFQ_VALID : Field := ⟨Reg.XB_PFQ, 31, 1⟩
def XB_PFQ_LOST : Field := ⟨Reg.XB_PFQ, 24, 7⟩
def XB_PFQ_CAUSE : Field := ⟨Reg.XB_PFQ, 17, 6⟩
def XB_PFQ_WORLD : Field := ⟨Reg.XB_PFQ, 16, 1⟩
def XB_PFQ_STREAM : Field := ⟨Reg.XB_PFQ, 0, 12⟩
def XB_PFQ_ADDR_LO_ADDR : Field := ⟨Reg.XB_PFQ_ADDR_LO, 0, 32⟩
def XB_PFQ_ADDR_HI_SEQ : Field := ⟨Reg.XB_PFQ_ADDR_HI, 16, 16⟩
def XB_PFQ_ADDR_HI_ADDR : Field := ⟨Reg.XB_PFQ_ADDR_HI, 0, 16⟩
def XB_SB_DST_RING : Field := ⟨Reg.XB_SB_DST, 28, 4⟩
def XB_SB_DST_HUB : Field := ⟨Reg.XB_SB_DST, 20, 8⟩
def XB_SB_DST_PORT : Field := ⟨Reg.XB_SB_DST, 15, 5⟩
def XB_SB_DST_KIND : Field := ⟨Reg.XB_SB_DST, 12, 2⟩
def XB_SB_DST_CLASS : Field := ⟨Reg.XB_SB_DST, 8, 3⟩
def XB_SB_DATA_DATA : Field := ⟨Reg.XB_SB_DATA, 0, 32⟩
def XB_DOORBELL_VALUE : Field := ⟨Reg.XB_DOORBELL, 0, 32⟩
def XB_DBLVL_LEVEL : Field := ⟨Reg.XB_DBLVL, 0, 6⟩
def HP_CTL_BAR2LOG : Field := ⟨Reg.HP_CTL, 0, 6⟩
def HP_LINK_UP : Field := ⟨Reg.HP_LINK, 31, 1⟩
def HP_LINK_PERST : Field := ⟨Reg.HP_LINK, 30, 1⟩
def HP_LINK_BME : Field := ⟨Reg.HP_LINK, 29, 1⟩
def HP_LINK_MSIXEN : Field := ⟨Reg.HP_LINK, 28, 1⟩
def HP_LINK_WIDTH : Field := ⟨Reg.HP_LINK, 4, 4⟩
def HP_LINK_RATE : Field := ⟨Reg.HP_LINK, 0, 4⟩
def HP_EVT_HOTRST : Field := ⟨Reg.HP_EVT, 2, 1⟩
def HP_EVT_LINKDN : Field := ⟨Reg.HP_EVT, 1, 1⟩
def HP_EVT_LINKUP : Field := ⟨Reg.HP_EVT, 0, 1⟩
def HP_ID0_DID : Field := ⟨Reg.HP_ID0, 16, 16⟩
def HP_ID0_VID : Field := ⟨Reg.HP_ID0, 0, 16⟩
def HP_ID1_SSID : Field := ⟨Reg.HP_ID1, 16, 16⟩
def HP_ID1_SSVID : Field := ⟨Reg.HP_ID1, 0, 16⟩
def HP_ID2_CLASS : Field := ⟨Reg.HP_ID2, 8, 24⟩
def HP_ID2_REV : Field := ⟨Reg.HP_ID2, 0, 8⟩
def HP_WIN_CTL_EN (w : Nat) : Field := ⟨(Reg.HP_WIN_CTL w), 31, 1⟩
def HP_WIN_CTL_OUT (w : Nat) : Field := ⟨(Reg.HP_WIN_CTL w), 30, 1⟩
def HP_WIN_CTL_DI (w : Nat) : Field := ⟨(Reg.HP_WIN_CTL w), 29, 1⟩
def HP_WIN_CTL_SIZELOG (w : Nat) : Field := ⟨(Reg.HP_WIN_CTL w), 0, 6⟩
def ST_CTL_PTPRULE (p : Nat) : Field := ⟨(Reg.ST_CTL p), 4, 1⟩
def ST_CTL_ANEN (p : Nat) : Field := ⟨(Reg.ST_CTL p), 3, 1⟩
def ST_CTL_EN (p : Nat) : Field := ⟨(Reg.ST_CTL p), 2, 1⟩
def ST_CTL_MODE (p : Nat) : Field := ⟨(Reg.ST_CTL p), 0, 2⟩
def ST_LINK_UP (p : Nat) : Field := ⟨(Reg.ST_LINK p), 3, 1⟩
def ST_LINK_ANDONE (p : Nat) : Field := ⟨(Reg.ST_LINK p), 2, 1⟩
def ST_LINK_SPEED (p : Nat) : Field := ⟨(Reg.ST_LINK p), 0, 2⟩
def ST_LAT_TX (p : Nat) : Field := ⟨(Reg.ST_LAT p), 16, 16⟩
def ST_LAT_RX (p : Nat) : Field := ⟨(Reg.ST_LAT p), 0, 16⟩
def ST_PHYLAT_TX (p : Nat) : Field := ⟨(Reg.ST_PHYLAT p), 16, 16⟩
def ST_PHYLAT_RX (p : Nat) : Field := ⟨(Reg.ST_PHYLAT p), 0, 16⟩
def ST_DEFAULT_ACTION (p : Nat) : Field := ⟨(Reg.ST_DEFAULT p), 30, 2⟩
def ST_DEFAULT_VER (p : Nat) : Field := ⟨(Reg.ST_DEFAULT p), 27, 3⟩
def ST_DEFAULT_DRING (p : Nat) : Field := ⟨(Reg.ST_DEFAULT p), 23, 4⟩
def ST_DEFAULT_DHUB (p : Nat) : Field := ⟨(Reg.ST_DEFAULT p), 16, 7⟩
def ST_DEFAULT_FARPORT (p : Nat) : Field := ⟨(Reg.ST_DEFAULT p), 12, 4⟩
def ST_DEFAULT_STREAM (p : Nat) : Field := ⟨(Reg.ST_DEFAULT p), 0, 12⟩
def ST_TSFIFO_VALID (p : Nat) : Field := ⟨(Reg.ST_TSFIFO p), 31, 1⟩
def ST_TSFIFO_MSGTYPE (p : Nat) : Field := ⟨(Reg.ST_TSFIFO p), 20, 4⟩
def ST_TSFIFO_SEQID (p : Nat) : Field := ⟨(Reg.ST_TSFIFO p), 0, 16⟩
def ST_RULE_MATCH_EN (p k : Nat) : Field := ⟨(Reg.ST_RULE_MATCH p k), 31, 1⟩
def ST_RULE_MATCH_VLANEN (p k : Nat) : Field := ⟨(Reg.ST_RULE_MATCH p k), 30, 1⟩
def ST_RULE_MATCH_GRPEN (p k : Nat) : Field := ⟨(Reg.ST_RULE_MATCH p k), 29, 1⟩
def ST_RULE_MATCH_VID (p k : Nat) : Field := ⟨(Reg.ST_RULE_MATCH p k), 16, 12⟩
def ST_RULE_MATCH_ETYPE (p k : Nat) : Field := ⟨(Reg.ST_RULE_MATCH p k), 0, 16⟩
def ST_RULE_ACT_ACTION (p k : Nat) : Field := ⟨(Reg.ST_RULE_ACT p k), 30, 2⟩
def ST_RULE_ACT_VER (p k : Nat) : Field := ⟨(Reg.ST_RULE_ACT p k), 27, 3⟩
def ST_RULE_ACT_DRING (p k : Nat) : Field := ⟨(Reg.ST_RULE_ACT p k), 23, 4⟩
def ST_RULE_ACT_DHUB (p k : Nat) : Field := ⟨(Reg.ST_RULE_ACT p k), 16, 7⟩
def ST_RULE_ACT_FARPORT (p k : Nat) : Field := ⟨(Reg.ST_RULE_ACT p k), 12, 4⟩
def ST_RULE_ACT_STREAM (p k : Nat) : Field := ⟨(Reg.ST_RULE_ACT p k), 0, 12⟩
def BRD_CCFG_LOCK (c : Nat) : Field := ⟨(Reg.BRD_CCFG c), 31, 1⟩
def BRD_CCFG_VSEL (c : Nat) : Field := ⟨(Reg.BRD_CCFG c), 8, 1⟩
def BRD_CCFG_CDIV (c : Nat) : Field := ⟨(Reg.BRD_CCFG c), 4, 2⟩
def BRD_CCFG_EN (c : Nat) : Field := ⟨(Reg.BRD_CCFG c), 0, 1⟩
def BRD_TMS_HI_SEC_HI (c : Nat) : Field := ⟨(Reg.BRD_TMS_HI c), 0, 16⟩
def BRD_FLAGS_WIRE (c : Nat) : Field := ⟨(Reg.BRD_FLAGS c), 8, 16⟩
def BRD_FLAGS_FLAG (c : Nat) : Field := ⟨(Reg.BRD_FLAGS c), 0, 8⟩
def BRD_FLAGSET_FLAG (c : Nat) : Field := ⟨(Reg.BRD_FLAGSET c), 0, 8⟩
def BRD_EVT_CLPLL (c : Nat) : Field := ⟨(Reg.BRD_EVT c), 27, 1⟩
def BRD_EVT_EDGEOVR (c : Nat) : Field := ⟨(Reg.BRD_EVT c), 26, 1⟩
def BRD_EVT_STARTMISS (c : Nat) : Field := ⟨(Reg.BRD_EVT c), 25, 1⟩
def BRD_EVT_TMSUNLOCK (c : Nat) : Field := ⟨(Reg.BRD_EVT c), 24, 1⟩
def BRD_EVT_TMSSKIP (c : Nat) : Field := ⟨(Reg.BRD_EVT c), 28, 1⟩
def BRD_EVT_TXOVF (c : Nat) : Field := ⟨(Reg.BRD_EVT c), 16, 8⟩
def BRD_EVT_FAULT (c : Nat) : Field := ⟨(Reg.BRD_EVT c), 8, 8⟩
def BRD_EVT_PROGERR (c : Nat) : Field := ⟨(Reg.BRD_EVT c), 0, 8⟩
def BRD_EDGESTR_DRING (c : Nat) : Field := ⟨(Reg.BRD_EDGESTR c), 28, 4⟩
def BRD_EDGESTR_DHUB (c : Nat) : Field := ⟨(Reg.BRD_EDGESTR c), 20, 8⟩
def BRD_EDGESTR_PORT (c : Nat) : Field := ⟨(Reg.BRD_EDGESTR c), 15, 5⟩
def BRD_EDGESTR_C0 (c : Nat) : Field := ⟨(Reg.BRD_EDGESTR c), 12, 1⟩
def BRD_EDGESTR_STREAM (c : Nat) : Field := ⟨(Reg.BRD_EDGESTR c), 0, 12⟩
def BRD_EDGEFLT_FILT (c : Nat) : Field := ⟨(Reg.BRD_EDGEFLT c), 16, 8⟩
def BRD_EDGEFLT_GAP (c : Nat) : Field := ⟨(Reg.BRD_EDGEFLT c), 0, 16⟩
def BRD_LINEIN_LINE (c : Nat) : Field := ⟨(Reg.BRD_LINEIN c), 0, 32⟩
def BRD_LINEOUT_LINE (c : Nat) : Field := ⟨(Reg.BRD_LINEOUT c), 0, 32⟩
def BRD_LINEOE_LINE (c : Nat) : Field := ⟨(Reg.BRD_LINEOE c), 0, 32⟩
def BRD_LAT_OUT_LAT (c : Nat) : Field := ⟨(Reg.BRD_LAT c), 16, 16⟩
def BRD_LAT_IN_LAT (c : Nat) : Field := ⟨(Reg.BRD_LAT c), 0, 16⟩
def BRD_EWIN_WRAPT (c e : Nat) : Field := ⟨(Reg.BRD_EWIN c e), 24, 6⟩
def BRD_EWIN_LEN (c e : Nat) : Field := ⟨(Reg.BRD_EWIN c e), 16, 7⟩
def BRD_EWIN_WRAPB (c e : Nat) : Field := ⟨(Reg.BRD_EWIN c e), 9, 6⟩
def BRD_EWIN_BASE (c e : Nat) : Field := ⟨(Reg.BRD_EWIN c e), 0, 9⟩
def BRD_EPINS_JPIN (c e : Nat) : Field := ⟨(Reg.BRD_EPINS c e), 25, 5⟩
def BRD_EPINS_INBASE (c e : Nat) : Field := ⟨(Reg.BRD_EPINS c e), 20, 5⟩
def BRD_EPINS_SETCNT (c e : Nat) : Field := ⟨(Reg.BRD_EPINS c e), 16, 4⟩
def BRD_EPINS_SETBASE (c e : Nat) : Field := ⟨(Reg.BRD_EPINS c e), 11, 5⟩
def BRD_EPINS_OUTCNT (c e : Nat) : Field := ⟨(Reg.BRD_EPINS c e), 5, 6⟩
def BRD_EPINS_OUTBASE (c e : Nat) : Field := ⟨(Reg.BRD_EPINS c e), 0, 5⟩
def BRD_ESHIFT_DRAIN (c e : Nat) : Field := ⟨(Reg.BRD_ESHIFT c e), 29, 1⟩
def BRD_ESHIFT_FEED (c e : Nat) : Field := ⟨(Reg.BRD_ESHIFT c e), 28, 1⟩
def BRD_ESHIFT_JOIN (c e : Nat) : Field := ⟨(Reg.BRD_ESHIFT c e), 26, 2⟩
def BRD_ESHIFT_DRAINTH (c e : Nat) : Field := ⟨(Reg.BRD_ESHIFT c e), 20, 6⟩
def BRD_ESHIFT_FILLTH (c e : Nat) : Field := ⟨(Reg.BRD_ESHIFT c e), 14, 6⟩
def BRD_ESHIFT_DRAINEN (c e : Nat) : Field := ⟨(Reg.BRD_ESHIFT c e), 13, 1⟩
def BRD_ESHIFT_FILLEN (c e : Nat) : Field := ⟨(Reg.BRD_ESHIFT c e), 12, 1⟩
def BRD_ESHIFT_OSHR (c e : Nat) : Field := ⟨(Reg.BRD_ESHIFT c e), 11, 1⟩
def BRD_ESHIFT_ISHR (c e : Nat) : Field := ⟨(Reg.BRD_ESHIFT c e), 10, 1⟩
def BRD_ESHIFT_TAILDIR (c e : Nat) : Field := ⟨(Reg.BRD_ESHIFT c e), 9, 1⟩
def BRD_ESHIFT_TAILOPT (c e : Nat) : Field := ⟨(Reg.BRD_ESHIFT c e), 8, 1⟩
def BRD_ESHIFT_TCOUNT (c e : Nat) : Field := ⟨(Reg.BRD_ESHIFT c e), 5, 3⟩
def BRD_ESHIFT_TAILBASE (c e : Nat) : Field := ⟨(Reg.BRD_ESHIFT c e), 0, 5⟩
def BRD_EDIV_INT (c e : Nat) : Field := ⟨(Reg.BRD_EDIV c e), 16, 16⟩
def BRD_EDIV_FRAC (c e : Nat) : Field := ⟨(Reg.BRD_EDIV c e), 8, 8⟩
def BRD_ESTR_DRING (c e : Nat) : Field := ⟨(Reg.BRD_ESTR c e), 28, 4⟩
def BRD_ESTR_DHUB (c e : Nat) : Field := ⟨(Reg.BRD_ESTR c e), 20, 8⟩
def BRD_ESTR_PORT (c e : Nat) : Field := ⟨(Reg.BRD_ESTR c e), 15, 5⟩
def BRD_ESTR_TENG (c e : Nat) : Field := ⟨(Reg.BRD_ESTR c e), 12, 3⟩
def BRD_ESTR_STREAM (c e : Nat) : Field := ⟨(Reg.BRD_ESTR c e), 0, 12⟩
def BRD_EQLVL_RXLVL (c e : Nat) : Field := ⟨(Reg.BRD_EQLVL c e), 16, 5⟩
def BRD_EQLVL_TXLVL (c e : Nat) : Field := ⟨(Reg.BRD_EQLVL c e), 0, 5⟩
def BRD_TXQ_WORD (c e : Nat) : Field := ⟨(Reg.BRD_TXQ c e), 0, 32⟩
def BRD_RXQ_WORD (c e : Nat) : Field := ⟨(Reg.BRD_RXQ c e), 0, 32⟩
def BRD_EPC_STALL (c e : Nat) : Field := ⟨(Reg.BRD_EPC c e), 8, 4⟩
def BRD_EPC_PC (c e : Nat) : Field := ⟨(Reg.BRD_EPC c e), 0, 6⟩
def BRD_EX_VALUE (c e : Nat) : Field := ⟨(Reg.BRD_EX c e), 0, 32⟩
def BRD_EY_VALUE (c e : Nat) : Field := ⟨(Reg.BRD_EY c e), 0, 32⟩
def BRD_CNT_FRAMES_COUNT (c e : Nat) : Field := ⟨(Reg.BRD_CNT_FRAMES c e), 0, 32⟩
def SEN_GCFG_SLEW (g : Nat) : Field := ⟨(Reg.SEN_GCFG g), 16, 10⟩
def SEN_GCFG_K (g : Nat) : Field := ⟨(Reg.SEN_GCFG g), 8, 8⟩
def SEN_GCFG_EN (g : Nat) : Field := ⟨(Reg.SEN_GCFG g), 0, 1⟩
def SEN_GBND_TMAX (g : Nat) : Field := ⟨(Reg.SEN_GBND g), 16, 10⟩
def SEN_GBND_TMIN (g : Nat) : Field := ⟨(Reg.SEN_GBND g), 0, 10⟩
def SEN_GREF_SAT (g : Nat) : Field := ⟨(Reg.SEN_GREF g), 31, 1⟩
def SEN_GREF_V (g : Nat) : Field := ⟨(Reg.SEN_GREF g), 16, 12⟩
def SEN_GREF_T (g : Nat) : Field := ⟨(Reg.SEN_GREF g), 0, 10⟩
def SEN_GSTR_DRING (g : Nat) : Field := ⟨(Reg.SEN_GSTR g), 28, 4⟩
def SEN_GSTR_DHUB (g : Nat) : Field := ⟨(Reg.SEN_GSTR g), 20, 8⟩
def SEN_GSTR_PORT (g : Nat) : Field := ⟨(Reg.SEN_GSTR g), 15, 5⟩
def SEN_GSTR_C0 (g : Nat) : Field := ⟨(Reg.SEN_GSTR g), 12, 1⟩
def SEN_GSTR_STREAM (g : Nat) : Field := ⟨(Reg.SEN_GSTR g), 0, 12⟩
def SEN_LCFG_EN (g j : Nat) : Field := ⟨(Reg.SEN_LCFG g j), 31, 1⟩
def SEN_LCFG_EDGE (g j : Nat) : Field := ⟨(Reg.SEN_LCFG g j), 28, 2⟩
def SEN_LCFG_HYST (g j : Nat) : Field := ⟨(Reg.SEN_LCFG g j), 16, 6⟩
def SEN_LCFG_DEBOUNCE (g j : Nat) : Field := ⟨(Reg.SEN_LCFG g j), 0, 16⟩
def SEN_CHATCFG_CHATWIN : Field := ⟨Reg.SEN_CHATCFG, 16, 8⟩
def SEN_CHATCFG_CHATMAX : Field := ⟨Reg.SEN_CHATCFG, 8, 8⟩
def SEN_CHATCFG_CHATREL : Field := ⟨Reg.SEN_CHATCFG, 0, 8⟩
def SEN_LAT_IN_LAT : Field := ⟨Reg.SEN_LAT, 0, 16⟩
def GRD_CFG_RBACT (n : Nat) : Field := ⟨(Reg.GRD_CFG n), 8, 1⟩
def GRD_CFG_RBPOL (n : Nat) : Field := ⟨(Reg.GRD_CFG n), 6, 1⟩
def GRD_CFG_PAIRWIRE (n : Nat) : Field := ⟨(Reg.GRD_CFG n), 4, 2⟩
def GRD_CFG_ARMMODE (n : Nat) : Field := ⟨(Reg.GRD_CFG n), 1, 2⟩
def GRD_CFG_EN (n : Nat) : Field := ⟨(Reg.GRD_CFG n), 0, 1⟩
def GRD_ARMSRC_SRING (n : Nat) : Field := ⟨(Reg.GRD_ARMSRC n), 28, 4⟩
def GRD_ARMSRC_SHUB (n : Nat) : Field := ⟨(Reg.GRD_ARMSRC n), 20, 7⟩
def GRD_ARMSRC_STREAM (n : Nat) : Field := ⟨(Reg.GRD_ARMSRC n), 0, 12⟩
def GRD_ARMLINE_EN (n : Nat) : Field := ⟨(Reg.GRD_ARMLINE n), 31, 1⟩
def GRD_ARMLINE_LINE (n : Nat) : Field := ⟨(Reg.GRD_ARMLINE n), 0, 16⟩
def GRD_FIRESRC_SRING (n : Nat) : Field := ⟨(Reg.GRD_FIRESRC n), 28, 4⟩
def GRD_FIRESRC_SHUB (n : Nat) : Field := ⟨(Reg.GRD_FIRESRC n), 20, 7⟩
def GRD_FIRESRC_STREAM (n : Nat) : Field := ⟨(Reg.GRD_FIRESRC n), 0, 12⟩
def GRD_FIRELINE_EN (n : Nat) : Field := ⟨(Reg.GRD_FIRELINE n), 31, 1⟩
def GRD_FIRELINE_LINE (n : Nat) : Field := ⟨(Reg.GRD_FIRELINE n), 0, 16⟩
def GRD_TIME_MAXON (n : Nat) : Field := ⟨(Reg.GRD_TIME n), 16, 16⟩
def GRD_TIME_MINON (n : Nat) : Field := ⟨(Reg.GRD_TIME n), 0, 10⟩
def GRD_RB_RBSETTLE (n : Nat) : Field := ⟨(Reg.GRD_RB n), 0, 16⟩
def GRD_STAT_ARM (n : Nat) : Field := ⟨(Reg.GRD_STAT n), 2, 1⟩
def GRD_STAT_FIRE (n : Nat) : Field := ⟨(Reg.GRD_STAT n), 1, 1⟩
def GRD_STAT_SENSE (n : Nat) : Field := ⟨(Reg.GRD_STAT n), 0, 1⟩
def GRD_EVT_MAXON : Field := ⟨Reg.GRD_EVT, 16, 16⟩
def GRD_EVT_RBFAIL : Field := ⟨Reg.GRD_EVT, 0, 16⟩
def GRD_PAIRDIFF_DIFF : Field := ⟨Reg.GRD_PAIRDIFF, 0, 16⟩
def PB_CFG_SHARED (b : Nat) : Field := ⟨(Reg.PB_CFG b), 31, 1⟩
def PB_CFG_STBPOL (b : Nat) : Field := ⟨(Reg.PB_CFG b), 30, 1⟩
def PB_CFG_AUTOWAKE (b : Nat) : Field := ⟨(Reg.PB_CFG b), 29, 1⟩
def PB_CFG_ALONEDROP (b : Nat) : Field := ⟨(Reg.PB_CFG b), 28, 1⟩
def PB_CFG_ALONECNT (b : Nat) : Field := ⟨(Reg.PB_CFG b), 16, 8⟩
def PB_CFG_PXHD (b : Nat) : Field := ⟨(Reg.PB_CFG b), 13, 1⟩
def PB_CFG_ONESHOT (b : Nat) : Field := ⟨(Reg.PB_CFG b), 3, 1⟩
def PB_CFG_FD (b : Nat) : Field := ⟨(Reg.PB_CFG b), 1, 1⟩
def PB_CFG_EN (b : Nat) : Field := ⟨(Reg.PB_CFG b), 0, 1⟩
def PB_NBT_NSJW (b : Nat) : Field := ⟨(Reg.PB_NBT b), 24, 5⟩
def PB_NBT_NTSEG2 (b : Nat) : Field := ⟨(Reg.PB_NBT b), 16, 5⟩
def PB_NBT_NTSEG1 (b : Nat) : Field := ⟨(Reg.PB_NBT b), 8, 6⟩
def PB_NBT_NBRP (b : Nat) : Field := ⟨(Reg.PB_NBT b), 0, 5⟩
def PB_DBT_DSJW (b : Nat) : Field := ⟨(Reg.PB_DBT b), 24, 4⟩
def PB_DBT_DTSEG2 (b : Nat) : Field := ⟨(Reg.PB_DBT b), 16, 4⟩
def PB_DBT_DTSEG1 (b : Nat) : Field := ⟨(Reg.PB_DBT b), 8, 5⟩
def PB_DBT_DBRP (b : Nat) : Field := ⟨(Reg.PB_DBT b), 0, 5⟩
def PB_TDC_EN (b : Nat) : Field := ⟨(Reg.PB_TDC b), 31, 1⟩
def PB_TDC_TDCO (b : Nat) : Field := ⟨(Reg.PB_TDC b), 0, 7⟩
def PB_XCVR_TX_DLY (b : Nat) : Field := ⟨(Reg.PB_XCVR b), 16, 16⟩
def PB_XCVR_RX_DLY (b : Nat) : Field := ⟨(Reg.PB_XCVR b), 0, 16⟩
def PB_SHCFG_FOLAGE (b : Nat) : Field := ⟨(Reg.PB_SHCFG b), 0, 16⟩
def PB_WAKECFG_WAKEMODE (b : Nat) : Field := ⟨(Reg.PB_WAKECFG b), 31, 1⟩
def PB_WAKECFG_WAKEFILT (b : Nat) : Field := ⟨(Reg.PB_WAKECFG b), 0, 8⟩
def PB_EVT_CFGERR (b : Nat) : Field := ⟨(Reg.PB_EVT b), 9, 1⟩
def PB_EVT_FOLAGE (b : Nat) : Field := ⟨(Reg.PB_EVT b), 8, 1⟩
def PB_EVT_TUNREJ (b : Nat) : Field := ⟨(Reg.PB_EVT b), 7, 1⟩
def PB_EVT_WAKE (b : Nat) : Field := ⟨(Reg.PB_EVT b), 6, 1⟩
def PB_EVT_RECOVERED (b : Nat) : Field := ⟨(Reg.PB_EVT b), 5, 1⟩
def PB_EVT_TTLATE (b : Nat) : Field := ⟨(Reg.PB_EVT b), 4, 1⟩
def PB_EVT_SPOOLFULL (b : Nat) : Field := ⟨(Reg.PB_EVT b), 3, 1⟩
def PB_EVT_ALONE (b : Nat) : Field := ⟨(Reg.PB_EVT b), 2, 1⟩
def PB_EVT_PASSIVE (b : Nat) : Field := ⟨(Reg.PB_EVT b), 1, 1⟩
def PB_EVT_BUSOFF (b : Nat) : Field := ⟨(Reg.PB_EVT b), 0, 1⟩
def PB_ERRCNT_ESTATE (b : Nat) : Field := ⟨(Reg.PB_ERRCNT b), 24, 2⟩
def PB_ERRCNT_REC (b : Nat) : Field := ⟨(Reg.PB_ERRCNT b), 16, 8⟩
def PB_ERRCNT_TEC (b : Nat) : Field := ⟨(Reg.PB_ERRCNT b), 0, 9⟩
def PB_SPOOL_TLEVEL (b : Nat) : Field := ⟨(Reg.PB_SPOOL b), 8, 4⟩
def PB_SPOOL_LEVEL (b : Nat) : Field := ⟨(Reg.PB_SPOOL b), 0, 6⟩
def PB_HEAD_VALID (b : Nat) : Field := ⟨(Reg.PB_HEAD b), 31, 1⟩
def PB_HEAD_IDE (b : Nat) : Field := ⟨(Reg.PB_HEAD b), 30, 1⟩
def PB_HEAD_ID (b : Nat) : Field := ⟨(Reg.PB_HEAD b), 0, 29⟩
def PB_LASTERR_KIND (b : Nat) : Field := ⟨(Reg.PB_LASTERR b), 8, 3⟩
def PB_LASTERR_TXDIR (b : Nat) : Field := ⟨(Reg.PB_LASTERR b), 4, 1⟩
def PB_LASTERR_PHASE (b : Nat) : Field := ⟨(Reg.PB_LASTERR b), 0, 3⟩
def PB_TXDATA_DATA (b n : Nat) : Field := ⟨(Reg.PB_TXDATA b n), 0, 32⟩
def PB_TXID_IDE (b : Nat) : Field := ⟨(Reg.PB_TXID b), 31, 1⟩
def PB_TXID_ID (b : Nat) : Field := ⟨(Reg.PB_TXID b), 0, 29⟩
def PB_TXCTL_ONESHOT (b : Nat) : Field := ⟨(Reg.PB_TXCTL b), 8, 1⟩
def PB_TXCTL_FDF (b : Nat) : Field := ⟨(Reg.PB_TXCTL b), 7, 1⟩
def PB_TXCTL_BRS (b : Nat) : Field := ⟨(Reg.PB_TXCTL b), 6, 1⟩
def PB_TXCTL_RTR (b : Nat) : Field := ⟨(Reg.PB_TXCTL b), 5, 1⟩
def PB_TXCTL_DLC (b : Nat) : Field := ⟨(Reg.PB_TXCTL b), 0, 4⟩
def PB_TXAT_HI_SEC_HI (b : Nat) : Field := ⟨(Reg.PB_TXAT_HI b), 0, 16⟩
def PB_TXGO_GO (b : Nat) : Field := ⟨(Reg.PB_TXGO b), 0, 2⟩
def PB_TXSTAT_RESULT (b : Nat) : Field := ⟨(Reg.PB_TXSTAT b), 0, 3⟩
def PB_FLT_ID_IDE (b k : Nat) : Field := ⟨(Reg.PB_FLT_ID b k), 31, 1⟩
def PB_FLT_ID_ID (b k : Nat) : Field := ⟨(Reg.PB_FLT_ID b k), 0, 29⟩
def PB_FLT_MASK_IDEM (b k : Nat) : Field := ⟨(Reg.PB_FLT_MASK b k), 31, 1⟩
def PB_FLT_MASK_MASK (b k : Nat) : Field := ⟨(Reg.PB_FLT_MASK b k), 0, 29⟩
def PB_FLT_ROUTE_EN (b k : Nat) : Field := ⟨(Reg.PB_FLT_ROUTE b k), 31, 1⟩
def PB_FLT_ROUTE_ACTION (b k : Nat) : Field := ⟨(Reg.PB_FLT_ROUTE b k), 29, 2⟩
def PB_FLT_ROUTE_WAKE (b k : Nat) : Field := ⟨(Reg.PB_FLT_ROUTE b k), 28, 1⟩
def PB_FLT_ROUTE_SELF (b k : Nat) : Field := ⟨(Reg.PB_FLT_ROUTE b k), 27, 1⟩
def PB_FLT_ROUTE_VER (b k : Nat) : Field := ⟨(Reg.PB_FLT_ROUTE b k), 24, 3⟩
def PB_FLT_ROUTE_STREAM (b k : Nat) : Field := ⟨(Reg.PB_FLT_ROUTE b k), 0, 12⟩
def PB_FLT_DEST_DRING (b k : Nat) : Field := ⟨(Reg.PB_FLT_DEST b k), 28, 4⟩
def PB_FLT_DEST_DHUB (b k : Nat) : Field := ⟨(Reg.PB_FLT_DEST b k), 20, 7⟩
def PB_FLT_DEST_FARBUS (b k : Nat) : Field := ⟨(Reg.PB_FLT_DEST b k), 16, 4⟩
def PB_DEFROUTE_EN (b : Nat) : Field := ⟨(Reg.PB_DEFROUTE b), 31, 1⟩
def PB_DEFROUTE_ACTION (b : Nat) : Field := ⟨(Reg.PB_DEFROUTE b), 29, 2⟩
def PB_DEFROUTE_WAKE (b : Nat) : Field := ⟨(Reg.PB_DEFROUTE b), 28, 1⟩
def PB_DEFROUTE_SELF (b : Nat) : Field := ⟨(Reg.PB_DEFROUTE b), 27, 1⟩
def PB_DEFROUTE_VER (b : Nat) : Field := ⟨(Reg.PB_DEFROUTE b), 24, 3⟩
def PB_DEFROUTE_STREAM (b : Nat) : Field := ⟨(Reg.PB_DEFROUTE b), 0, 12⟩
def PB_DEFDEST_DRING (b : Nat) : Field := ⟨(Reg.PB_DEFDEST b), 28, 4⟩
def PB_DEFDEST_DHUB (b : Nat) : Field := ⟨(Reg.PB_DEFDEST b), 20, 7⟩
def PB_DEFDEST_FARBUS (b : Nat) : Field := ⟨(Reg.PB_DEFDEST b), 16, 4⟩
def ISL_CLKSTAT_RUN : Field := ⟨Reg.ISL_CLKSTAT, 0, 26⟩
def ISL_GRPSTAT_INRST : Field := ⟨Reg.ISL_GRPSTAT, 0, 24⟩
def ISL_GRESET_KEY : Field := ⟨Reg.ISL_GRESET, 8, 8⟩
def ISL_GRESET_GROUP : Field := ⟨Reg.ISL_GRESET, 0, 5⟩
def ISL_EVT_EVSAT : Field := ⟨Reg.ISL_EVT, 3, 1⟩
def ISL_EVT_RSTREF : Field := ⟨Reg.ISL_EVT, 2, 1⟩
def ISL_EVT_GRPDONE : Field := ⟨Reg.ISL_EVT, 1, 1⟩
def ISL_EVT_XSTOP : Field := ⟨Reg.ISL_EVT, 0, 1⟩
def ISL_XSTAT_STOPPED : Field := ⟨Reg.ISL_XSTAT, 0, 8⟩
def ISL_XLAST_FROM : Field := ⟨Reg.ISL_XLAST, 27, 5⟩
def ISL_XLAST_TO : Field := ⟨Reg.ISL_XLAST, 21, 5⟩
def ISL_XLAST_KIND : Field := ⟨Reg.ISL_XLAST, 18, 2⟩
def ISL_XLAST_SIDE : Field := ⟨Reg.ISL_XLAST, 16, 2⟩
def ISL_XLAST_INDEX : Field := ⟨Reg.ISL_XLAST, 0, 8⟩
def ISL_CNT_XSTOP_COUNT : Field := ⟨Reg.ISL_CNT_XSTOP, 0, 32⟩
def ISL_CNT_XDROP_COUNT : Field := ⟨Reg.ISL_CNT_XDROP, 0, 32⟩
def ISL_CNT_EVSAT_COUNT : Field := ⟨Reg.ISL_CNT_EVSAT, 0, 32⟩
def ISL_CNT_GRESET_COUNT : Field := ⟨Reg.ISL_CNT_GRESET, 0, 32⟩
def REAM_STATUS_BYPASS : Field := ⟨Reg.REAM_STATUS, 31, 1⟩
def REAM_STATUS_FALLBACK : Field := ⟨Reg.REAM_STATUS, 30, 1⟩
def REAM_STATUS_FMT_MAJ : Field := ⟨Reg.REAM_STATUS, 24, 4⟩
def REAM_STATUS_FMT_MIN : Field := ⟨Reg.REAM_STATUS, 20, 4⟩
def REAM_STATUS_NSHEET : Field := ⟨Reg.REAM_STATUS, 8, 8⟩
def REAM_STATUS_SLOT : Field := ⟨Reg.REAM_STATUS, 0, 2⟩
def REAM_GEN_GEN : Field := ⟨Reg.REAM_GEN, 0, 32⟩
def REAM_CHK0_CODE : Field := ⟨Reg.REAM_CHK0, 28, 4⟩
def REAM_CHK0_SHEET : Field := ⟨Reg.REAM_CHK0, 16, 8⟩
def REAM_CHK0_TYPE : Field := ⟨Reg.REAM_CHK0, 0, 16⟩
def REAM_CHK1_CODE : Field := ⟨Reg.REAM_CHK1, 28, 4⟩
def REAM_CHK1_SHEET : Field := ⟨Reg.REAM_CHK1, 16, 8⟩
def REAM_CHK1_TYPE : Field := ⟨Reg.REAM_CHK1, 0, 16⟩
def REAM_GEN0_GEN : Field := ⟨Reg.REAM_GEN0, 0, 32⟩
def REAM_GEN1_GEN : Field := ⟨Reg.REAM_GEN1, 0, 32⟩
def REAM_DIGEST_OCTETS (n : Nat) : Field := ⟨(Reg.REAM_DIGEST n), 0, 32⟩
def REAM_KAZEX_REL_KREL : Field := ⟨Reg.REAM_KAZEX_REL, 0, 32⟩
def REAM_KAZEX_LO_KMODEL : Field := ⟨Reg.REAM_KAZEX_LO, 0, 32⟩
def REAM_KAZEX_HI_KMODEL : Field := ⟨Reg.REAM_KAZEX_HI, 0, 32⟩
def REAM_NOTE_COUNT : Field := ⟨Reg.REAM_NOTE, 24, 8⟩
def REAM_NOTE_CAUSE : Field := ⟨Reg.REAM_NOTE, 20, 4⟩
def REAM_NOTE_SHEET : Field := ⟨Reg.REAM_NOTE, 12, 8⟩
def REAM_NOTE_ENTRY : Field := ⟨Reg.REAM_NOTE, 0, 12⟩
def REAM_T0_JOINMS : Field := ⟨Reg.REAM_T0, 16, 16⟩
def REAM_T0_SEALMS : Field := ⟨Reg.REAM_T0, 0, 16⟩
def REAM_T1_LOCKMS : Field := ⟨Reg.REAM_T1, 0, 16⟩
def REAM_EVT_WRFAIL : Field := ⟨Reg.REAM_EVT, 1, 1⟩
def REAM_EVT_STAGED : Field := ⟨Reg.REAM_EVT, 0, 1⟩
def REAM_WRCHK_CODE : Field := ⟨Reg.REAM_WRCHK, 28, 4⟩
def REAM_WRCHK_SLOT : Field := ⟨Reg.REAM_WRCHK, 0, 2⟩
def KEY_STATUS_NOROOT : Field := ⟨Reg.KEY_STATUS, 31, 1⟩
def KEY_STATUS_ROOTDEAD : Field := ⟨Reg.KEY_STATUS, 30, 1⟩
def KEY_STATUS_OTK : Field := ⟨Reg.KEY_STATUS, 29, 1⟩
def KEY_STATUS_HELPERB : Field := ⟨Reg.KEY_STATUS, 28, 1⟩
def KEY_STATUS_DEAD : Field := ⟨Reg.KEY_STATUS, 8, 7⟩
def KEY_STATUS_VALID : Field := ⟨Reg.KEY_STATUS, 0, 7⟩
def KEY_EVT_RSELREF : Field := ⟨Reg.KEY_EVT, 3, 1⟩
def KEY_EVT_NOKEY : Field := ⟨Reg.KEY_EVT, 2, 1⟩
def KEY_EVT_SPENT : Field := ⟨Reg.KEY_EVT, 1, 1⟩
def KEY_EVT_TAGFAIL : Field := ⟨Reg.KEY_EVT, 0, 1⟩
def KEY_AUTHCFG_TIMEAUTH : Field := ⟨Reg.KEY_AUTHCFG, 16, 1⟩
def KEY_AUTHCFG_NSCLS : Field := ⟨Reg.KEY_AUTHCFG, 8, 8⟩
def KEY_AUTHCFG_SECCLS : Field := ⟨Reg.KEY_AUTHCFG, 0, 8⟩
def KEY_OP_SLOT : Field := ⟨Reg.KEY_OP, 8, 7⟩
def KEY_OP_OP : Field := ⟨Reg.KEY_OP, 0, 2⟩
def KEY_OPSTAT_BUSY : Field := ⟨Reg.KEY_OPSTAT, 31, 1⟩
def KEY_OPSTAT_BUSYHIT : Field := ⟨Reg.KEY_OPSTAT, 30, 1⟩
def KEY_OPSTAT_SLOT : Field := ⟨Reg.KEY_OPSTAT, 8, 7⟩
def KEY_OPSTAT_RESULT : Field := ⟨Reg.KEY_OPSTAT, 0, 4⟩
def KEY_STAGE_OCTETS (n : Nat) : Field := ⟨(Reg.KEY_STAGE n), 0, 32⟩
def KEY_RSEL_NXTS_EN (n : Nat) : Field := ⟨(Reg.KEY_RSEL n), 31, 1⟩
def KEY_RSEL_NXTS (n : Nat) : Field := ⟨(Reg.KEY_RSEL n), 24, 6⟩
def KEY_RSEL_CURS_EN (n : Nat) : Field := ⟨(Reg.KEY_RSEL n), 23, 1⟩
def KEY_RSEL_CURS (n : Nat) : Field := ⟨(Reg.KEY_RSEL n), 16, 6⟩
def KEY_RSEL_NXTN_EN (n : Nat) : Field := ⟨(Reg.KEY_RSEL n), 15, 1⟩
def KEY_RSEL_NXTN (n : Nat) : Field := ⟨(Reg.KEY_RSEL n), 8, 6⟩
def KEY_RSEL_CURN_EN (n : Nat) : Field := ⟨(Reg.KEY_RSEL n), 7, 1⟩
def KEY_RSEL_CURN (n : Nat) : Field := ⟨(Reg.KEY_RSEL n), 0, 6⟩
def KEY_MEASP_OCTETS (n : Nat) : Field := ⟨(Reg.KEY_MEASP n), 0, 32⟩
def KEY_MEASR_OCTETS (n : Nat) : Field := ⟨(Reg.KEY_MEASR n), 0, 32⟩
def KEY_MEASSVN_SVN : Field := ⟨Reg.KEY_MEASSVN, 0, 7⟩
def KEY_SLOT_META_STATE (n : Nat) : Field := ⟨(Reg.KEY_SLOT_META n), 30, 2⟩
def KEY_SLOT_META_WORLD (n : Nat) : Field := ⟨(Reg.KEY_SLOT_META n), 29, 1⟩
def KEY_SLOT_META_LOADED (n : Nat) : Field := ⟨(Reg.KEY_SLOT_META n), 28, 1⟩
def KEY_SLOT_META_USE (n : Nat) : Field := ⟨(Reg.KEY_SLOT_META n), 24, 4⟩
def KEY_SLOT_META_MIX (n : Nat) : Field := ⟨(Reg.KEY_SLOT_META n), 21, 3⟩
def KEY_SLOT_META_COUNTED (n : Nat) : Field := ⟨(Reg.KEY_SLOT_META n), 20, 1⟩
def KEY_SLOT_META_PARENT (n : Nat) : Field := ⟨(Reg.KEY_SLOT_META n), 8, 7⟩
def KEY_SLOT_USES_USES (n : Nat) : Field := ⟨(Reg.KEY_SLOT_USES n), 0, 32⟩
def FLT_STATUS_GRAVE : Field := ⟨Reg.FLT_STATUS, 31, 1⟩
def FLT_STATUS_TESTMODE : Field := ⟨Reg.FLT_STATUS, 30, 1⟩
def FLT_STATUS_GRAVESRC : Field := ⟨Reg.FLT_STATUS, 16, 7⟩
def FLT_STATUS_ANYPEND : Field := ⟨Reg.FLT_STATUS, 3, 1⟩
def FLT_STATUS_TOP : Field := ⟨Reg.FLT_STATUS, 0, 3⟩
def FLT_EVT_STDONE : Field := ⟨Reg.FLT_EVT, 2, 1⟩
def FLT_EVT_REARMREF : Field := ⟨Reg.FLT_EVT, 1, 1⟩
def FLT_EVT_RECLOST : Field := ⟨Reg.FLT_EVT, 0, 1⟩
def FLT_CLASSCFG_MASK (n : Nat) : Field := ⟨(Reg.FLT_CLASSCFG n), 0, 5⟩
def FLT_ALIVE_REARM : Field := ⟨Reg.FLT_ALIVE, 31, 1⟩
def FLT_ALIVE_RUNNING : Field := ⟨Reg.FLT_ALIVE, 30, 1⟩
def FLT_ALIVE_LEVEL : Field := ⟨Reg.FLT_ALIVE, 29, 1⟩
def FLT_ALIVE_CSRC : Field := ⟨Reg.FLT_ALIVE, 16, 7⟩
def FLT_ALIVE_CAUSE : Field := ⟨Reg.FLT_ALIVE, 0, 3⟩
def FLT_ERRN_HOLD : Field := ⟨Reg.FLT_ERRN, 31, 1⟩
def FLT_ERRN_LOW : Field := ⟨Reg.FLT_ERRN, 30, 1⟩
def FLT_ERRN_ERRMIN : Field := ⟨Reg.FLT_ERRN, 8, 8⟩
def FLT_PEND_PEND (n : Nat) : Field := ⟨(Reg.FLT_PEND n), 0, 32⟩
def FLT_RECPOP_VALID : Field := ⟨Reg.FLT_RECPOP, 31, 1⟩
def FLT_RECPOP_INJ : Field := ⟨Reg.FLT_RECPOP, 30, 1⟩
def FLT_RECPOP_LOST : Field := ⟨Reg.FLT_RECPOP, 26, 4⟩
def FLT_RECPOP_SRC : Field := ⟨Reg.FLT_RECPOP, 19, 7⟩
def FLT_RECPOP_CLASS : Field := ⟨Reg.FLT_RECPOP, 16, 3⟩
def FLT_RECPOP_COUNT : Field := ⟨Reg.FLT_RECPOP, 0, 16⟩
def FLT_RECDET_VALUE (n : Nat) : Field := ⟨(Reg.FLT_RECDET n), 0, 32⟩
def FLT_RECFIRST_NS_VALUE : Field := ⟨Reg.FLT_RECFIRST_NS, 0, 32⟩
def FLT_RECFIRST_SEC_VALUE : Field := ⟨Reg.FLT_RECFIRST_SEC, 0, 32⟩
def FLT_RECLAST_NS_VALUE : Field := ⟨Reg.FLT_RECLAST_NS, 0, 32⟩
def FLT_RECLAST_SEC_VALUE : Field := ⟨Reg.FLT_RECLAST_SEC, 0, 32⟩
def FLT_STCFG_STPERIOD : Field := ⟨Reg.FLT_STCFG, 16, 16⟩
def FLT_STCFG_STDEFER : Field := ⟨Reg.FLT_STCFG, 0, 16⟩
def FLT_STREQ_GO : Field := ⟨Reg.FLT_STREQ, 31, 1⟩
def FLT_STREQ_TEST : Field := ⟨Reg.FLT_STREQ, 24, 4⟩
def FLT_STREQ_UNIT : Field := ⟨Reg.FLT_STREQ, 0, 16⟩
def FLT_STRES_RESULT : Field := ⟨Reg.FLT_STRES, 28, 4⟩
def FLT_STRES_BUSYHIT : Field := ⟨Reg.FLT_STRES, 27, 1⟩
def FLT_STRES_TEST : Field := ⟨Reg.FLT_STRES, 20, 4⟩
def FLT_STRES_UNIT : Field := ⟨Reg.FLT_STRES, 0, 16⟩
def FLT_HEALTH_RETIRED : Field := ⟨Reg.FLT_HEALTH, 16, 9⟩
def FLT_HEALTH_FAILED : Field := ⟨Reg.FLT_HEALTH, 0, 11⟩
def FLT_INJ_GO : Field := ⟨Reg.FLT_INJ, 31, 1⟩
def FLT_INJ_SRC : Field := ⟨Reg.FLT_INJ, 16, 7⟩
def FLT_INJ_COUNT : Field := ⟨Reg.FLT_INJ, 0, 16⟩
def FLT_HTEST_PASSES (n : Nat) : Field := ⟨(Reg.FLT_HTEST n), 16, 16⟩
def FLT_HTEST_FAILS (n : Nat) : Field := ⟨(Reg.FLT_HTEST n), 8, 8⟩
def FLT_SRC_CFG_C0P (n : Nat) : Field := ⟨(Reg.FLT_SRC_CFG n), 31, 1⟩
def FLT_SRC_CFG_N (n : Nat) : Field := ⟨(Reg.FLT_SRC_CFG n), 16, 8⟩
def FLT_SRC_CFG_CEIL (n : Nat) : Field := ⟨(Reg.FLT_SRC_CFG n), 12, 3⟩
def FLT_SRC_CFG_BASE (n : Nat) : Field := ⟨(Reg.FLT_SRC_CFG n), 8, 3⟩
def FLT_SRC_CFG_REACT (n : Nat) : Field := ⟨(Reg.FLT_SRC_CFG n), 0, 5⟩
def FLT_SRC_WIN_W (n : Nat) : Field := ⟨(Reg.FLT_SRC_WIN n), 0, 16⟩
def FLT_SRC_STAT_WCOUNT (n : Nat) : Field := ⟨(Reg.FLT_SRC_STAT n), 8, 8⟩
def FLT_SRC_STAT_CUR (n : Nat) : Field := ⟨(Reg.FLT_SRC_STAT n), 0, 3⟩
def FLT_SRC_CNT_COUNT (n : Nat) : Field := ⟨(Reg.FLT_SRC_CNT n), 0, 32⟩
def LOG_CFG_FLUSH : Field := ⟨Reg.LOG_CFG, 0, 12⟩
def LOG_STATUS_BUSY : Field := ⟨Reg.LOG_STATUS, 31, 1⟩
def LOG_STATUS_UNCLEAN : Field := ⟨Reg.LOG_STATUS, 30, 1⟩
def LOG_STATUS_FMT_MAJ : Field := ⟨Reg.LOG_STATUS, 24, 4⟩
def LOG_STATUS_FMT_MIN : Field := ⟨Reg.LOG_STATUS, 20, 4⟩
def LOG_STATUS_ACTIVE : Field := ⟨Reg.LOG_STATUS, 16, 1⟩
def LOG_STATUS_YEARS : Field := ⟨Reg.LOG_STATUS, 8, 8⟩
def LOG_EVT_WEAR : Field := ⟨Reg.LOG_EVT, 4, 1⟩
def LOG_EVT_ROLLUP : Field := ⟨Reg.LOG_EVT, 3, 1⟩
def LOG_EVT_WRFAIL : Field := ⟨Reg.LOG_EVT, 2, 1⟩
def LOG_EVT_MERGED : Field := ⟨Reg.LOG_EVT, 1, 1⟩
def LOG_EVT_FLUSHED : Field := ⟨Reg.LOG_EVT, 0, 1⟩
def LOG_CTL_FLUSH : Field := ⟨Reg.LOG_CTL, 0, 1⟩
def LOG_GEN_LO_GEN : Field := ⟨Reg.LOG_GEN_LO, 0, 32⟩
def LOG_GEN_HI_GEN : Field := ⟨Reg.LOG_GEN_HI, 0, 32⟩
def LOG_AGE_AGE : Field := ⟨Reg.LOG_AGE, 0, 32⟩
def LOG_JSEQ_SEQ : Field := ⟨Reg.LOG_JSEQ, 0, 32⟩
def UPD_STATUS_RECOVERY : Field := ⟨Reg.UPD_STATUS, 31, 1⟩
def UPD_STATUS_FROMSTAGE : Field := ⟨Reg.UPD_STATUS, 30, 1⟩
def UPD_STATUS_STATE : Field := ⟨Reg.UPD_STATUS, 0, 3⟩
def UPD_EVT_SVNUP : Field := ⟨Reg.UPD_EVT, 4, 1⟩
def UPD_EVT_FELLBACK : Field := ⟨Reg.UPD_EVT, 3, 1⟩
def UPD_EVT_CONFIRMED : Field := ⟨Reg.UPD_EVT, 2, 1⟩
def UPD_EVT_TRIAL : Field := ⟨Reg.UPD_EVT, 1, 1⟩
def UPD_EVT_STAGED : Field := ⟨Reg.UPD_EVT, 0, 1⟩
def UPD_CFG_WINDOW : Field := ⟨Reg.UPD_CFG, 0, 11⟩
def UPD_CTL_KEY : Field := ⟨Reg.UPD_CTL, 8, 8⟩
def UPD_CTL_ABORT : Field := ⟨Reg.UPD_CTL, 1, 1⟩
def UPD_CTL_CONFIRM : Field := ⟨Reg.UPD_CTL, 0, 1⟩
def UPD_PROGRESS_TOTAL : Field := ⟨Reg.UPD_PROGRESS, 16, 14⟩
def UPD_PROGRESS_PRESENT : Field := ⟨Reg.UPD_PROGRESS, 0, 14⟩
def UPD_SESSID_LO_ID : Field := ⟨Reg.UPD_SESSID_LO, 0, 32⟩
def UPD_SESSID_HI_ID : Field := ⟨Reg.UPD_SESSID_HI, 0, 32⟩
def UPD_RUNREL_MAJ : Field := ⟨Reg.UPD_RUNREL, 24, 8⟩
def UPD_RUNREL_MIN : Field := ⟨Reg.UPD_RUNREL, 16, 8⟩
def UPD_RUNREL_PATCH : Field := ⟨Reg.UPD_RUNREL, 0, 16⟩
def UPD_STAGEREL_MAJ : Field := ⟨Reg.UPD_STAGEREL, 24, 8⟩
def UPD_STAGEREL_MIN : Field := ⟨Reg.UPD_STAGEREL, 16, 8⟩
def UPD_STAGEREL_PATCH : Field := ⟨Reg.UPD_STAGEREL, 0, 16⟩
def UPD_SVN_STAGESVN : Field := ⟨Reg.UPD_SVN, 16, 7⟩
def UPD_SVN_RUNSVN : Field := ⟨Reg.UPD_SVN, 8, 7⟩
def UPD_SVN_FUSED : Field := ⟨Reg.UPD_SVN, 0, 7⟩
def UPD_TRIAL_SECONDS : Field := ⟨Reg.UPD_TRIAL, 0, 17⟩
def UPD_RESULT_RESULT : Field := ⟨Reg.UPD_RESULT, 0, 4⟩
def PWR_CFG_FTRIP : Field := ⟨Reg.PWR_CFG, 24, 8⟩
def PWR_CFG_RETRYMAX : Field := ⟨Reg.PWR_CFG, 16, 8⟩
def PWR_CFG_TFLT : Field := ⟨Reg.PWR_CFG, 12, 4⟩
def PWR_CFG_INSDLY : Field := ⟨Reg.PWR_CFG, 0, 12⟩
def PWR_WIN_OV_R : Field := ⟨Reg.PWR_WIN, 16, 10⟩
def PWR_WIN_UV_R : Field := ⟨Reg.PWR_WIN, 0, 10⟩
def PWR_LIM_PLIM_R : Field := ⟨Reg.PWR_LIM, 16, 9⟩
def PWR_LIM_VLIM_R : Field := ⟨Reg.PWR_LIM, 0, 7⟩
def PWR_PIN0_OV_P : Field := ⟨Reg.PWR_PIN0, 16, 10⟩
def PWR_PIN0_UV_P : Field := ⟨Reg.PWR_PIN0, 0, 10⟩
def PWR_PIN1_PINERR : Field := ⟨Reg.PWR_PIN1, 31, 1⟩
def PWR_PIN1_PLIM_P : Field := ⟨Reg.PWR_PIN1, 16, 9⟩
def PWR_PIN1_VLIM_P : Field := ⟨Reg.PWR_PIN1, 0, 7⟩
def PWR_FETM0_RTH2 : Field := ⟨Reg.PWR_FETM0, 16, 16⟩
def PWR_FETM0_RTH1 : Field := ⟨Reg.PWR_FETM0, 0, 16⟩
def PWR_FETM1_TAU2 : Field := ⟨Reg.PWR_FETM1, 16, 16⟩
def PWR_FETM1_TAU1 : Field := ⟨Reg.PWR_FETM1, 0, 16⟩
def PWR_FETM2_RSNS : Field := ⟨Reg.PWR_FETM2, 24, 8⟩
def PWR_FETM2_TMAX : Field := ⟨Reg.PWR_FETM2, 16, 8⟩
def PWR_FETM2_TRESTART : Field := ⟨Reg.PWR_FETM2, 8, 8⟩
def PWR_FETM2_TAMB : Field := ⟨Reg.PWR_FETM2, 0, 8⟩
def PWR_NTC_BETA : Field := ⟨Reg.PWR_NTC, 16, 16⟩
def PWR_NTC_N25 : Field := ⟨Reg.PWR_NTC, 0, 16⟩
def PWR_STATUS_EGOOD : Field := ⟨Reg.PWR_STATUS, 31, 1⟩
def PWR_STATUS_REG : Field := ⟨Reg.PWR_STATUS, 30, 1⟩
def PWR_STATUS_NTC : Field := ⟨Reg.PWR_STATUS, 29, 1⟩
def PWR_STATUS_FEED : Field := ⟨Reg.PWR_STATUS, 24, 4⟩
def PWR_STATUS_RETRIES : Field := ⟨Reg.PWR_STATUS, 8, 8⟩
def PWR_STATUS_STATE : Field := ⟨Reg.PWR_STATUS, 0, 3⟩
def PWR_EVT_LATCH : Field := ⟨Reg.PWR_EVT, 6, 1⟩
def PWR_EVT_FOLDSAT : Field := ⟨Reg.PWR_EVT, 5, 1⟩
def PWR_EVT_UVOV : Field := ⟨Reg.PWR_EVT, 4, 1⟩
def PWR_EVT_FEED : Field := ⟨Reg.PWR_EVT, 3, 1⟩
def PWR_EVT_FETTEMP : Field := ⟨Reg.PWR_EVT, 2, 1⟩
def PWR_EVT_TIMER : Field := ⟨Reg.PWR_EVT, 1, 1⟩
def PWR_EVT_FTRIP : Field := ⟨Reg.PWR_EVT, 0, 1⟩
def PWR_CTL_KEY : Field := ⟨Reg.PWR_CTL, 8, 8⟩
def PWR_CTL_REARM : Field := ⟨Reg.PWR_CTL, 0, 1⟩
def PWR_MEAS0_FB : Field := ⟨Reg.PWR_MEAS0, 16, 16⟩
def PWR_MEAS0_FA : Field := ⟨Reg.PWR_MEAS0, 0, 16⟩
def PWR_MEAS1_VOUT : Field := ⟨Reg.PWR_MEAS1, 16, 16⟩
def PWR_MEAS1_VBUS : Field := ⟨Reg.PWR_MEAS1, 0, 16⟩
def PWR_MEAS2_TJ : Field := ⟨Reg.PWR_MEAS2, 16, 16⟩
def PWR_MEAS2_VSNS : Field := ⟨Reg.PWR_MEAS2, 0, 16⟩
def PWR_LAST_CAUSE : Field := ⟨Reg.PWR_LAST, 28, 4⟩
def PWR_LAST_PEAK : Field := ⟨Reg.PWR_LAST, 0, 16⟩
def PWR_COOL_OFFMS : Field := ⟨Reg.PWR_COOL, 0, 32⟩
def PWR_SUPCFG_CLRHOLD : Field := ⟨Reg.PWR_SUPCFG, 8, 8⟩
def PWR_SUPCFG_EGRST : Field := ⟨Reg.PWR_SUPCFG, 0, 4⟩
def PWR_SUPSTAT_PGOOD : Field := ⟨Reg.PWR_SUPSTAT, 31, 1⟩
def PWR_SUPSTAT_SUPWARN : Field := ⟨Reg.PWR_SUPSTAT, 30, 1⟩
def PWR_SUPSTAT_DEFER : Field := ⟨Reg.PWR_SUPSTAT, 29, 1⟩
def PWR_SUPSTAT_HALTED : Field := ⟨Reg.PWR_SUPSTAT, 28, 1⟩
def PWR_SUPSTAT_ATTEMPT : Field := ⟨Reg.PWR_SUPSTAT, 24, 2⟩
def PWR_SUPSTAT_OVER : Field := ⟨Reg.PWR_SUPSTAT, 16, 5⟩
def PWR_SUPSTAT_WARN : Field := ⟨Reg.PWR_SUPSTAT, 0, 5⟩
def PWR_SUPEVT_SEQFAIL : Field := ⟨Reg.PWR_SUPEVT, 3, 1⟩
def PWR_SUPEVT_RAILRST : Field := ⟨Reg.PWR_SUPEVT, 2, 1⟩
def PWR_SUPEVT_RECOVER : Field := ⟨Reg.PWR_SUPEVT, 1, 1⟩
def PWR_SUPEVT_WARN : Field := ⟨Reg.PWR_SUPEVT, 0, 1⟩
def PWR_RSTCAUSE_OV : Field := ⟨Reg.PWR_RSTCAUSE, 31, 1⟩
def PWR_RSTCAUSE_RAIL : Field := ⟨Reg.PWR_RSTCAUSE, 4, 3⟩
def PWR_RSTCAUSE_KIND : Field := ⟨Reg.PWR_RSTCAUSE, 0, 3⟩
def PWR_RSTCTL_KEY : Field := ⟨Reg.PWR_RSTCTL, 8, 8⟩
def PWR_RSTCTL_ORDERLY : Field := ⟨Reg.PWR_RSTCTL, 0, 1⟩
def PWR_WARNLAST_US : Field := ⟨Reg.PWR_WARNLAST, 0, 32⟩
def PWR_RAIL0_VDDS : Field := ⟨Reg.PWR_RAIL0, 16, 16⟩
def PWR_RAIL0_VDD : Field := ⟨Reg.PWR_RAIL0, 0, 16⟩
def PWR_RAIL1_VIO33 : Field := ⟨Reg.PWR_RAIL1, 16, 16⟩
def PWR_RAIL1_VDDSH : Field := ⟨Reg.PWR_RAIL1, 0, 16⟩
def PWR_RAIL2_VAON33 : Field := ⟨Reg.PWR_RAIL2, 16, 16⟩
def PWR_RAIL2_VDDAON : Field := ⟨Reg.PWR_RAIL2, 0, 16⟩
def PWR_CNT_WARN_COUNT : Field := ⟨Reg.PWR_CNT_WARN, 0, 32⟩
def PWR_CNT_RECOVER_COUNT : Field := ⟨Reg.PWR_CNT_RECOVER, 0, 32⟩
def PWR_CNT_RAILRST_COUNT : Field := ⟨Reg.PWR_CNT_RAILRST, 0, 32⟩
def SVC_CFG_SECURE : Field := ⟨Reg.SVC_CFG, 31, 1⟩
def SVC_CFG_TRYSNK : Field := ⟨Reg.SVC_CFG, 30, 1⟩
def SVC_CFG_SRCOK : Field := ⟨Reg.SVC_CFG, 29, 1⟩
def SVC_CFG_SNKOK : Field := ⟨Reg.SVC_CFG, 28, 1⟩
def SVC_CFG_WAITMODE : Field := ⟨Reg.SVC_CFG, 24, 1⟩
def SVC_CFG_WAITMAX : Field := ⟨Reg.SVC_CFG, 16, 8⟩
def SVC_SNKCFG_VMAX : Field := ⟨Reg.SVC_SNKCFG, 16, 5⟩
def SVC_SNKCFG_IOP : Field := ⟨Reg.SVC_SNKCFG, 0, 10⟩
def SVC_STATUS_ATTACHED : Field := ⟨Reg.SVC_STATUS, 31, 1⟩
def SVC_STATUS_DEADBAT : Field := ⟨Reg.SVC_STATUS, 30, 1⟩
def SVC_STATUS_PLOIA : Field := ⟨Reg.SVC_STATUS, 29, 1⟩
def SVC_STATUS_CONTRACT : Field := ⟨Reg.SVC_STATUS, 28, 1⟩
def SVC_STATUS_CCPOL : Field := ⟨Reg.SVC_STATUS, 27, 1⟩
def SVC_STATUS_ROLE : Field := ⟨Reg.SVC_STATUS, 24, 2⟩
def SVC_STATUS_RPLVL : Field := ⟨Reg.SVC_STATUS, 20, 2⟩
def SVC_STATUS_PESTATE : Field := ⟨Reg.SVC_STATUS, 0, 4⟩
def SVC_EVT_OVRBAD : Field := ⟨Reg.SVC_EVT, 9, 1⟩
def SVC_EVT_SRCOCP : Field := ⟨Reg.SVC_EVT, 8, 1⟩
def SVC_EVT_VBUSOV : Field := ⟨Reg.SVC_EVT, 7, 1⟩
def SVC_EVT_WAITGIVEUP : Field := ⟨Reg.SVC_EVT, 6, 1⟩
def SVC_EVT_ERRREC : Field := ⟨Reg.SVC_EVT, 5, 1⟩
def SVC_EVT_HARDRST : Field := ⟨Reg.SVC_EVT, 4, 1⟩
def SVC_EVT_SOFTRST : Field := ⟨Reg.SVC_EVT, 3, 1⟩
def SVC_EVT_DETXN : Field := ⟨Reg.SVC_EVT, 2, 1⟩
def SVC_EVT_DETACH : Field := ⟨Reg.SVC_EVT, 1, 1⟩
def SVC_EVT_ATTACH : Field := ⟨Reg.SVC_EVT, 0, 1⟩
def SVC_CONTRACT_VOLT : Field := ⟨Reg.SVC_CONTRACT, 16, 10⟩
def SVC_CONTRACT_CURR : Field := ⟨Reg.SVC_CONTRACT, 0, 10⟩
def SVC_OVRREQ_EN : Field := ⟨Reg.SVC_OVRREQ, 31, 1⟩
def SVC_OVRREQ_PDO : Field := ⟨Reg.SVC_OVRREQ, 16, 3⟩
def SVC_OVRREQ_CURR : Field := ⟨Reg.SVC_OVRREQ, 0, 10⟩
def SVC_OVR_KEY : Field := ⟨Reg.SVC_OVR, 8, 8⟩
def SVC_OVR_CMD : Field := ⟨Reg.SVC_OVR, 0, 2⟩
def SVC_SRCCAP_PDO (n : Nat) : Field := ⟨(Reg.SVC_SRCCAP n), 0, 32⟩
/-- XB_RTE: the route of destination ring r, bits 2r + 1 to 2r (Table 07.13). -/
def XB_RTE_RT (r : Nat) : Field := ⟨Reg.XB_RTE, 2 * r, 2⟩
/-- BRD_LINEOWN: whether line n of cluster c has an owner (Table 08.10). -/
def BRD_LINEOWN_EN (c n : Nat) : Field := ⟨Reg.BRD_LINEOWN c (n / 8), 4 * (n % 8) + 3, 1⟩
/-- BRD_LINEOWN: the engine that owns line n of cluster c (Table 08.10). -/
def BRD_LINEOWN_ENG (c n : Nat) : Field := ⟨Reg.BRD_LINEOWN c (n / 8), 4 * (n % 8), 3⟩
/-- BRD_EDGECFG: the edges of line n of cluster c that make events (Table 08.10). -/
def BRD_EDGECFG_SEL (c n : Nat) : Field := ⟨Reg.BRD_EDGECFG c (n / 16), 2 * (n % 16), 2⟩

end Fld

/-- One row of a page table: the address of its first register, the strides and counts by which it repeats (an
unused repeat has count 1), its reset value, and the bits whose access code is RW, RWS, RW1C, WO and RC (the others
are RO or reserved). -/
structure RegRow where
  base : Nat
  n1 : Nat
  s1 : Nat
  n2 : Nat
  s2 : Nat
  n3 : Nat
  s3 : Nat
  reset : Nat
  rw : Nat
  rws : Nat
  w1c : Nat
  wo : Nat
  rc : Nat
deriving DecidableEq, Repr

/-- Page CHIP: base, repeats (count, stride) three times, reset, RW, RWS, RW1C, WO, RC. -/
def chipRows : List RegRow := [
  ⟨0x0, 1, 0x4, 1, 0x4, 1, 0x4, 0x2640564A, 0x0, 0x0, 0x0, 0x0, 0x0⟩,  -- CHIP_ID
  ⟨0x4, 1, 0x4, 1, 0x4, 1, 0x4, 0xB1, 0x0, 0x0, 0x0, 0x0, 0x0⟩,  -- CHIP_REV
  ⟨0x8, 1, 0x4, 1, 0x4, 1, 0x4, 0x0, 0x0, 0x0, 0x0, 0x0, 0x0⟩,  -- CHIP_SERIAL_LO
  ⟨0xC, 1, 0x4, 1, 0x4, 1, 0x4, 0x0, 0x0, 0x0, 0x0, 0x0, 0x0⟩,  -- CHIP_SERIAL_HI
  ⟨0x10, 1, 0x4, 1, 0x4, 1, 0x4, 0x0, 0x0, 0x0, 0x0, 0x0, 0x0⟩,  -- CHIP_STRAP
  ⟨0x14, 1, 0x4, 1, 0x4, 1, 0x4, 0x0, 0x0, 0x0, 0x0, 0x0, 0x0⟩,  -- CHIP_SEAL
  ⟨0x18, 1, 0x4, 1, 0x4, 1, 0x4, 0x0, 0x0, 0x0, 0x0, 0x0, 0x0⟩,  -- CHIP_CALLER
  ⟨0x20, 8, 0x4, 1, 0x4, 1, 0x4, 0xFFFFFFFF, 0x0, 0xFFFFFFFF, 0x0, 0x0, 0x0⟩,  -- CHIP_PAGEWLD
  ⟨0x40, 1, 0x4, 1, 0x4, 1, 0x4, 0xFFFFFFFF, 0x0, 0xFFFFFFFF, 0x0, 0x0, 0x0⟩,  -- CHIP_WINWLD
  ⟨0x44, 1, 0x4, 1, 0x4, 1, 0x4, 0x3FFFFF, 0x0, 0x1FFBFF, 0x0, 0x0, 0x0⟩,  -- CHIP_PORTWLD
  ⟨0x48, 1, 0x4, 1, 0x4, 1, 0x4, 0x3, 0x0, 0x2, 0x0, 0x0, 0x0⟩]  -- CHIP_MISCWLD

/-- Page TIME: base, repeats (count, stride) three times, reset, RW, RWS, RW1C, WO, RC. -/
def timeRows : List RegRow := [
  ⟨0x10000, 1, 0x4, 1, 0x4, 1, 0x4, 0x0, 0x0, 0x0, 0x0, 0x0, 0x0⟩,  -- TIME_NOW_NS
  ⟨0x10004, 1, 0x4, 1, 0x4, 1, 0x4, 0x0, 0x0, 0x0, 0x0, 0x0, 0x0⟩,  -- TIME_NOW_SEC
  ⟨0x10008, 1, 0x4, 1, 0x4, 1, 0x4, 0x0, 0x0, 0x0, 0x0, 0x0, 0x0⟩,  -- TIME_NOW_HI
  ⟨0x10010, 1, 0x4, 1, 0x4, 1, 0x4, 0x0, 0xFFFFFFFF, 0x0, 0x0, 0x0, 0x0⟩,  -- TIME_INC_LO
  ⟨0x10014, 1, 0x4, 1, 0x4, 1, 0x4, 0x280, 0xFFFF, 0x0, 0x0, 0x0, 0x0⟩,  -- TIME_INC_HI
  ⟨0x10018, 1, 0x4, 1, 0x4, 1, 0x4, 0xDF3B645A, 0x0, 0xFFFFFFFF, 0x0, 0x0, 0x0⟩,  -- TIME_INC_MIN_LO
  ⟨0x1001C, 1, 0x4, 1, 0x4, 1, 0x4, 0x27F, 0x0, 0xFFFF, 0x0, 0x0, 0x0⟩,  -- TIME_INC_MIN_HI
  ⟨0x10020, 1, 0x4, 1, 0x4, 1, 0x4, 0x20C49BA6, 0x0, 0xFFFFFFFF, 0x0, 0x0, 0x0⟩,  -- TIME_INC_MAX_LO
  ⟨0x10024, 1, 0x4, 1, 0x4, 1, 0x4, 0x280, 0x0, 0xFFFF, 0x0, 0x0, 0x0⟩,  -- TIME_INC_MAX_HI
  ⟨0x10028, 1, 0x4, 1, 0x4, 1, 0x4, 0x0, 0xFFFFFFFF, 0x0, 0x0, 0x0, 0x0⟩,  -- TIME_STEP_SEC
  ⟨0x1002C, 1, 0x4, 1, 0x4, 1, 0x4, 0x0, 0xFFFFFFFF, 0x0, 0x0, 0x0, 0x0⟩,  -- TIME_STEP_NS
  ⟨0x10030, 1, 0x4, 1, 0x4, 1, 0x4, 0x0, 0xFFFF, 0x0, 0x0, 0x80000000, 0x0⟩,  -- TIME_STEP_CTL
  ⟨0x10034, 1, 0x4, 1, 0x4, 1, 0x4, 0x103E8, 0x0, 0x83FF3FFF, 0x0, 0x0, 0x0⟩,  -- TIME_LOCK_CTL
  ⟨0x10038, 1, 0x4, 1, 0x4, 1, 0x4, 0x0, 0xFFFFFFFF, 0x0, 0x0, 0x0, 0x0⟩,  -- TIME_OFFSET
  ⟨0x1003C, 1, 0x4, 1, 0x4, 1, 0x4, 0x0, 0x0, 0x0, 0xFF0000, 0x0, 0x0⟩,  -- TIME_STATUS
  ⟨0x10040, 8, 0x4, 1, 0x4, 1, 0x4, 0xFA00, 0xFFFFF, 0x0, 0x0, 0x0, 0x0⟩,  -- TIME_HORIZON
  ⟨0x10060, 8, 0x4, 1, 0x4, 1, 0x4, 0x3E80001, 0x0, 0x3FF03FF, 0x0, 0x0, 0x0⟩,  -- TIME_HBOUND
  ⟨0x10080, 1, 0x4, 1, 0x4, 1, 0x4, 0x0, 0xFFFFFFFF, 0x0, 0x0, 0x0, 0x0⟩,  -- TIME_HCHG_SEC
  ⟨0x10084, 1, 0x4, 1, 0x4, 1, 0x4, 0x0, 0xBFFFFFFF, 0x0, 0x0, 0x0, 0x0⟩,  -- TIME_HCHG_NS
  ⟨0x10088, 1, 0x4, 1, 0x4, 1, 0x4, 0x0, 0x0, 0x0, 0x0, 0x0, 0x0⟩,  -- TIME_HCHG_STAT
  ⟨0x100A0, 8, 0x4, 1, 0x4, 1, 0x4, 0x0, 0x0, 0x0, 0x0, 0x0, 0x0⟩,  -- TIME_LATECNT
  ⟨0x100C0, 1, 0x4, 1, 0x4, 1, 0x4, 0x0, 0x0, 0x0, 0x0, 0x0, 0x0⟩,  -- TIME_SKIPCNT
  ⟨0x100C4, 1, 0x4, 1, 0x4, 1, 0x4, 0x0, 0x0, 0x0, 0x0, 0x0, 0x0⟩,  -- TIME_FULLCNT
  ⟨0x100C8, 1, 0x4, 1, 0x4, 1, 0x4, 0x0, 0x0, 0x0, 0x0, 0x0, 0x0⟩,  -- TIME_PRECNT
  ⟨0x100D0, 1, 0x4, 1, 0x4, 1, 0x4, 0x640000, 0x0, 0x1FF000F, 0x0, 0x0, 0x0⟩,  -- TIME_PPS_CTL
  ⟨0x100D4, 1, 0x4, 1, 0x4, 1, 0x4, 0x0, 0x0, 0x0, 0x0, 0x0, 0x0⟩,  -- TIME_PPS_NS
  ⟨0x100D8, 1, 0x4, 1, 0x4, 1, 0x4, 0x0, 0x0, 0x0, 0x0, 0x0, 0x0⟩,  -- TIME_PPS_SEC
  ⟨0x100E0, 1, 0x4, 1, 0x4, 1, 0x4, 0xFF, 0x0, 0xFFF, 0x0, 0x0, 0x0⟩,  -- TIME_GM_CTL
  ⟨0x100E4, 1, 0x4, 1, 0x4, 1, 0x4, 0x0, 0x0, 0x0, 0x0, 0x0, 0x0⟩]  -- TIME_GM_STAT

/-- Page RING: base, repeats (count, stride) three times, reset, RW, RWS, RW1C, WO, RC. -/
def ringRows : List RegRow := [
  ⟨0x20000, 4, 0x4000, 1, 0x4, 1, 0x4, 0xF00, 0x0, 0xF07, 0x0, 0x0, 0x0⟩,  -- RING_CTL
  ⟨0x20004, 4, 0x4000, 1, 0x4, 1, 0x4, 0x1500006, 0x0, 0x0, 0x0, 0x0, 0x0⟩,  -- RING_STATE
  ⟨0x20008, 4, 0x4000, 1, 0x4, 1, 0x4, 0x0, 0x0, 0x0, 0x0, 0xFFFFFFFF, 0x0⟩,  -- RING_CMD
  ⟨0x2000C, 4, 0x4000, 1, 0x4, 1, 0x4, 0x1000000, 0x0, 0x0, 0x0, 0x0, 0x0⟩,  -- RING_CMDSTAT
  ⟨0x20010, 4, 0x4000, 1, 0x4, 1, 0x4, 0x0, 0x0, 0x0, 0xFF, 0x0, 0x0⟩,  -- RING_EVT
  ⟨0x20014, 4, 0x4000, 1, 0x4, 1, 0x4, 0x0, 0x0, 0x0, 0x0, 0x0, 0x0⟩,  -- RING_LINK
  ⟨0x20018, 4, 0x4000, 1, 0x4, 1, 0x4, 0x0, 0x0, 0x0, 0x0, 0x0, 0x0⟩,  -- RING_PARTNER
  ⟨0x2001C, 4, 0x4000, 1, 0x4, 1, 0x4, 0x0, 0x0, 0x0, 0x0, 0x0, 0x0⟩,  -- RING_PSERIAL_LO
  ⟨0x20020, 4, 0x4000, 1, 0x4, 1, 0x4, 0x0, 0x0, 0x0, 0x0, 0x0, 0x0⟩,  -- RING_PSERIAL_HI
  ⟨0x20030, 4, 0x4000, 1, 0x4, 1, 0x4, 0x0, 0x0, 0x0, 0x0, 0x0, 0x0⟩,  -- RING_LAT
  ⟨0x20034, 4, 0x4000, 1, 0x4, 1, 0x4, 0x0, 0x0, 0xFFFFFFFF, 0x0, 0x0, 0x0⟩,  -- RING_TRACE
  ⟨0x20038, 4, 0x4000, 1, 0x4, 1, 0x4, 0x0, 0x0, 0xFFFF, 0x0, 0x0, 0x0⟩,  -- RING_ASYM
  ⟨0x2003C, 4, 0x4000, 1, 0x4, 1, 0x4, 0x0, 0x0, 0x0, 0x0, 0x0, 0x0⟩,  -- RING_DELAY
  ⟨0x20040, 4, 0x4000, 1, 0x4, 1, 0x4, 0x3F411F00, 0x0, 0x7F7F1F1F, 0x0, 0x0, 0x0⟩,  -- RING_EQ_BND0
  ⟨0x20044, 4, 0x4000, 1, 0x4, 1, 0x4, 0x1F1F1F1F, 0x0, 0x1F1F1F1F, 0x0, 0x0, 0x0⟩,  -- RING_EQ_BND1
  ⟨0x20048, 4, 0x4000, 1, 0x4, 1, 0x4, 0x0, 0x0, 0x0, 0x0, 0x0, 0x0⟩,  -- RING_EQ_NOW0
  ⟨0x2004C, 4, 0x4000, 1, 0x4, 1, 0x4, 0x0, 0x0, 0x0, 0x0, 0x0, 0x0⟩,  -- RING_EQ_NOW1
  ⟨0x20050, 4, 0x4000, 1, 0x4, 1, 0x4, 0x0, 0x0, 0x0, 0x10000, 0x0, 0x0⟩,  -- RING_EQ_STAT
  ⟨0x20054, 4, 0x4000, 1, 0x4, 1, 0x4, 0x83000, 0x0, 0x1F3F0F, 0x0, 0x0, 0x0⟩,  -- RING_TXFIR
  ⟨0x20058, 4, 0x4000, 1, 0x4, 1, 0x4, 0x1F100F, 0x0, 0x1F3F0F, 0x0, 0x0, 0x0⟩,  -- RING_TXFIR_BND
  ⟨0x20080, 4, 0x4000, 1, 0x4, 1, 0x4, 0x0, 0x0, 0x0, 0x0, 0x0, 0xFFFFFFFF⟩,  -- RING_CNT_RXF
  ⟨0x20084, 4, 0x4000, 1, 0x4, 1, 0x4, 0x0, 0x0, 0x0, 0x0, 0x0, 0xFFFFFFFF⟩,  -- RING_CNT_TXF
  ⟨0x20088, 4, 0x4000, 1, 0x4, 1, 0x4, 0x0, 0x0, 0x0, 0x0, 0x0, 0xFFFFFFFF⟩,  -- RING_CNT_BLK
  ⟨0x2008C, 4, 0x4000, 1, 0x4, 1, 0x4, 0x0, 0x0, 0x0, 0x0, 0x0, 0xFFFFFFFF⟩,  -- RING_CNT_HCRC
  ⟨0x20090, 4, 0x4000, 1, 0x4, 1, 0x4, 0x0, 0x0, 0x0, 0x0, 0x0, 0xFFFFFFFF⟩,  -- RING_CNT_FCS
  ⟨0x20094, 4, 0x4000, 1, 0x4, 1, 0x4, 0x0, 0x0, 0x0, 0x0, 0x0, 0xFFFFFFFF⟩,  -- RING_CNT_STOMP
  ⟨0x20098, 4, 0x4000, 1, 0x4, 1, 0x4, 0x0, 0x0, 0x0, 0x0, 0x0, 0xFFFFFFFF⟩,  -- RING_CNT_DISC
  ⟨0x2009C, 4, 0x4000, 1, 0x4, 1, 0x4, 0x0, 0x0, 0x0, 0x0, 0x0, 0xFFFFFFFF⟩,  -- RING_CNT_GMAC
  ⟨0x200A0, 4, 0x4000, 1, 0x4, 1, 0x4, 0x0, 0x0, 0x0, 0x0, 0x0, 0xFFFFFFFF⟩,  -- RING_CNT_HOPS
  ⟨0x200A4, 4, 0x4000, 1, 0x4, 1, 0x4, 0x0, 0x0, 0x0, 0x0, 0x0, 0xFFFFFFFF⟩]  -- RING_CNT_DLYDISC

/-- Page MBR: base, repeats (count, stride) three times, reset, RW, RWS, RW1C, WO, RC. -/
def mbrRows : List RegRow := [
  ⟨0x30000, 1, 0x4, 1, 0x4, 1, 0x4, 0x0, 0x0, 0x7FFF37, 0x0, 0x0, 0x0⟩,  -- MBR_CFG
  ⟨0x30004, 1, 0x4, 1, 0x4, 1, 0x4, 0x0, 0x0, 0xFFFFFFFF, 0x0, 0x0, 0x0⟩,  -- MBR_BRIDGE
  ⟨0x30008, 1, 0x4, 1, 0x4, 1, 0x4, 0xA, 0x0, 0x3FF, 0x0, 0x0, 0x0⟩,  -- MBR_DDCFG
  ⟨0x3000C, 1, 0x4, 1, 0x4, 1, 0x4, 0x50200, 0x0, 0xFFFF01, 0x0, 0x0, 0x0⟩,  -- MBR_PAIRCFG
  ⟨0x30010, 1, 0x4, 1, 0x4, 1, 0x4, 0xA8, 0x0, 0xFFFF, 0x0, 0x0, 0x0⟩,  -- MBR_HOLDNUM
  ⟨0x30020, 1, 0x4, 1, 0x4, 1, 0x4, 0x0, 0x0, 0x0, 0x0, 0x0, 0x0⟩,  -- MBR_ID_A
  ⟨0x30024, 1, 0x4, 1, 0x4, 1, 0x4, 0x0, 0x0, 0x0, 0x0, 0x0, 0x0⟩,  -- MBR_ID_B
  ⟨0x30028, 1, 0x4, 1, 0x4, 1, 0x4, 0x0, 0x0, 0x0, 0x0, 0x0, 0x0⟩,  -- MBR_MGR
  ⟨0x3002C, 1, 0x4, 1, 0x4, 1, 0x4, 0x0, 0x0, 0x0, 0x0, 0x0, 0x0⟩,  -- MBR_STATUS
  ⟨0x30030, 1, 0x4, 1, 0x4, 1, 0x4, 0x0, 0x0, 0x0, 0x7F, 0x0, 0x0⟩,  -- MBR_EVT
  ⟨0x30034, 1, 0x4, 1, 0x4, 1, 0x4, 0x0, 0x0, 0x0, 0x0, 0xE000007F, 0x0⟩,  -- MBR_CTL
  ⟨0x30038, 1, 0x4, 1, 0x4, 1, 0x4, 0x0, 0x0, 0x0, 0x0, 0x0, 0x0⟩,  -- MBR_PATH
  ⟨0x3003C, 1, 0x4, 1, 0x4, 1, 0x4, 0x0, 0x0, 0x0, 0x0, 0x0, 0x0⟩,  -- MBR_PAIR
  ⟨0x30040, 4, 0x4, 1, 0x4, 1, 0x4, 0x0, 0x0, 0x0, 0x0, 0x0, 0x0⟩,  -- MBR_USED
  ⟨0x30050, 4, 0x4, 1, 0x4, 1, 0x4, 0x0, 0x0, 0x0, 0x0, 0x0, 0x0⟩,  -- MBR_RESV
  ⟨0x30080, 1, 0x4, 1, 0x4, 1, 0x4, 0x0, 0x0, 0x0, 0x0, 0x0, 0xFFFFFFFF⟩,  -- MBR_CNT_DUP
  ⟨0x30084, 1, 0x4, 1, 0x4, 1, 0x4, 0x0, 0x0, 0x0, 0x0, 0x0, 0xFFFFFFFF⟩,  -- MBR_CNT_OLD
  ⟨0x30088, 1, 0x4, 1, 0x4, 1, 0x4, 0x0, 0x0, 0x0, 0x0, 0x0, 0xFFFFFFFF⟩,  -- MBR_CNT_DDFULL
  ⟨0x3008C, 1, 0x4, 1, 0x4, 1, 0x4, 0x0, 0x0, 0x0, 0x0, 0x0, 0xFFFFFFFF⟩,  -- MBR_CNT_INCRESET
  ⟨0x30090, 1, 0x4, 1, 0x4, 1, 0x4, 0x0, 0x0, 0x0, 0x0, 0x0, 0xFFFFFFFF⟩,  -- MBR_CNT_CENBAD
  ⟨0x30094, 1, 0x4, 1, 0x4, 1, 0x4, 0x0, 0x0, 0x0, 0x0, 0x0, 0xFFFFFFFF⟩,  -- MBR_CNT_ROUND
  ⟨0x30098, 1, 0x4, 1, 0x4, 1, 0x4, 0x0, 0x0, 0x0, 0x0, 0x0, 0xFFFFFFFF⟩]  -- MBR_CNT_EARLY

/-- Page SW: base, repeats (count, stride) three times, reset, RW, RWS, RW1C, WO, RC. -/
def swRows : List RegRow := [
  ⟨0x40000, 1, 0x4, 1, 0x4, 1, 0x4, 0x2000, 0x0, 0xFFFF, 0x0, 0x0, 0x0⟩,  -- SW_VATCFG
  ⟨0x40004, 1, 0x4, 1, 0x4, 1, 0x4, 0x10000, 0x0, 0x0, 0x0, 0x0, 0x0⟩,  -- SW_VATFREE
  ⟨0x40008, 1, 0x4, 1, 0x4, 1, 0x4, 0x10000, 0x0, 0x0, 0x0, 0x0, 0x1FFFF⟩,  -- SW_VATMIN
  ⟨0x4000C, 1, 0x4, 1, 0x4, 1, 0x4, 0x0, 0x0, 0x0, 0x7F, 0x0, 0x0⟩,  -- SW_EVT
  ⟨0x40010, 1, 0x4, 1, 0x4, 1, 0x4, 0x1000100, 0x0, 0xFFFFFFFF, 0x0, 0x0, 0x0⟩,  -- SW_MIRCFG
  ⟨0x40020, 22, 0x4, 1, 0x4, 1, 0x4, 0x6411111, 0x0, 0x3FFFFFFF, 0x0, 0x0, 0x0⟩,  -- SW_OUTCFG
  ⟨0x40080, 22, 0x20, 8, 0x4, 1, 0x4, 0x100, 0x0, 0x8000FFFF, 0x0, 0x0, 0x0⟩,  -- SW_QCFG
  ⟨0x40400, 22, 0x20, 8, 0x4, 1, 0x4, 0x0, 0x8000FFFF, 0x0, 0x0, 0x0, 0x0⟩,  -- SW_TSCFG
  ⟨0x40800, 22, 0x20, 8, 0x4, 1, 0x4, 0x0, 0x0, 0x0, 0x0, 0x0, 0xFFFFFFFF⟩,  -- SW_LOST
  ⟨0x40C00, 22, 0x4, 1, 0x4, 1, 0x4, 0x0, 0x0, 0x0, 0x0, 0x0, 0xFFFFFFFF⟩,  -- SW_CNT_INOVF
  ⟨0x40D00, 1, 0x4, 1, 0x4, 1, 0x4, 0x0, 0x0, 0x0, 0x0, 0x0, 0xFFFFFFFF⟩,  -- SW_CNT_LOWER
  ⟨0x40D04, 1, 0x4, 1, 0x4, 1, 0x4, 0x0, 0x0, 0x0, 0x0, 0x0, 0xFFFFFFFF⟩,  -- SW_CNT_AUTHWD
  ⟨0x40D08, 1, 0x4, 1, 0x4, 1, 0x4, 0x0, 0x0, 0x0, 0x0, 0x0, 0xFFFFFFFF⟩,  -- SW_CNT_VATFULL
  ⟨0x40D0C, 1, 0x4, 1, 0x4, 1, 0x4, 0x0, 0x0, 0x0, 0x0, 0x0, 0xFFFFFFFF⟩,  -- SW_CNT_ECC
  ⟨0x40D10, 1, 0x4, 1, 0x4, 1, 0x4, 0x0, 0x0, 0x0, 0x0, 0x0, 0xFFFFFFFF⟩,  -- SW_CNT_WORLDQ
  ⟨0x40D14, 1, 0x4, 1, 0x4, 1, 0x4, 0x0, 0x0, 0x0, 0x0, 0x0, 0xFFFFFFFF⟩,  -- SW_CNT_TSSKIP
  ⟨0x40D18, 1, 0x4, 1, 0x4, 1, 0x4, 0x0, 0x0, 0x0, 0x0, 0x0, 0xFFFFFFFF⟩,  -- SW_CNT_TSLOST
  ⟨0x40E00, 22, 0x20, 8, 0x4, 1, 0x4, 0x0, 0x0, 0x1FFFFF, 0x0, 0x0, 0x0⟩,  -- SW_BUDGET
  ⟨0x41100, 22, 0x4, 1, 0x4, 1, 0x4, 0x0, 0x0, 0x0, 0xFF, 0x0, 0x0⟩,  -- SW_BUDSTAT
  ⟨0x42000, 9, 0x10, 1, 0x4, 1, 0x4, 0x0, 0x0, 0x0, 0x0, 0x0, 0xFFFFFFFF⟩,  -- SW_HQ_HEAD
  ⟨0x42004, 9, 0x10, 1, 0x4, 1, 0x4, 0x0, 0x0, 0x0, 0x0, 0x0, 0x0⟩,  -- SW_HQ_LVL
  ⟨0x44000, 9, 0x1000, 528, 0x4, 1, 0x4, 0x0, 0x0, 0x0, 0x0, 0x0, 0x0⟩]  -- SW_HQ_WIN

/-- Page XB: base, repeats (count, stride) three times, reset, RW, RWS, RW1C, WO, RC. -/
def xbRows : List RegRow := [
  ⟨0x50000, 1, 0x4, 1, 0x4, 1, 0x4, 0x4000064, 0x0, 0xFFF3FFF, 0x0, 0x0, 0x0⟩,  -- XB_CFG
  ⟨0x50004, 1, 0x4, 1, 0x4, 1, 0x4, 0x64, 0x0, 0x3FF, 0x0, 0x0, 0x0⟩,  -- XB_ORD
  ⟨0x50008, 1, 0x4, 1, 0x4, 1, 0x4, 0x40, 0x0, 0x3FF, 0x0, 0x0, 0x0⟩,  -- XB_TAGCFG
  ⟨0x5000C, 1, 0x4, 1, 0x4, 1, 0x4, 0x0, 0x0, 0x0, 0x0, 0x0, 0x0⟩,  -- XB_TAGUSE
  ⟨0x50010, 1, 0x4, 1, 0x4, 1, 0x4, 0xFF00FF1, 0x0, 0xFFF0FFF, 0x0, 0x0, 0x0⟩,  -- XB_STREAM
  ⟨0x50014, 1, 0x4, 1, 0x4, 1, 0x4, 0xFF2, 0x0, 0xFFF, 0x0, 0x0, 0x0⟩,  -- XB_CPLSTREAM
  ⟨0x50018, 1, 0x4, 1, 0x4, 1, 0x4, 0x0, 0x0, 0xFFFFFFFF, 0x0, 0x0, 0x0⟩,  -- XB_RTE
  ⟨0x5001C, 1, 0x4, 1, 0x4, 1, 0x4, 0x10, 0x0, 0xFF, 0x0, 0x0, 0x0⟩,  -- XB_PFCFG
  ⟨0x50020, 1, 0x4, 1, 0x4, 1, 0x4, 0x9FF, 0x0, 0xFFFF, 0x0, 0x0, 0x0⟩,  -- XB_TUNDEF
  ⟨0x50024, 1, 0x4, 1, 0x4, 1, 0x4, 0x0, 0x0, 0x0, 0xFF, 0x0, 0x0⟩,  -- XB_EVT
  ⟨0x50030, 1, 0x4, 1, 0x4, 1, 0x4, 0x0, 0x0, 0x0, 0x0, 0x0, 0xFF7F0FFF⟩,  -- XB_PFQ
  ⟨0x50034, 1, 0x4, 1, 0x4, 1, 0x4, 0x0, 0x0, 0x0, 0x0, 0x0, 0x0⟩,  -- XB_PFQ_ADDR_LO
  ⟨0x50038, 1, 0x4, 1, 0x4, 1, 0x4, 0x0, 0x0, 0x0, 0x0, 0x0, 0x0⟩,  -- XB_PFQ_ADDR_HI
  ⟨0x50040, 1, 0x4, 1, 0x4, 1, 0x4, 0x400, 0xFFFFB700, 0x0, 0x0, 0x0, 0x0⟩,  -- XB_SB_DST
  ⟨0x50044, 1, 0x4, 1, 0x4, 1, 0x4, 0x0, 0x0, 0x0, 0x0, 0xFFFFFFFF, 0x0⟩,  -- XB_SB_DATA
  ⟨0x50048, 1, 0x4, 1, 0x4, 1, 0x4, 0x0, 0x0, 0x0, 0x0, 0x0, 0xFFFFFFFF⟩,  -- XB_DOORBELL
  ⟨0x5004C, 1, 0x4, 1, 0x4, 1, 0x4, 0x0, 0x0, 0x0, 0x0, 0x0, 0x0⟩,  -- XB_DBLVL
  ⟨0x50080, 1, 0x4, 1, 0x4, 1, 0x4, 0x0, 0x0, 0x0, 0x0, 0x0, 0xFFFFFFFF⟩,  -- XB_CNT_MALF
  ⟨0x50084, 1, 0x4, 1, 0x4, 1, 0x4, 0x0, 0x0, 0x0, 0x0, 0x0, 0xFFFFFFFF⟩,  -- XB_CNT_BADCPL
  ⟨0x50088, 1, 0x4, 1, 0x4, 1, 0x4, 0x0, 0x0, 0x0, 0x0, 0x0, 0xFFFFFFFF⟩,  -- XB_CNT_BUSY
  ⟨0x5008C, 1, 0x4, 1, 0x4, 1, 0x4, 0x0, 0x0, 0x0, 0x0, 0x0, 0xFFFFFFFF⟩,  -- XB_CNT_CTO
  ⟨0x50090, 1, 0x4, 1, 0x4, 1, 0x4, 0x0, 0x0, 0x0, 0x0, 0x0, 0xFFFFFFFF⟩,  -- XB_CNT_LATECPL
  ⟨0x50094, 1, 0x4, 1, 0x4, 1, 0x4, 0x0, 0x0, 0x0, 0x0, 0x0, 0xFFFFFFFF⟩,  -- XB_CNT_REROUTE
  ⟨0x50098, 1, 0x4, 1, 0x4, 1, 0x4, 0x0, 0x0, 0x0, 0x0, 0x0, 0xFFFFFFFF⟩,  -- XB_CNT_FENCETO
  ⟨0x5009C, 1, 0x4, 1, 0x4, 1, 0x4, 0x0, 0x0, 0x0, 0x0, 0x0, 0xFFFFFFFF⟩,  -- XB_CNT_PFSUPP
  ⟨0x500A0, 1, 0x4, 1, 0x4, 1, 0x4, 0x0, 0x0, 0x0, 0x0, 0x0, 0xFFFFFFFF⟩,  -- XB_CNT_PFSTALE
  ⟨0x500A4, 1, 0x4, 1, 0x4, 1, 0x4, 0x0, 0x0, 0x0, 0x0, 0x0, 0xFFFFFFFF⟩,  -- XB_CNT_SBBAD
  ⟨0x500A8, 1, 0x4, 1, 0x4, 1, 0x4, 0x0, 0x0, 0x0, 0x0, 0x0, 0xFFFFFFFF⟩,  -- XB_CNT_DBFULL
  ⟨0x500AC, 1, 0x4, 1, 0x4, 1, 0x4, 0x0, 0x0, 0x0, 0x0, 0x0, 0xFFFFFFFF⟩,  -- XB_CNT_TUNVER
  ⟨0x500B0, 1, 0x4, 1, 0x4, 1, 0x4, 0x0, 0x0, 0x0, 0x0, 0x0, 0xFFFFFFFF⟩,  -- XB_CNT_TUNDROP
  ⟨0x500B4, 1, 0x4, 1, 0x4, 1, 0x4, 0x0, 0x0, 0x0, 0x0, 0x0, 0xFFFFFFFF⟩,  -- XB_CNT_NOROUTE
  ⟨0x500B8, 1, 0x4, 1, 0x4, 1, 0x4, 0x0, 0x0, 0x0, 0x0, 0x0, 0xFFFFFFFF⟩,  -- XB_CNT_PFSENT
  ⟨0x500BC, 1, 0x4, 1, 0x4, 1, 0x4, 0x0, 0x0, 0x0, 0x0, 0x0, 0xFFFFFFFF⟩,  -- XB_CNT_PFRECV
  ⟨0x500C0, 1, 0x4, 1, 0x4, 1, 0x4, 0x0, 0x0, 0x0, 0x0, 0x0, 0xFFFFFFFF⟩]  -- XB_CNT_GUESS

/-- Page HP: base, repeats (count, stride) three times, reset, RW, RWS, RW1C, WO, RC. -/
def hpRows : List RegRow := [
  ⟨0x60000, 1, 0x4, 1, 0x4, 1, 0x4, 0x14, 0x0, 0x3F, 0x0, 0x0, 0x0⟩,  -- HP_CTL
  ⟨0x60004, 1, 0x4, 1, 0x4, 1, 0x4, 0x1800006, 0x0, 0x0, 0x0, 0x0, 0x0⟩,  -- HP_STATE
  ⟨0x60008, 1, 0x4, 1, 0x4, 1, 0x4, 0x0, 0x0, 0x0, 0x0, 0x0, 0x0⟩,  -- HP_LINK
  ⟨0x6000C, 1, 0x4, 1, 0x4, 1, 0x4, 0x0, 0x0, 0x0, 0x7, 0x0, 0x0⟩,  -- HP_EVT
  ⟨0x60010, 1, 0x4, 1, 0x4, 1, 0x4, 0x2640FFFF, 0x0, 0xFFFFFFFF, 0x0, 0x0, 0x0⟩,  -- HP_ID0
  ⟨0x60014, 1, 0x4, 1, 0x4, 1, 0x4, 0x0, 0x0, 0xFFFFFFFF, 0x0, 0x0, 0x0⟩,  -- HP_ID1
  ⟨0x60018, 1, 0x4, 1, 0x4, 1, 0x4, 0x118000B1, 0x0, 0xFFFFFF00, 0x0, 0x0, 0x0⟩,  -- HP_ID2
  ⟨0x60080, 1, 0x4, 1, 0x4, 1, 0x4, 0x0, 0x0, 0x0, 0x0, 0x0, 0xFFFFFFFF⟩,  -- HP_CNT_NOWIN
  ⟨0x60084, 1, 0x4, 1, 0x4, 1, 0x4, 0x0, 0x0, 0x0, 0x0, 0x0, 0xFFFFFFFF⟩,  -- HP_CNT_DROPCPL
  ⟨0x60088, 1, 0x4, 1, 0x4, 1, 0x4, 0x0, 0x0, 0x0, 0x0, 0x0, 0xFFFFFFFF⟩,  -- HP_CNT_CRS
  ⟨0x6008C, 1, 0x4, 1, 0x4, 1, 0x4, 0x0, 0x0, 0x0, 0x0, 0x0, 0xFFFFFFFF⟩,  -- HP_CNT_CA
  ⟨0x60100, 32, 0x20, 1, 0x4, 1, 0x4, 0x0, 0x0, 0xE000003F, 0x0, 0x0, 0x0⟩,  -- HP_WIN_CTL
  ⟨0x60104, 32, 0x20, 1, 0x4, 1, 0x4, 0x0, 0x0, 0xFFFFFFFF, 0x0, 0x0, 0x0⟩,  -- HP_WIN_SRC_LO
  ⟨0x60108, 32, 0x20, 1, 0x4, 1, 0x4, 0x0, 0x0, 0xFFFFFFFF, 0x0, 0x0, 0x0⟩,  -- HP_WIN_SRC_HI
  ⟨0x6010C, 32, 0x20, 1, 0x4, 1, 0x4, 0x0, 0x0, 0xFFFFFFFF, 0x0, 0x0, 0x0⟩,  -- HP_WIN_DST_LO
  ⟨0x60110, 32, 0x20, 1, 0x4, 1, 0x4, 0x0, 0x0, 0xFFFFFFFF, 0x0, 0x0, 0x0⟩]  -- HP_WIN_DST_HI

/-- Page ST: base, repeats (count, stride) three times, reset, RW, RWS, RW1C, WO, RC. -/
def stRows : List RegRow := [
  ⟨0x70000, 4, 0x1000, 1, 0x4, 1, 0x4, 0x0, 0x0, 0x1F, 0x0, 0x0, 0x0⟩,  -- ST_CTL
  ⟨0x70004, 4, 0x1000, 1, 0x4, 1, 0x4, 0x1400006, 0x0, 0x0, 0x0, 0x0, 0x0⟩,  -- ST_STATE
  ⟨0x70008, 4, 0x1000, 1, 0x4, 1, 0x4, 0x0, 0x0, 0x0, 0x0, 0xFFFFFFFF, 0x0⟩,  -- ST_CMD
  ⟨0x7000C, 4, 0x1000, 1, 0x4, 1, 0x4, 0x1000000, 0x0, 0x0, 0x0, 0x0, 0x0⟩,  -- ST_CMDSTAT
  ⟨0x70010, 4, 0x1000, 1, 0x4, 1, 0x4, 0x0, 0x0, 0x0, 0x0, 0x0, 0x0⟩,  -- ST_LINK
  ⟨0x70014, 4, 0x1000, 1, 0x4, 1, 0x4, 0x0, 0x0, 0x0, 0x0, 0x0, 0x0⟩,  -- ST_LAT
  ⟨0x70018, 4, 0x1000, 1, 0x4, 1, 0x4, 0x0, 0x0, 0xFFFFFFFF, 0x0, 0x0, 0x0⟩,  -- ST_PHYLAT
  ⟨0x7001C, 4, 0x1000, 1, 0x4, 1, 0x4, 0x1000F000, 0x0, 0xFFFFFFFF, 0x0, 0x0, 0x0⟩,  -- ST_DEFAULT
  ⟨0x70020, 4, 0x1000, 1, 0x4, 1, 0x4, 0x0, 0x0, 0x0, 0x0, 0x0, 0x80F0FFFF⟩,  -- ST_TSFIFO
  ⟨0x70024, 4, 0x1000, 1, 0x4, 1, 0x4, 0x0, 0x0, 0x0, 0x0, 0x0, 0x0⟩,  -- ST_TS_NS
  ⟨0x70028, 4, 0x1000, 1, 0x4, 1, 0x4, 0x0, 0x0, 0x0, 0x0, 0x0, 0x0⟩,  -- ST_TS_SEC
  ⟨0x70100, 4, 0x1000, 16, 0x8, 1, 0x4, 0x0, 0x0, 0xEFFFFFFF, 0x0, 0x0, 0x0⟩,  -- ST_RULE_MATCH
  ⟨0x70104, 4, 0x1000, 16, 0x8, 1, 0x4, 0x1000F000, 0x0, 0xFFFFFFFF, 0x0, 0x0, 0x0⟩,  -- ST_RULE_ACT
  ⟨0x70200, 4, 0x1000, 1, 0x4, 1, 0x4, 0x0, 0x0, 0x0, 0x0, 0x0, 0xFFFFFFFF⟩,  -- ST_CNT_RXF
  ⟨0x70204, 4, 0x1000, 1, 0x4, 1, 0x4, 0x0, 0x0, 0x0, 0x0, 0x0, 0xFFFFFFFF⟩,  -- ST_CNT_TXF
  ⟨0x70208, 4, 0x1000, 1, 0x4, 1, 0x4, 0x0, 0x0, 0x0, 0x0, 0x0, 0xFFFFFFFF⟩,  -- ST_CNT_FCS
  ⟨0x7020C, 4, 0x1000, 1, 0x4, 1, 0x4, 0x0, 0x0, 0x0, 0x0, 0x0, 0xFFFFFFFF⟩,  -- ST_CNT_SHORT
  ⟨0x70210, 4, 0x1000, 1, 0x4, 1, 0x4, 0x0, 0x0, 0x0, 0x0, 0x0, 0xFFFFFFFF⟩,  -- ST_CNT_LONG
  ⟨0x70214, 4, 0x1000, 1, 0x4, 1, 0x4, 0x0, 0x0, 0x0, 0x0, 0x0, 0xFFFFFFFF⟩,  -- ST_CNT_NORULE
  ⟨0x70218, 4, 0x1000, 1, 0x4, 1, 0x4, 0x0, 0x0, 0x0, 0x0, 0x0, 0xFFFFFFFF⟩]  -- ST_CNT_TSOVF

/-- Page RING_PL: base, repeats (count, stride) three times, reset, RW, RWS, RW1C, WO, RC. -/
def ringPlRows : List RegRow := [
  ⟨0x80000, 1, 0x4, 1, 0x4, 1, 0x4, 0xF00, 0x0, 0xF07, 0x0, 0x0, 0x0⟩,  -- RING_CTL
  ⟨0x80004, 1, 0x4, 1, 0x4, 1, 0x4, 0x1500006, 0x0, 0x0, 0x0, 0x0, 0x0⟩,  -- RING_STATE
  ⟨0x80008, 1, 0x4, 1, 0x4, 1, 0x4, 0x0, 0x0, 0x0, 0x0, 0xFFFFFFFF, 0x0⟩,  -- RING_CMD
  ⟨0x8000C, 1, 0x4, 1, 0x4, 1, 0x4, 0x1000000, 0x0, 0x0, 0x0, 0x0, 0x0⟩,  -- RING_CMDSTAT
  ⟨0x80010, 1, 0x4, 1, 0x4, 1, 0x4, 0x0, 0x0, 0x0, 0xFF, 0x0, 0x0⟩,  -- RING_EVT
  ⟨0x80014, 1, 0x4, 1, 0x4, 1, 0x4, 0x0, 0x0, 0x0, 0x0, 0x0, 0x0⟩,  -- RING_LINK
  ⟨0x80018, 1, 0x4, 1, 0x4, 1, 0x4, 0x0, 0x0, 0x0, 0x0, 0x0, 0x0⟩,  -- RING_PARTNER
  ⟨0x8001C, 1, 0x4, 1, 0x4, 1, 0x4, 0x0, 0x0, 0x0, 0x0, 0x0, 0x0⟩,  -- RING_PSERIAL_LO
  ⟨0x80020, 1, 0x4, 1, 0x4, 1, 0x4, 0x0, 0x0, 0x0, 0x0, 0x0, 0x0⟩,  -- RING_PSERIAL_HI
  ⟨0x80030, 1, 0x4, 1, 0x4, 1, 0x4, 0x0, 0x0, 0x0, 0x0, 0x0, 0x0⟩,  -- RING_LAT
  ⟨0x80034, 1, 0x4, 1, 0x4, 1, 0x4, 0x0, 0x0, 0xFFFFFFFF, 0x0, 0x0, 0x0⟩,  -- RING_TRACE
  ⟨0x80038, 1, 0x4, 1, 0x4, 1, 0x4, 0x0, 0x0, 0xFFFF, 0x0, 0x0, 0x0⟩,  -- RING_ASYM
  ⟨0x8003C, 1, 0x4, 1, 0x4, 1, 0x4, 0x0, 0x0, 0x0, 0x0, 0x0, 0x0⟩,  -- RING_DELAY
  ⟨0x80040, 1, 0x4, 1, 0x4, 1, 0x4, 0x3F411F00, 0x0, 0x7F7F1F1F, 0x0, 0x0, 0x0⟩,  -- RING_EQ_BND0
  ⟨0x80044, 1, 0x4, 1, 0x4, 1, 0x4, 0x1F1F1F1F, 0x0, 0x1F1F1F1F, 0x0, 0x0, 0x0⟩,  -- RING_EQ_BND1
  ⟨0x80048, 1, 0x4, 1, 0x4, 1, 0x4, 0x0, 0x0, 0x0, 0x0, 0x0, 0x0⟩,  -- RING_EQ_NOW0
  ⟨0x8004C, 1, 0x4, 1, 0x4, 1, 0x4, 0x0, 0x0, 0x0, 0x0, 0x0, 0x0⟩,  -- RING_EQ_NOW1
  ⟨0x80050, 1, 0x4, 1, 0x4, 1, 0x4, 0x0, 0x0, 0x0, 0x10000, 0x0, 0x0⟩,  -- RING_EQ_STAT
  ⟨0x80054, 1, 0x4, 1, 0x4, 1, 0x4, 0x83000, 0x0, 0x1F3F0F, 0x0, 0x0, 0x0⟩,  -- RING_TXFIR
  ⟨0x80058, 1, 0x4, 1, 0x4, 1, 0x4, 0x1F100F, 0x0, 0x1F3F0F, 0x0, 0x0, 0x0⟩,  -- RING_TXFIR_BND
  ⟨0x80080, 1, 0x4, 1, 0x4, 1, 0x4, 0x0, 0x0, 0x0, 0x0, 0x0, 0xFFFFFFFF⟩,  -- RING_CNT_RXF
  ⟨0x80084, 1, 0x4, 1, 0x4, 1, 0x4, 0x0, 0x0, 0x0, 0x0, 0x0, 0xFFFFFFFF⟩,  -- RING_CNT_TXF
  ⟨0x80088, 1, 0x4, 1, 0x4, 1, 0x4, 0x0, 0x0, 0x0, 0x0, 0x0, 0xFFFFFFFF⟩,  -- RING_CNT_BLK
  ⟨0x8008C, 1, 0x4, 1, 0x4, 1, 0x4, 0x0, 0x0, 0x0, 0x0, 0x0, 0xFFFFFFFF⟩,  -- RING_CNT_HCRC
  ⟨0x80090, 1, 0x4, 1, 0x4, 1, 0x4, 0x0, 0x0, 0x0, 0x0, 0x0, 0xFFFFFFFF⟩,  -- RING_CNT_FCS
  ⟨0x80094, 1, 0x4, 1, 0x4, 1, 0x4, 0x0, 0x0, 0x0, 0x0, 0x0, 0xFFFFFFFF⟩,  -- RING_CNT_STOMP
  ⟨0x80098, 1, 0x4, 1, 0x4, 1, 0x4, 0x0, 0x0, 0x0, 0x0, 0x0, 0xFFFFFFFF⟩,  -- RING_CNT_DISC
  ⟨0x8009C, 1, 0x4, 1, 0x4, 1, 0x4, 0x0, 0x0, 0x0, 0x0, 0x0, 0xFFFFFFFF⟩,  -- RING_CNT_GMAC
  ⟨0x800A0, 1, 0x4, 1, 0x4, 1, 0x4, 0x0, 0x0, 0x0, 0x0, 0x0, 0xFFFFFFFF⟩,  -- RING_CNT_HOPS
  ⟨0x800A4, 1, 0x4, 1, 0x4, 1, 0x4, 0x0, 0x0, 0x0, 0x0, 0x0, 0xFFFFFFFF⟩,  -- RING_CNT_DLYDISC
  ⟨0x84000, 1, 0x4, 1, 0x4, 1, 0x4, 0x2010100, 0x0, 0x0, 0x0, 0x0, 0x0⟩,  -- RING_VERSION
  ⟨0x84004, 1, 0x4, 1, 0x4, 1, 0x4, 0x3E8000A, 0x0, 0xFFFFFFFF, 0x0, 0x0, 0x0⟩]  -- RING_ERRCFG

/-- Page BRD: base, repeats (count, stride) three times, reset, RW, RWS, RW1C, WO, RC. -/
def brdRows0 : List RegRow := [
  ⟨0x100000, 8, 0x10000, 1, 0x4, 1, 0x4, 0x0, 0x0, 0x80000131, 0x0, 0x0, 0x0⟩,  -- BRD_CCFG
  ⟨0x100004, 8, 0x10000, 1, 0x4, 1, 0x4, 0x1200006, 0x0, 0x0, 0x0, 0x0, 0x0⟩,  -- BRD_CSTATE
  ⟨0x100008, 8, 0x10000, 1, 0x4, 1, 0x4, 0x0, 0x0, 0x0, 0x0, 0xFFFFFFFF, 0x0⟩,  -- BRD_CCMD
  ⟨0x10000C, 8, 0x10000, 1, 0x4, 1, 0x4, 0x1000000, 0x0, 0x0, 0x0, 0x0, 0x0⟩,  -- BRD_CCMDSTAT
  ⟨0x100010, 8, 0x10000, 1, 0x4, 1, 0x4, 0x0, 0xFFFFFFFF, 0x0, 0x0, 0x0, 0x0⟩,  -- BRD_TMS_NS
  ⟨0x100014, 8, 0x10000, 1, 0x4, 1, 0x4, 0x0, 0xFFFFFFFF, 0x0, 0x0, 0x0, 0x0⟩,  -- BRD_TMS_SEC
  ⟨0x100018, 8, 0x10000, 1, 0x4, 1, 0x4, 0x0, 0xFFFF, 0x0, 0x0, 0x0, 0x0⟩,  -- BRD_TMS_HI
  ⟨0x100020, 8, 0x10000, 1, 0x4, 1, 0x4, 0x0, 0x0, 0x0, 0xFF, 0x0, 0x0⟩,  -- BRD_FLAGS
  ⟨0x100024, 8, 0x10000, 1, 0x4, 1, 0x4, 0x0, 0x0, 0x0, 0x0, 0xFF, 0x0⟩,  -- BRD_FLAGSET
  ⟨0x100028, 8, 0x10000, 1, 0x4, 1, 0x4, 0x0, 0x0, 0x0, 0x1FFFFFFF, 0x0, 0x0⟩,  -- BRD_EVT
  ⟨0x100030, 8, 0x10000, 4, 0x4, 1, 0x4, 0x0, 0x0, 0xFFFFFFFF, 0x0, 0x0, 0x0⟩,  -- BRD_LINEOWN
  ⟨0x100040, 8, 0x10000, 2, 0x4, 1, 0x4, 0x0, 0x0, 0xFFFFFFFF, 0x0, 0x0, 0x0⟩,  -- BRD_EDGECFG
  ⟨0x100048, 8, 0x10000, 1, 0x4, 1, 0x4, 0x0, 0x0, 0xFFFF9FFF, 0x0, 0x0, 0x0⟩,  -- BRD_EDGESTR
  ⟨0x10004C, 8, 0x10000, 1, 0x4, 1, 0x4, 0x3E8, 0x0, 0xFFFFFF, 0x0, 0x0, 0x0⟩,  -- BRD_EDGEFLT
  ⟨0x100050, 8, 0x10000, 1, 0x4, 1, 0x4, 0x0, 0x0, 0x0, 0x0, 0x0, 0x0⟩,  -- BRD_LINEIN
  ⟨0x100054, 8, 0x10000, 1, 0x4, 1, 0x4, 0x0, 0x0, 0x0, 0x0, 0x0, 0x0⟩,  -- BRD_LINEOUT
  ⟨0x100058, 8, 0x10000, 1, 0x4, 1, 0x4, 0x0, 0x0, 0x0, 0x0, 0x0, 0x0⟩,  -- BRD_LINEOE
  ⟨0x10005C, 8, 0x10000, 1, 0x4, 1, 0x4, 0x0, 0x0, 0x0, 0x0, 0x0, 0x0⟩,  -- BRD_LAT
  ⟨0x100080, 8, 0x10000, 1, 0x4, 1, 0x4, 0x0, 0x0, 0x0, 0x0, 0x0, 0xFFFFFFFF⟩,  -- BRD_CNT_EDGEEVT
  ⟨0x100084, 8, 0x10000, 1, 0x4, 1, 0x4, 0x0, 0x0, 0x0, 0x0, 0x0, 0xFFFFFFFF⟩,  -- BRD_CNT_EDGESUP
  ⟨0x100088, 8, 0x10000, 1, 0x4, 1, 0x4, 0x0, 0x0, 0x0, 0x0, 0x0, 0xFFFFFFFF⟩,  -- BRD_CNT_EDGEOVR
  ⟨0x10008C, 8, 0x10000, 1, 0x4, 1, 0x4, 0x0, 0x0, 0x0, 0x0, 0x0, 0xFFFFFFFF⟩,  -- BRD_CNT_WIREBAD
  ⟨0x100090, 8, 0x10000, 1, 0x4, 1, 0x4, 0x0, 0x0, 0x0, 0x0, 0x0, 0xFFFFFFFF⟩,  -- BRD_CNT_STARTMISS
  ⟨0x101000, 8, 0x10000, 8, 0x100, 1, 0x4, 0x3F400000, 0x3F7F7FFF, 0x0, 0x0, 0x0, 0x0⟩,  -- BRD_EWIN
  ⟨0x101004, 8, 0x10000, 8, 0x100, 1, 0x4, 0x0, 0x3FFFFFFF, 0x0, 0x0, 0x0, 0x0⟩,  -- BRD_EPINS
  ⟨0x101008, 8, 0x10000, 8, 0x100, 1, 0x4, 0x2080000, 0x3FFFFFFF, 0x0, 0x0, 0x0, 0x0⟩,  -- BRD_ESHIFT
  ⟨0x10100C, 8, 0x10000, 8, 0x100, 1, 0x4, 0x10000, 0xFFFFFF00, 0x0, 0x0, 0x0, 0x0⟩,  -- BRD_EDIV
  ⟨0x101010, 8, 0x10000, 8, 0x100, 1, 0x4, 0x0, 0xFFFFFFFF, 0x0, 0x0, 0x0, 0x0⟩,  -- BRD_ESTR
  ⟨0x101014, 8, 0x10000, 8, 0x100, 1, 0x4, 0x1100006, 0x0, 0x0, 0x0, 0x0, 0x0⟩,  -- BRD_ESTATE
  ⟨0x101018, 8, 0x10000, 8, 0x100, 1, 0x4, 0x0, 0x0, 0x0, 0x0, 0xFFFFFFFF, 0x0⟩,  -- BRD_ECMD
  ⟨0x10101C, 8, 0x10000, 8, 0x100, 1, 0x4, 0x1000000, 0x0, 0x0, 0x0, 0x0, 0x0⟩,  -- BRD_ECMDSTAT
  ⟨0x101020, 8, 0x10000, 8, 0x100, 1, 0x4, 0x0, 0x0, 0x0, 0x0, 0x0, 0x0⟩,  -- BRD_EQLVL
  ⟨0x101024, 8, 0x10000, 8, 0x100, 1, 0x4, 0x0, 0x0, 0x0, 0x0, 0xFFFFFFFF, 0x0⟩,  -- BRD_TXQ
  ⟨0x101028, 8, 0x10000, 8, 0x100, 1, 0x4, 0x0, 0x0, 0x0, 0x0, 0x0, 0xFFFFFFFF⟩,  -- BRD_RXQ
  ⟨0x10102C, 8, 0x10000, 8, 0x100, 1, 0x4, 0x0, 0x0, 0x0, 0x0, 0x0, 0x0⟩,  -- BRD_EPC
  ⟨0x101030, 8, 0x10000, 8, 0x100, 1, 0x4, 0x0, 0x0, 0x0, 0x0, 0x0, 0x0⟩,  -- BRD_EX
  ⟨0x101034, 8, 0x10000, 8, 0x100, 1, 0x4, 0x0, 0x0, 0x0, 0x0, 0x0, 0x0⟩,  -- BRD_EY
  ⟨0x101038, 8, 0x10000, 8, 0x100, 1, 0x4, 0x0, 0x0, 0x0, 0x0, 0x0, 0xFFFFFFFF⟩,  -- BRD_CNT_RXLOST
  ⟨0x10103C, 8, 0x10000, 8, 0x100, 1, 0x4, 0x0, 0x0, 0x0, 0x0, 0x0, 0xFFFFFFFF⟩,  -- BRD_CNT_FILLLOST
  ⟨0x101040, 8, 0x10000, 8, 0x100, 1, 0x4, 0x0, 0x0, 0x0, 0x0, 0x0, 0xFFFFFFFF⟩]  -- BRD_CNT_FRAMES

def brdRows1 : List RegRow := [
  ⟨0x108000, 8, 0x10000, 512, 0x4, 1, 0x4, 0x0, 0xFFFFFFFF, 0x0, 0x0, 0x0, 0x0⟩]  -- BRD_PROG

def brdRows : List RegRow := brdRows0 ++ brdRows1

/-- Page SEN: base, repeats (count, stride) three times, reset, RW, RWS, RW1C, WO, RC. -/
def senRows : List RegRow := [
  ⟨0x180000, 8, 0x100, 1, 0x4, 1, 0x4, 0x89A00, 0x0, 0x3FFFF01, 0x0, 0x0, 0x0⟩,  -- SEN_GCFG
  ⟨0x180004, 8, 0x100, 1, 0x4, 1, 0x4, 0x3FF0000, 0x0, 0x3FF03FF, 0x0, 0x0, 0x0⟩,  -- SEN_GBND
  ⟨0x180008, 8, 0x100, 1, 0x4, 1, 0x4, 0x1700006, 0x0, 0x0, 0x0, 0x0, 0x0⟩,  -- SEN_GSTATE
  ⟨0x18000C, 8, 0x100, 1, 0x4, 1, 0x4, 0x0, 0x0, 0x0, 0x0, 0xFFFFFFFF, 0x0⟩,  -- SEN_GCMD
  ⟨0x180010, 8, 0x100, 1, 0x4, 1, 0x4, 0x1000000, 0x0, 0x0, 0x0, 0x0, 0x0⟩,  -- SEN_GCMDSTAT
  ⟨0x180014, 8, 0x100, 1, 0x4, 1, 0x4, 0x0, 0x0, 0x0, 0x0, 0x0, 0x0⟩,  -- SEN_GREF
  ⟨0x180018, 8, 0x100, 1, 0x4, 1, 0x4, 0x0, 0x0, 0xFFFF9FFF, 0x0, 0x0, 0x0⟩,  -- SEN_GSTR
  ⟨0x180020, 8, 0x100, 8, 0x4, 1, 0x4, 0x0, 0x0, 0xB03FFFFF, 0x0, 0x0, 0x0⟩,  -- SEN_LCFG
  ⟨0x180800, 1, 0x4, 1, 0x4, 1, 0x4, 0x0, 0x0, 0x0, 0x0, 0x0, 0x0⟩,  -- SEN_LEVEL0
  ⟨0x180804, 1, 0x4, 1, 0x4, 1, 0x4, 0x0, 0x0, 0x0, 0x0, 0x0, 0x0⟩,  -- SEN_LEVEL1
  ⟨0x180808, 1, 0x4, 1, 0x4, 1, 0x4, 0x0, 0x0, 0x0, 0x0, 0x0, 0x0⟩,  -- SEN_CHAT0
  ⟨0x18080C, 1, 0x4, 1, 0x4, 1, 0x4, 0x0, 0x0, 0x0, 0x0, 0x0, 0x0⟩,  -- SEN_CHAT1
  ⟨0x180810, 1, 0x4, 1, 0x4, 1, 0x4, 0xA1402, 0x0, 0xFFFFFF, 0x0, 0x0, 0x0⟩,  -- SEN_CHATCFG
  ⟨0x180814, 1, 0x4, 1, 0x4, 1, 0x4, 0x0, 0x0, 0x0, 0x0, 0x0, 0x0⟩,  -- SEN_LAT
  ⟨0x180880, 1, 0x4, 1, 0x4, 1, 0x4, 0x0, 0x0, 0x0, 0x0, 0x0, 0xFFFFFFFF⟩,  -- SEN_CNT_EVT
  ⟨0x180884, 1, 0x4, 1, 0x4, 1, 0x4, 0x0, 0x0, 0x0, 0x0, 0x0, 0xFFFFFFFF⟩]  -- SEN_CNT_CHAT

/-- Page GRD: base, repeats (count, stride) three times, reset, RW, RWS, RW1C, WO, RC. -/
def grdRows : List RegRow := [
  ⟨0x190000, 16, 0x100, 1, 0x4, 1, 0x4, 0x0, 0x0, 0x177, 0x0, 0x0, 0x0⟩,  -- GRD_CFG
  ⟨0x190004, 16, 0x100, 1, 0x4, 1, 0x4, 0x0, 0x0, 0xF7F00FFF, 0x0, 0x0, 0x0⟩,  -- GRD_ARMSRC
  ⟨0x190008, 16, 0x100, 1, 0x4, 1, 0x4, 0x0, 0x0, 0x8000FFFF, 0x0, 0x0, 0x0⟩,  -- GRD_ARMLINE
  ⟨0x19000C, 16, 0x100, 1, 0x4, 1, 0x4, 0x0, 0x0, 0xF7F00FFF, 0x0, 0x0, 0x0⟩,  -- GRD_FIRESRC
  ⟨0x190010, 16, 0x100, 1, 0x4, 1, 0x4, 0x0, 0x0, 0x8000FFFF, 0x0, 0x0, 0x0⟩,  -- GRD_FIRELINE
  ⟨0x190014, 16, 0x100, 1, 0x4, 1, 0x4, 0x7D00064, 0x0, 0xFFFF03FF, 0x0, 0x0, 0x0⟩,  -- GRD_TIME
  ⟨0x190018, 16, 0x100, 1, 0x4, 1, 0x4, 0x1388, 0x0, 0xFFFF, 0x0, 0x0, 0x0⟩,  -- GRD_RB
  ⟨0x19001C, 16, 0x100, 1, 0x4, 1, 0x4, 0x1600006, 0x0, 0x0, 0x0, 0x0, 0x0⟩,  -- GRD_STATE
  ⟨0x190020, 16, 0x100, 1, 0x4, 1, 0x4, 0x0, 0x0, 0x0, 0x0, 0xFFFFFFFF, 0x0⟩,  -- GRD_CMD
  ⟨0x190024, 16, 0x100, 1, 0x4, 1, 0x4, 0x1000000, 0x0, 0x0, 0x0, 0x0, 0x0⟩,  -- GRD_CMDSTAT
  ⟨0x190028, 16, 0x100, 1, 0x4, 1, 0x4, 0x0, 0x0, 0x0, 0x0, 0x0, 0x0⟩,  -- GRD_STAT
  ⟨0x19002C, 16, 0x100, 1, 0x4, 1, 0x4, 0x0, 0x0, 0x0, 0x0, 0x0, 0xFFFFFFFF⟩,  -- GRD_CNT_FIRE
  ⟨0x190030, 16, 0x100, 1, 0x4, 1, 0x4, 0x0, 0x0, 0x0, 0x0, 0x0, 0xFFFFFFFF⟩,  -- GRD_CNT_LATE
  ⟨0x191000, 1, 0x4, 1, 0x4, 1, 0x4, 0x0, 0x0, 0x0, 0xFFFFFFFF, 0x0, 0x0⟩,  -- GRD_EVT
  ⟨0x191004, 1, 0x4, 1, 0x4, 1, 0x4, 0x0, 0x0, 0x0, 0xFFFF, 0x0, 0x0⟩]  -- GRD_PAIRDIFF

/-- Page PB: base, repeats (count, stride) three times, reset, RW, RWS, RW1C, WO, RC. -/
def pbRows0 : List RegRow := [
  ⟨0x1A0000, 16, 0x1000, 1, 0x4, 1, 0x4, 0x202000, 0x0, 0xF0FF200B, 0x0, 0x0, 0x0⟩,  -- PB_CFG
  ⟨0x1A0004, 16, 0x1000, 1, 0x4, 1, 0x4, 0xF0F3E01, 0x0, 0x1F1F3F1F, 0x0, 0x0, 0x0⟩,  -- PB_NBT
  ⟨0x1A0008, 16, 0x1000, 1, 0x4, 1, 0x4, 0x7071E00, 0x0, 0xF0F1F1F, 0x0, 0x0, 0x0⟩,  -- PB_DBT
  ⟨0x1A000C, 16, 0x1000, 1, 0x4, 1, 0x4, 0x80000008, 0x0, 0x8000007F, 0x0, 0x0, 0x0⟩,  -- PB_TDC
  ⟨0x1A0010, 16, 0x1000, 1, 0x4, 1, 0x4, 0x0, 0x0, 0xFFFFFFFF, 0x0, 0x0, 0x0⟩,  -- PB_XCVR
  ⟨0x1A0014, 16, 0x1000, 1, 0x4, 1, 0x4, 0x64, 0x0, 0xFFFF, 0x0, 0x0, 0x0⟩,  -- PB_SHCFG
  ⟨0x1A0018, 16, 0x1000, 1, 0x4, 1, 0x4, 0x5, 0x0, 0x800000FF, 0x0, 0x0, 0x0⟩,  -- PB_WAKECFG
  ⟨0x1A0020, 16, 0x1000, 1, 0x4, 1, 0x4, 0x1300006, 0x0, 0x0, 0x0, 0x0, 0x0⟩,  -- PB_STATE
  ⟨0x1A0024, 16, 0x1000, 1, 0x4, 1, 0x4, 0x0, 0x0, 0x0, 0x0, 0xFFFFFFFF, 0x0⟩,  -- PB_CMD
  ⟨0x1A0028, 16, 0x1000, 1, 0x4, 1, 0x4, 0x1000000, 0x0, 0x0, 0x0, 0x0, 0x0⟩,  -- PB_CMDSTAT
  ⟨0x1A002C, 16, 0x1000, 1, 0x4, 1, 0x4, 0x0, 0x0, 0x0, 0x3FF, 0x0, 0x0⟩,  -- PB_EVT
  ⟨0x1A0030, 16, 0x1000, 1, 0x4, 1, 0x4, 0x0, 0x0, 0x0, 0x0, 0x0, 0x0⟩,  -- PB_ERRCNT
  ⟨0x1A0034, 16, 0x1000, 1, 0x4, 1, 0x4, 0x0, 0x0, 0x0, 0x0, 0x0, 0x0⟩,  -- PB_SPOOL
  ⟨0x1A0038, 16, 0x1000, 1, 0x4, 1, 0x4, 0x0, 0x0, 0x0, 0x0, 0x0, 0x0⟩,  -- PB_HEAD
  ⟨0x1A003C, 16, 0x1000, 1, 0x4, 1, 0x4, 0x0, 0x0, 0x0, 0x0, 0x0, 0x0⟩,  -- PB_LASTERR
  ⟨0x1A0040, 16, 0x1000, 16, 0x4, 1, 0x4, 0x0, 0xFFFFFFFF, 0x0, 0x0, 0x0, 0x0⟩,  -- PB_TXDATA
  ⟨0x1A0080, 16, 0x1000, 1, 0x4, 1, 0x4, 0x0, 0x9FFFFFFF, 0x0, 0x0, 0x0, 0x0⟩,  -- PB_TXID
  ⟨0x1A0084, 16, 0x1000, 1, 0x4, 1, 0x4, 0x0, 0x1EF, 0x0, 0x0, 0x0, 0x0⟩,  -- PB_TXCTL
  ⟨0x1A0088, 16, 0x1000, 1, 0x4, 1, 0x4, 0x0, 0xFFFFFFFF, 0x0, 0x0, 0x0, 0x0⟩,  -- PB_TXAT_NS
  ⟨0x1A008C, 16, 0x1000, 1, 0x4, 1, 0x4, 0x0, 0xFFFFFFFF, 0x0, 0x0, 0x0, 0x0⟩,  -- PB_TXAT_SEC
  ⟨0x1A0090, 16, 0x1000, 1, 0x4, 1, 0x4, 0x0, 0xFFFF, 0x0, 0x0, 0x0, 0x0⟩,  -- PB_TXAT_HI
  ⟨0x1A0094, 16, 0x1000, 1, 0x4, 1, 0x4, 0x0, 0x0, 0x0, 0x0, 0x3, 0x0⟩,  -- PB_TXGO
  ⟨0x1A0098, 16, 0x1000, 1, 0x4, 1, 0x4, 0x0, 0x0, 0x0, 0x0, 0x0, 0x0⟩,  -- PB_TXSTAT
  ⟨0x1A00C0, 16, 0x1000, 1, 0x4, 1, 0x4, 0x0, 0x0, 0x0, 0x0, 0x0, 0xFFFFFFFF⟩,  -- PB_CNT_RXF
  ⟨0x1A00C4, 16, 0x1000, 1, 0x4, 1, 0x4, 0x0, 0x0, 0x0, 0x0, 0x0, 0xFFFFFFFF⟩,  -- PB_CNT_TXF
  ⟨0x1A00C8, 16, 0x1000, 1, 0x4, 1, 0x4, 0x0, 0x0, 0x0, 0x0, 0x0, 0xFFFFFFFF⟩,  -- PB_CNT_ACKERR
  ⟨0x1A00CC, 16, 0x1000, 1, 0x4, 1, 0x4, 0x0, 0x0, 0x0, 0x0, 0x0, 0xFFFFFFFF⟩,  -- PB_CNT_ERRF
  ⟨0x1A00D0, 16, 0x1000, 1, 0x4, 1, 0x4, 0x0, 0x0, 0x0, 0x0, 0x0, 0xFFFFFFFF⟩,  -- PB_CNT_NOFILT
  ⟨0x1A00D4, 16, 0x1000, 1, 0x4, 1, 0x4, 0x0, 0x0, 0x0, 0x0, 0x0, 0xFFFFFFFF⟩,  -- PB_CNT_SPOOLFULL
  ⟨0x1A00D8, 16, 0x1000, 1, 0x4, 1, 0x4, 0x0, 0x0, 0x0, 0x0, 0x0, 0xFFFFFFFF⟩,  -- PB_CNT_TTLATE
  ⟨0x1A00DC, 16, 0x1000, 1, 0x4, 1, 0x4, 0x0, 0x0, 0x0, 0x0, 0x0, 0xFFFFFFFF⟩,  -- PB_CNT_OSDROP
  ⟨0x1A00E0, 16, 0x1000, 1, 0x4, 1, 0x4, 0x0, 0x0, 0x0, 0x0, 0x0, 0xFFFFFFFF⟩,  -- PB_CNT_ABORT
  ⟨0x1A00E4, 16, 0x1000, 1, 0x4, 1, 0x4, 0x0, 0x0, 0x0, 0x0, 0x0, 0xFFFFFFFF⟩,  -- PB_CNT_FOLAGE
  ⟨0x1A00E8, 16, 0x1000, 1, 0x4, 1, 0x4, 0x0, 0x0, 0x0, 0x0, 0x0, 0xFFFFFFFF⟩,  -- PB_CNT_TUNREJ
  ⟨0x1A00EC, 16, 0x1000, 1, 0x4, 1, 0x4, 0x0, 0x0, 0x0, 0x0, 0x0, 0xFFFFFFFF⟩,  -- PB_CNT_WAKELOST
  ⟨0x1A00F0, 16, 0x1000, 1, 0x4, 1, 0x4, 0x0, 0x0, 0x0, 0x0, 0x0, 0xFFFFFFFF⟩,  -- PB_CNT_WIREBAD
  ⟨0x1A00F4, 16, 0x1000, 1, 0x4, 1, 0x4, 0x0, 0x0, 0x0, 0x0, 0x0, 0xFFFFFFFF⟩,  -- PB_CNT_ALONEDROP
  ⟨0x1A00F8, 16, 0x1000, 1, 0x4, 1, 0x4, 0x0, 0x0, 0x0, 0x0, 0x0, 0xFFFFFFFF⟩,  -- PB_CNT_BUSOFF
  ⟨0x1A0400, 16, 0x1000, 64, 0x10, 1, 0x4, 0x0, 0x0, 0x9FFFFFFF, 0x0, 0x0, 0x0⟩,  -- PB_FLT_ID
  ⟨0x1A0404, 16, 0x1000, 64, 0x10, 1, 0x4, 0x0, 0x0, 0x9FFFFFFF, 0x0, 0x0, 0x0⟩]  -- PB_FLT_MASK

def pbRows1 : List RegRow := [
  ⟨0x1A0408, 16, 0x1000, 64, 0x10, 1, 0x4, 0x2000000, 0x0, 0xFF000FFF, 0x0, 0x0, 0x0⟩,  -- PB_FLT_ROUTE
  ⟨0x1A040C, 16, 0x1000, 64, 0x10, 1, 0x4, 0x0, 0x0, 0xF7FF0000, 0x0, 0x0, 0x0⟩,  -- PB_FLT_DEST
  ⟨0x1A0800, 16, 0x1000, 1, 0x4, 1, 0x4, 0x2000000, 0x0, 0xFF000FFF, 0x0, 0x0, 0x0⟩,  -- PB_DEFROUTE
  ⟨0x1A0804, 16, 0x1000, 1, 0x4, 1, 0x4, 0x0, 0x0, 0xF7FF0000, 0x0, 0x0, 0x0⟩]  -- PB_DEFDEST

def pbRows : List RegRow := pbRows0 ++ pbRows1

/-- Page KEY: base, repeats (count, stride) three times, reset, RW, RWS, RW1C, WO, RC. -/
def keyRows : List RegRow := [
  ⟨0x200000, 1, 0x4, 1, 0x4, 1, 0x4, 0x0, 0x0, 0x0, 0x0, 0x0, 0x0⟩,  -- KEY_STATUS
  ⟨0x200004, 1, 0x4, 1, 0x4, 1, 0x4, 0x0, 0x0, 0x0, 0xF, 0x0, 0x0⟩,  -- KEY_EVT
  ⟨0x200008, 1, 0x4, 1, 0x4, 1, 0x4, 0x0, 0x0, 0x1FFFF, 0x0, 0x0, 0x0⟩,  -- KEY_AUTHCFG
  ⟨0x20000C, 1, 0x4, 1, 0x4, 1, 0x4, 0x0, 0x0, 0x0, 0x0, 0x7F03, 0x0⟩,  -- KEY_OP
  ⟨0x200010, 1, 0x4, 1, 0x4, 1, 0x4, 0x0, 0x0, 0x0, 0x0, 0x0, 0x0⟩,  -- KEY_OPSTAT
  ⟨0x200040, 16, 0x4, 1, 0x4, 1, 0x4, 0x0, 0x0, 0x0, 0x0, 0xFFFFFFFF, 0x0⟩,  -- KEY_STAGE
  ⟨0x200080, 16, 0x4, 1, 0x4, 1, 0x4, 0x0, 0xBFBFBFBF, 0x0, 0x0, 0x0, 0x0⟩,  -- KEY_RSEL
  ⟨0x200100, 12, 0x4, 1, 0x4, 1, 0x4, 0x0, 0x0, 0x0, 0x0, 0x0, 0x0⟩,  -- KEY_MEASP
  ⟨0x200130, 12, 0x4, 1, 0x4, 1, 0x4, 0x0, 0x0, 0x0, 0x0, 0x0, 0x0⟩,  -- KEY_MEASR
  ⟨0x200160, 1, 0x4, 1, 0x4, 1, 0x4, 0x0, 0x0, 0x0, 0x0, 0x0, 0x0⟩,  -- KEY_MEASSVN
  ⟨0x200180, 1, 0x4, 1, 0x4, 1, 0x4, 0x0, 0x0, 0x0, 0x0, 0x0, 0xFFFFFFFF⟩,  -- KEY_CNT_TAGFAIL
  ⟨0x200184, 1, 0x4, 1, 0x4, 1, 0x4, 0x0, 0x0, 0x0, 0x0, 0x0, 0xFFFFFFFF⟩,  -- KEY_CNT_SPENT
  ⟨0x200188, 1, 0x4, 1, 0x4, 1, 0x4, 0x0, 0x0, 0x0, 0x0, 0x0, 0xFFFFFFFF⟩,  -- KEY_CNT_NOKEY
  ⟨0x20018C, 1, 0x4, 1, 0x4, 1, 0x4, 0x0, 0x0, 0x0, 0x0, 0x0, 0xFFFFFFFF⟩,  -- KEY_CNT_NXT
  ⟨0x200190, 1, 0x4, 1, 0x4, 1, 0x4, 0x0, 0x0, 0x0, 0x0, 0x0, 0xFFFFFFFF⟩,  -- KEY_CNT_USE
  ⟨0x201000, 64, 0x8, 1, 0x4, 1, 0x4, 0x0, 0x0, 0x0, 0x0, 0x0, 0x0⟩,  -- KEY_SLOT_META
  ⟨0x201004, 64, 0x8, 1, 0x4, 1, 0x4, 0x0, 0x0, 0x0, 0x0, 0x0, 0x0⟩]  -- KEY_SLOT_USES

/-- Page FLT: base, repeats (count, stride) three times, reset, RW, RWS, RW1C, WO, RC. -/
def fltRows : List RegRow := [
  ⟨0x210000, 1, 0x4, 1, 0x4, 1, 0x4, 0x0, 0x0, 0x0, 0x0, 0x0, 0x0⟩,  -- FLT_STATUS
  ⟨0x210004, 1, 0x4, 1, 0x4, 1, 0x4, 0x0, 0x0, 0x0, 0x7, 0x0, 0x0⟩,  -- FLT_EVT
  ⟨0x210010, 5, 0x4, 1, 0x4, 1, 0x4, 0x0, 0x0, 0x1F, 0x0, 0x0, 0x0⟩,  -- FLT_CLASSCFG
  ⟨0x210030, 1, 0x4, 1, 0x4, 1, 0x4, 0x0, 0x0, 0x0, 0x0, 0x80000000, 0x0⟩,  -- FLT_ALIVE
  ⟨0x210034, 1, 0x4, 1, 0x4, 1, 0x4, 0x200, 0x80000000, 0xFF00, 0x0, 0x0, 0x0⟩,  -- FLT_ERRN
  ⟨0x210040, 4, 0x4, 1, 0x4, 1, 0x4, 0x0, 0x0, 0x0, 0xFFFFFFFF, 0x0, 0x0⟩,  -- FLT_PEND
  ⟨0x210050, 1, 0x4, 1, 0x4, 1, 0x4, 0x0, 0x0, 0x0, 0x0, 0x0, 0xFFFFFFFF⟩,  -- FLT_RECPOP
  ⟨0x210054, 4, 0x4, 1, 0x4, 1, 0x4, 0x0, 0x0, 0x0, 0x0, 0x0, 0x0⟩,  -- FLT_RECDET
  ⟨0x210064, 1, 0x4, 1, 0x4, 1, 0x4, 0x0, 0x0, 0x0, 0x0, 0x0, 0x0⟩,  -- FLT_RECFIRST_NS
  ⟨0x210068, 1, 0x4, 1, 0x4, 1, 0x4, 0x0, 0x0, 0x0, 0x0, 0x0, 0x0⟩,  -- FLT_RECFIRST_SEC
  ⟨0x21006C, 1, 0x4, 1, 0x4, 1, 0x4, 0x0, 0x0, 0x0, 0x0, 0x0, 0x0⟩,  -- FLT_RECLAST_NS
  ⟨0x210070, 1, 0x4, 1, 0x4, 1, 0x4, 0x0, 0x0, 0x0, 0x0, 0x0, 0x0⟩,  -- FLT_RECLAST_SEC
  ⟨0x210080, 1, 0x4, 1, 0x4, 1, 0x4, 0xE100E10, 0x0, 0xFFFFFFFF, 0x0, 0x0, 0x0⟩,  -- FLT_STCFG
  ⟨0x210084, 1, 0x4, 1, 0x4, 1, 0x4, 0x0, 0x0, 0x0, 0x0, 0x8F00FFFF, 0x0⟩,  -- FLT_STREQ
  ⟨0x210088, 1, 0x4, 1, 0x4, 1, 0x4, 0x0, 0x0, 0x0, 0x0, 0x0, 0x0⟩,  -- FLT_STRES
  ⟨0x21008C, 1, 0x4, 1, 0x4, 1, 0x4, 0x0, 0x0, 0x0, 0x0, 0x0, 0x0⟩,  -- FLT_HEALTH
  ⟨0x210090, 1, 0x4, 1, 0x4, 1, 0x4, 0x0, 0x0, 0x0, 0x0, 0x807FFFFF, 0x0⟩,  -- FLT_INJ
  ⟨0x2100C0, 11, 0x4, 1, 0x4, 1, 0x4, 0x0, 0x0, 0x0, 0x0, 0x0, 0x0⟩,  -- FLT_HTEST
  ⟨0x211000, 128, 0x10, 1, 0x4, 1, 0x4, 0x0, 0x0, 0x80FF771F, 0x0, 0x0, 0x0⟩,  -- FLT_SRC_CFG
  ⟨0x211004, 128, 0x10, 1, 0x4, 1, 0x4, 0x0, 0x0, 0xFFFF, 0x0, 0x0, 0x0⟩,  -- FLT_SRC_WIN
  ⟨0x211008, 128, 0x10, 1, 0x4, 1, 0x4, 0x0, 0x0, 0x0, 0x0, 0x0, 0x0⟩,  -- FLT_SRC_STAT
  ⟨0x21100C, 128, 0x10, 1, 0x4, 1, 0x4, 0x0, 0x0, 0x0, 0x0, 0x0, 0xFFFFFFFF⟩]  -- FLT_SRC_CNT

/-- Page LOG: base, repeats (count, stride) three times, reset, RW, RWS, RW1C, WO, RC. -/
def logRows : List RegRow := [
  ⟨0x220000, 1, 0x4, 1, 0x4, 1, 0x4, 0x3C, 0x0, 0xFFF, 0x0, 0x0, 0x0⟩,  -- LOG_CFG
  ⟨0x220004, 1, 0x4, 1, 0x4, 1, 0x4, 0x1000000, 0x0, 0x0, 0x0, 0x0, 0x0⟩,  -- LOG_STATUS
  ⟨0x220008, 1, 0x4, 1, 0x4, 1, 0x4, 0x0, 0x0, 0x0, 0x1F, 0x0, 0x0⟩,  -- LOG_EVT
  ⟨0x22000C, 1, 0x4, 1, 0x4, 1, 0x4, 0x0, 0x0, 0x0, 0x0, 0x1, 0x0⟩,  -- LOG_CTL
  ⟨0x220010, 1, 0x4, 1, 0x4, 1, 0x4, 0x0, 0x0, 0x0, 0x0, 0x0, 0x0⟩,  -- LOG_GEN_LO
  ⟨0x220014, 1, 0x4, 1, 0x4, 1, 0x4, 0x0, 0x0, 0x0, 0x0, 0x0, 0x0⟩,  -- LOG_GEN_HI
  ⟨0x220018, 1, 0x4, 1, 0x4, 1, 0x4, 0x0, 0x0, 0x0, 0x0, 0x0, 0x0⟩,  -- LOG_AGE
  ⟨0x22001C, 1, 0x4, 1, 0x4, 1, 0x4, 0x0, 0x0, 0x0, 0x0, 0x0, 0x0⟩,  -- LOG_JSEQ
  ⟨0x220080, 1, 0x4, 1, 0x4, 1, 0x4, 0x0, 0x0, 0x0, 0x0, 0x0, 0xFFFFFFFF⟩,  -- LOG_CNT_FLUSH
  ⟨0x220084, 1, 0x4, 1, 0x4, 1, 0x4, 0x0, 0x0, 0x0, 0x0, 0x0, 0xFFFFFFFF⟩,  -- LOG_CNT_MERGED
  ⟨0x220088, 1, 0x4, 1, 0x4, 1, 0x4, 0x0, 0x0, 0x0, 0x0, 0x0, 0xFFFFFFFF⟩,  -- LOG_CNT_JLOST
  ⟨0x22008C, 1, 0x4, 1, 0x4, 1, 0x4, 0x0, 0x0, 0x0, 0x0, 0x0, 0xFFFFFFFF⟩]  -- LOG_CNT_RETRY

/-- Page UPD: base, repeats (count, stride) three times, reset, RW, RWS, RW1C, WO, RC. -/
def updRows : List RegRow := [
  ⟨0x230000, 1, 0x4, 1, 0x4, 1, 0x4, 0x0, 0x0, 0x0, 0x0, 0x0, 0x0⟩,  -- UPD_STATUS
  ⟨0x230004, 1, 0x4, 1, 0x4, 1, 0x4, 0x0, 0x0, 0x0, 0x1F, 0x0, 0x0⟩,  -- UPD_EVT
  ⟨0x230008, 1, 0x4, 1, 0x4, 1, 0x4, 0xA, 0x7FF, 0x0, 0x0, 0x0, 0x0⟩,  -- UPD_CFG
  ⟨0x23000C, 1, 0x4, 1, 0x4, 1, 0x4, 0x0, 0x0, 0x0, 0x0, 0xFF03, 0x0⟩,  -- UPD_CTL
  ⟨0x230010, 1, 0x4, 1, 0x4, 1, 0x4, 0x0, 0x0, 0x0, 0x0, 0x0, 0x0⟩,  -- UPD_PROGRESS
  ⟨0x230014, 1, 0x4, 1, 0x4, 1, 0x4, 0x0, 0x0, 0x0, 0x0, 0x0, 0x0⟩,  -- UPD_SESSID_LO
  ⟨0x230018, 1, 0x4, 1, 0x4, 1, 0x4, 0x0, 0x0, 0x0, 0x0, 0x0, 0x0⟩,  -- UPD_SESSID_HI
  ⟨0x23001C, 1, 0x4, 1, 0x4, 1, 0x4, 0x0, 0x0, 0x0, 0x0, 0x0, 0x0⟩,  -- UPD_RUNREL
  ⟨0x230020, 1, 0x4, 1, 0x4, 1, 0x4, 0x0, 0x0, 0x0, 0x0, 0x0, 0x0⟩,  -- UPD_STAGEREL
  ⟨0x230024, 1, 0x4, 1, 0x4, 1, 0x4, 0x0, 0x0, 0x0, 0x0, 0x0, 0x0⟩,  -- UPD_SVN
  ⟨0x230028, 1, 0x4, 1, 0x4, 1, 0x4, 0x0, 0x0, 0x0, 0x0, 0x0, 0x0⟩,  -- UPD_TRIAL
  ⟨0x23002C, 1, 0x4, 1, 0x4, 1, 0x4, 0x0, 0x0, 0x0, 0x0, 0x0, 0x0⟩,  -- UPD_RESULT
  ⟨0x230080, 1, 0x4, 1, 0x4, 1, 0x4, 0x0, 0x0, 0x0, 0x0, 0x0, 0xFFFFFFFF⟩,  -- UPD_CNT_CHUNK
  ⟨0x230084, 1, 0x4, 1, 0x4, 1, 0x4, 0x0, 0x0, 0x0, 0x0, 0x0, 0xFFFFFFFF⟩,  -- UPD_CNT_DUP
  ⟨0x230088, 1, 0x4, 1, 0x4, 1, 0x4, 0x0, 0x0, 0x0, 0x0, 0x0, 0xFFFFFFFF⟩]  -- UPD_CNT_FALLBACK

/-- Page PWR: base, repeats (count, stride) three times, reset, RW, RWS, RW1C, WO, RC. -/
def pwrRows : List RegRow := [
  ⟨0x240000, 1, 0x4, 1, 0x4, 1, 0x4, 0x3200A064, 0x0, 0xFFFFFFFF, 0x0, 0x0, 0x0⟩,  -- PWR_CFG
  ⟨0x240004, 1, 0x4, 1, 0x4, 1, 0x4, 0x3FF0000, 0x0, 0x3FF03FF, 0x0, 0x0, 0x0⟩,  -- PWR_WIN
  ⟨0x240008, 1, 0x4, 1, 0x4, 1, 0x4, 0x1F40064, 0x0, 0x1FF007F, 0x0, 0x0, 0x0⟩,  -- PWR_LIM
  ⟨0x24000C, 1, 0x4, 1, 0x4, 1, 0x4, 0x0, 0x0, 0x0, 0x0, 0x0, 0x0⟩,  -- PWR_PIN0
  ⟨0x240010, 1, 0x4, 1, 0x4, 1, 0x4, 0x0, 0x0, 0x0, 0x0, 0x0, 0x0⟩,  -- PWR_PIN1
  ⟨0x240014, 1, 0x4, 1, 0x4, 1, 0x4, 0x12C0064, 0x0, 0xFFFFFFFF, 0x0, 0x0, 0x0⟩,  -- PWR_FETM0
  ⟨0x240018, 1, 0x4, 1, 0x4, 1, 0x4, 0x7D003E8, 0x0, 0xFFFFFFFF, 0x0, 0x0, 0x0⟩,  -- PWR_FETM1
  ⟨0x24001C, 1, 0x4, 1, 0x4, 1, 0x4, 0x32966455, 0x0, 0xFFFFFFFF, 0x0, 0x0, 0x0⟩,  -- PWR_FETM2
  ⟨0x240020, 1, 0x4, 1, 0x4, 1, 0x4, 0xD6B03E8, 0x0, 0xFFFFFFFF, 0x0, 0x0, 0x0⟩,  -- PWR_NTC
  ⟨0x240024, 1, 0x4, 1, 0x4, 1, 0x4, 0x0, 0x0, 0x0, 0x0, 0x0, 0x0⟩,  -- PWR_STATUS
  ⟨0x240028, 1, 0x4, 1, 0x4, 1, 0x4, 0x0, 0x0, 0x0, 0x7F, 0x0, 0x0⟩,  -- PWR_EVT
  ⟨0x24002C, 1, 0x4, 1, 0x4, 1, 0x4, 0x0, 0x0, 0x0, 0x0, 0xFF01, 0x0⟩,  -- PWR_CTL
  ⟨0x240030, 1, 0x4, 1, 0x4, 1, 0x4, 0x0, 0x0, 0x0, 0x0, 0x0, 0x0⟩,  -- PWR_MEAS0
  ⟨0x240034, 1, 0x4, 1, 0x4, 1, 0x4, 0x0, 0x0, 0x0, 0x0, 0x0, 0x0⟩,  -- PWR_MEAS1
  ⟨0x240038, 1, 0x4, 1, 0x4, 1, 0x4, 0x0, 0x0, 0x0, 0x0, 0x0, 0x0⟩,  -- PWR_MEAS2
  ⟨0x24003C, 1, 0x4, 1, 0x4, 1, 0x4, 0x0, 0x0, 0x0, 0x0, 0x0, 0x0⟩,  -- PWR_LAST
  ⟨0x240040, 1, 0x4, 1, 0x4, 1, 0x4, 0x0, 0x0, 0x0, 0x0, 0x0, 0x0⟩,  -- PWR_COOL
  ⟨0x240080, 1, 0x4, 1, 0x4, 1, 0x4, 0x0, 0x0, 0x0, 0x0, 0x0, 0xFFFFFFFF⟩,  -- PWR_CNT_FTRIP
  ⟨0x240084, 1, 0x4, 1, 0x4, 1, 0x4, 0x0, 0x0, 0x0, 0x0, 0x0, 0xFFFFFFFF⟩,  -- PWR_CNT_LIMIT
  ⟨0x240088, 1, 0x4, 1, 0x4, 1, 0x4, 0x0, 0x0, 0x0, 0x0, 0x0, 0xFFFFFFFF⟩,  -- PWR_CNT_TIMER
  ⟨0x24008C, 1, 0x4, 1, 0x4, 1, 0x4, 0x0, 0x0, 0x0, 0x0, 0x0, 0xFFFFFFFF⟩,  -- PWR_CNT_FETTEMP
  ⟨0x240090, 1, 0x4, 1, 0x4, 1, 0x4, 0x0, 0x0, 0x0, 0x0, 0x0, 0xFFFFFFFF⟩,  -- PWR_CNT_RETRY
  ⟨0x240094, 1, 0x4, 1, 0x4, 1, 0x4, 0x0, 0x0, 0x0, 0x0, 0x0, 0xFFFFFFFF⟩,  -- PWR_CNT_REVA
  ⟨0x240098, 1, 0x4, 1, 0x4, 1, 0x4, 0x0, 0x0, 0x0, 0x0, 0x0, 0xFFFFFFFF⟩,  -- PWR_CNT_REVB
  ⟨0x240100, 1, 0x4, 1, 0x4, 1, 0x4, 0x102, 0x0, 0xFF0F, 0x0, 0x0, 0x0⟩,  -- PWR_SUPCFG
  ⟨0x240104, 1, 0x4, 1, 0x4, 1, 0x4, 0x0, 0x0, 0x0, 0x0, 0x0, 0x0⟩,  -- PWR_SUPSTAT
  ⟨0x240108, 1, 0x4, 1, 0x4, 1, 0x4, 0x0, 0x0, 0x0, 0xF, 0x0, 0x0⟩,  -- PWR_SUPEVT
  ⟨0x24010C, 1, 0x4, 1, 0x4, 1, 0x4, 0x0, 0x0, 0x0, 0x0, 0x0, 0x0⟩,  -- PWR_RSTCAUSE
  ⟨0x240110, 1, 0x4, 1, 0x4, 1, 0x4, 0x0, 0x0, 0x0, 0x0, 0xFF01, 0x0⟩,  -- PWR_RSTCTL
  ⟨0x240114, 1, 0x4, 1, 0x4, 1, 0x4, 0x0, 0x0, 0x0, 0x0, 0x0, 0x0⟩,  -- PWR_WARNLAST
  ⟨0x240118, 1, 0x4, 1, 0x4, 1, 0x4, 0x0, 0x0, 0x0, 0x0, 0x0, 0x0⟩,  -- PWR_RAIL0
  ⟨0x24011C, 1, 0x4, 1, 0x4, 1, 0x4, 0x0, 0x0, 0x0, 0x0, 0x0, 0x0⟩,  -- PWR_RAIL1
  ⟨0x240120, 1, 0x4, 1, 0x4, 1, 0x4, 0x0, 0x0, 0x0, 0x0, 0x0, 0x0⟩,  -- PWR_RAIL2
  ⟨0x240180, 1, 0x4, 1, 0x4, 1, 0x4, 0x0, 0x0, 0x0, 0x0, 0x0, 0xFFFFFFFF⟩,  -- PWR_CNT_WARN
  ⟨0x240184, 1, 0x4, 1, 0x4, 1, 0x4, 0x0, 0x0, 0x0, 0x0, 0x0, 0xFFFFFFFF⟩,  -- PWR_CNT_RECOVER
  ⟨0x240188, 1, 0x4, 1, 0x4, 1, 0x4, 0x0, 0x0, 0x0, 0x0, 0x0, 0xFFFFFFFF⟩]  -- PWR_CNT_RAILRST

/-- Page SVC: base, repeats (count, stride) three times, reset, RW, RWS, RW1C, WO, RC. -/
def svcRows : List RegRow := [
  ⟨0x250000, 1, 0x4, 1, 0x4, 1, 0x4, 0xF0030000, 0x0, 0xF1FF0000, 0x0, 0x0, 0x0⟩,  -- SVC_CFG
  ⟨0x250004, 1, 0x4, 1, 0x4, 1, 0x4, 0x50032, 0x0, 0x1F03FF, 0x0, 0x0, 0x0⟩,  -- SVC_SNKCFG
  ⟨0x250008, 1, 0x4, 1, 0x4, 1, 0x4, 0x0, 0x0, 0x0, 0x0, 0x0, 0x0⟩,  -- SVC_STATUS
  ⟨0x25000C, 1, 0x4, 1, 0x4, 1, 0x4, 0x0, 0x0, 0x0, 0x3FF, 0x0, 0x0⟩,  -- SVC_EVT
  ⟨0x250010, 1, 0x4, 1, 0x4, 1, 0x4, 0x0, 0x0, 0x0, 0x0, 0x0, 0x0⟩,  -- SVC_CONTRACT
  ⟨0x250014, 1, 0x4, 1, 0x4, 1, 0x4, 0x0, 0x800703FF, 0x0, 0x0, 0x0, 0x0⟩,  -- SVC_OVRREQ
  ⟨0x250018, 1, 0x4, 1, 0x4, 1, 0x4, 0x0, 0x0, 0x0, 0x0, 0xFF03, 0x0⟩,  -- SVC_OVR
  ⟨0x250020, 7, 0x4, 1, 0x4, 1, 0x4, 0x0, 0x0, 0x0, 0x0, 0x0, 0x0⟩,  -- SVC_SRCCAP
  ⟨0x250080, 1, 0x4, 1, 0x4, 1, 0x4, 0x0, 0x0, 0x0, 0x0, 0x0, 0xFFFFFFFF⟩,  -- SVC_CNT_NOREPLY
  ⟨0x250084, 1, 0x4, 1, 0x4, 1, 0x4, 0x0, 0x0, 0x0, 0x0, 0x0, 0xFFFFFFFF⟩,  -- SVC_CNT_SOFTRST
  ⟨0x250088, 1, 0x4, 1, 0x4, 1, 0x4, 0x0, 0x0, 0x0, 0x0, 0x0, 0xFFFFFFFF⟩,  -- SVC_CNT_HARDRST
  ⟨0x25008C, 1, 0x4, 1, 0x4, 1, 0x4, 0x0, 0x0, 0x0, 0x0, 0x0, 0xFFFFFFFF⟩,  -- SVC_CNT_WAIT
  ⟨0x250090, 1, 0x4, 1, 0x4, 1, 0x4, 0x0, 0x0, 0x0, 0x0, 0x0, 0xFFFFFFFF⟩,  -- SVC_CNT_ACC
  ⟨0x250094, 1, 0x4, 1, 0x4, 1, 0x4, 0x0, 0x0, 0x0, 0x0, 0x0, 0xFFFFFFFF⟩]  -- SVC_CNT_VDEM

/-- Page ISL: base, repeats (count, stride) three times, reset, RW, RWS, RW1C, WO, RC. -/
def islRows : List RegRow := [
  ⟨0x260000, 1, 0x4, 1, 0x4, 1, 0x4, 0x0, 0x0, 0x0, 0x0, 0x0, 0x0⟩,  -- ISL_CLKSTAT
  ⟨0x260004, 1, 0x4, 1, 0x4, 1, 0x4, 0x0, 0x0, 0x0, 0x0, 0x0, 0x0⟩,  -- ISL_GRPSTAT
  ⟨0x260008, 1, 0x4, 1, 0x4, 1, 0x4, 0x0, 0x0, 0x0, 0x0, 0xFF1F, 0x0⟩,  -- ISL_GRESET
  ⟨0x26000C, 1, 0x4, 1, 0x4, 1, 0x4, 0x0, 0x0, 0x0, 0xF, 0x0, 0x0⟩,  -- ISL_EVT
  ⟨0x260010, 1, 0x4, 1, 0x4, 1, 0x4, 0x0, 0x0, 0x0, 0x0, 0x0, 0x0⟩,  -- ISL_XSTAT
  ⟨0x260014, 1, 0x4, 1, 0x4, 1, 0x4, 0x0, 0x0, 0x0, 0x0, 0x0, 0x0⟩,  -- ISL_XLAST
  ⟨0x260020, 1, 0x4, 1, 0x4, 1, 0x4, 0x0, 0x0, 0x0, 0x0, 0x0, 0xFFFFFFFF⟩,  -- ISL_CNT_XSTOP
  ⟨0x260024, 1, 0x4, 1, 0x4, 1, 0x4, 0x0, 0x0, 0x0, 0x0, 0x0, 0xFFFFFFFF⟩,  -- ISL_CNT_XDROP
  ⟨0x260028, 1, 0x4, 1, 0x4, 1, 0x4, 0x0, 0x0, 0x0, 0x0, 0x0, 0xFFFFFFFF⟩,  -- ISL_CNT_EVSAT
  ⟨0x26002C, 1, 0x4, 1, 0x4, 1, 0x4, 0x0, 0x0, 0x0, 0x0, 0x0, 0xFFFFFFFF⟩]  -- ISL_CNT_GRESET

/-- Page REAM: base, repeats (count, stride) three times, reset, RW, RWS, RW1C, WO, RC. -/
def reamRows : List RegRow := [
  ⟨0x270000, 1, 0x4, 1, 0x4, 1, 0x4, 0x3, 0x0, 0x0, 0x0, 0x0, 0x0⟩,  -- REAM_STATUS
  ⟨0x270004, 1, 0x4, 1, 0x4, 1, 0x4, 0x0, 0x0, 0x0, 0x0, 0x0, 0x0⟩,  -- REAM_GEN
  ⟨0x270008, 1, 0x4, 1, 0x4, 1, 0x4, 0xF0FF0000, 0x0, 0x0, 0x0, 0x0, 0x0⟩,  -- REAM_CHK0
  ⟨0x27000C, 1, 0x4, 1, 0x4, 1, 0x4, 0xF0FF0000, 0x0, 0x0, 0x0, 0x0, 0x0⟩,  -- REAM_CHK1
  ⟨0x270010, 1, 0x4, 1, 0x4, 1, 0x4, 0x0, 0x0, 0x0, 0x0, 0x0, 0x0⟩,  -- REAM_GEN0
  ⟨0x270014, 1, 0x4, 1, 0x4, 1, 0x4, 0x0, 0x0, 0x0, 0x0, 0x0, 0x0⟩,  -- REAM_GEN1
  ⟨0x270020, 12, 0x4, 1, 0x4, 1, 0x4, 0x0, 0x0, 0x0, 0x0, 0x0, 0x0⟩,  -- REAM_DIGEST
  ⟨0x270050, 1, 0x4, 1, 0x4, 1, 0x4, 0x0, 0x0, 0x0, 0x0, 0x0, 0x0⟩,  -- REAM_KAZEX_REL
  ⟨0x270054, 1, 0x4, 1, 0x4, 1, 0x4, 0x0, 0x0, 0x0, 0x0, 0x0, 0x0⟩,  -- REAM_KAZEX_LO
  ⟨0x270058, 1, 0x4, 1, 0x4, 1, 0x4, 0x0, 0x0, 0x0, 0x0, 0x0, 0x0⟩,  -- REAM_KAZEX_HI
  ⟨0x270060, 1, 0x4, 1, 0x4, 1, 0x4, 0x0, 0x0, 0x0, 0x0, 0x0, 0x0⟩,  -- REAM_NOTE
  ⟨0x270064, 1, 0x4, 1, 0x4, 1, 0x4, 0x0, 0x0, 0x0, 0x0, 0x0, 0x0⟩,  -- REAM_T0
  ⟨0x270068, 1, 0x4, 1, 0x4, 1, 0x4, 0x0, 0x0, 0x0, 0x0, 0x0, 0x0⟩,  -- REAM_T1
  ⟨0x27006C, 1, 0x4, 1, 0x4, 1, 0x4, 0x0, 0x0, 0x0, 0x3, 0x0, 0x0⟩,  -- REAM_EVT
  ⟨0x270070, 1, 0x4, 1, 0x4, 1, 0x4, 0x0, 0x0, 0x0, 0x0, 0x0, 0x0⟩]  -- REAM_WRCHK

/-- Table 03.3: the rows of the page with index LOCAL[23:16]; a page it does not list has none. -/
def pageRows (page : Nat) : List RegRow :=
  match page with
  | 0x00 => chipRows
  | 0x01 => timeRows
  | 0x02 => ringRows
  | 0x03 => mbrRows
  | 0x04 => swRows
  | 0x05 => xbRows
  | 0x06 => hpRows
  | 0x07 => stRows
  | 0x08 => ringPlRows
  | 0x10 | 0x11 | 0x12 | 0x13 | 0x14 | 0x15 | 0x16 | 0x17 => brdRows
  | 0x18 => senRows
  | 0x19 => grdRows
  | 0x1A => pbRows
  | 0x20 => keyRows
  | 0x21 => fltRows
  | 0x22 => logRows
  | 0x23 => updRows
  | 0x24 => pwrRows
  | 0x25 => svcRows
  | 0x26 => islRows
  | 0x27 => reamRows
  | _ => []

/-- Whether a row holds the register at local address a. -/
def RegRow.holds (r : RegRow) (a : Nat) : Bool :=
  let d := a - r.base
  decide (r.base ≤ a) && decide (d / r.s1 < r.n1 ∨ r.n1 = 1) &&
    (let d1 := if r.n1 = 1 then d else d % r.s1
     let d2 := if r.n2 = 1 then d1 else d1 % r.s2
     decide (d1 / r.s2 < r.n2 ∨ r.n2 = 1) &&
       (if r.n3 = 1 then decide (d2 = 0) else decide (d2 / r.s3 < r.n3 ∧ d2 % r.s3 = 0)))

/-- The row of the register at a local address, if a page table lists one there (R82, R83). -/
def regRow (a : Nat) : Option RegRow := (pageRows (a / 0x10000)).find? (fun r => r.holds a)

end Sys2Proof.Machine
end

