-- ==== Sys2Proof/Machine/Sparse.lean ====
section
/-! DEFINITION. Tables in one canonical form: a list of (key, value) pairs with strictly rising keys and no entry equal
to what an unlisted key reads as. The register file, the unit records, the memories and the per-unit tables are held so,
so that equal contents are equal data. -/

namespace Sys2Proof.Machine

/-- What the table reads at key k: the first entry with that key, or the default d k. -/
def Sparse.get {α : Type} (d : Nat → α) : List (Nat × α) → Nat → α
  | [], k => d k
  | e :: t, k => if e.1 = k then e.2 else Sparse.get d t k

/-- The table without any entry of key k. -/
def Sparse.del {α : Type} (m : List (Nat × α)) (k : Nat) : List (Nat × α) :=
  m.filter (fun e => e.1 != k)

/-- Entry (k, v) placed before the first larger key, in a table without key k. -/
def Sparse.ins {α : Type} (k : Nat) (v : α) : List (Nat × α) → List (Nat × α)
  | [] => [(k, v)]
  | e :: t => if k < e.1 then (k, v) :: e :: t else e :: Sparse.ins k v t

/-- Writing v at key k; writing the default removes the entry. -/
def Sparse.put {α : Type} [DecidableEq α] (d : Nat → α) (m : List (Nat × α)) (k : Nat) (v : α) : List (Nat × α) :=
  if v = d k then Sparse.del m k else Sparse.ins k v (Sparse.del m k)

/-- Whether the keys of m rise strictly from a key not below b. -/
def Sparse.rising {α : Type} : Nat → List (Nat × α) → Bool
  | _, [] => true
  | b, e :: t => decide (b ≤ e.1) && Sparse.rising (e.1 + 1) t

/-- The canonical form: keys strictly rising, no entry at its default. -/
def Sparse.wf {α : Type} [DecidableEq α] (d : Nat → α) (m : List (Nat × α)) : Bool :=
  Sparse.rising 0 m && m.all (fun e => decide (e.2 ≠ d e.1))

/-- An association list over keys of any type: what it holds for key k. -/
def Assoc.get {κ α : Type} [DecidableEq κ] : List (κ × α) → κ → Option α
  | [], _ => none
  | e :: t, k => if e.1 = k then some e.2 else Assoc.get t k

/-- The association list without key k. -/
def Assoc.del {κ α : Type} [DecidableEq κ] (m : List (κ × α)) (k : κ) : List (κ × α) :=
  m.filter (fun e => !decide (e.1 = k))

/-- The association list with k bound to v. -/
def Assoc.put {κ α : Type} [DecidableEq κ] (m : List (κ × α)) (k : κ) (v : α) : List (κ × α) :=
  (k, v) :: Assoc.del m k

end Sys2Proof.Machine
end

