-- ==== Sys2Proof/Machine/State.lean ====
section
/-! DEFINITION. The state of the hub as plain data. Every register of the page tables stands in ONE register file
(`regs`), a canonical table over local addresses whose unlisted entries read as their reset values; a status that a
register shows is held there and nowhere else. What the spec gives the hub beside its registers (the counter, stores,
queues, windows, timers, levels of pins) stands in the structures of this file, block by block. -/

namespace Sys2Proof.Machine

/-- The hub never stops with a fault: every command of the table has an effect that the spec describes. -/
inductive Fault where
deriving DecidableEq, Repr

/-- Why a command has no meaning in the model. -/
inductive Refusal where
  /-- Raised by the dispatcher for a command that has no meaning yet; safe, since the model then says nothing. -/
  | notModelled (mnemonic : String)
deriving DecidableEq, Repr

/-! ### Reset values of the register file -/

/-- The reset value of FLT_SRCn_CFG (Table 14.7): C0P at 31, N at 23:16, CEIL at 14:12, BASE at 10:8, REACT at 4:0. -/
def FaultRow.cfg (r : FaultRow) : Nat :=
  (if r.c0p then 0x80000000 else 0) + 0x10000 * r.n + 0x1000 * r.ceil + 0x100 * r.base + r.react

/-- The reset value of register 0x210000 + 0x1000 + 0x10n + 4k of the fault collector (Table 14.5). -/
def faultSrcReset (n k : Nat) : Nat :=
  match faultRow n with
  | none => 0
  | some r => if k = 0 then r.cfg else if k = 1 then r.w else if k = 2 then r.base else 0

/-- The reset value of the register at a local address: its page table's value; per index where the table says so
(BRD_EWIN 0x3F40_0000 + 64e, Table 08.9; FLT_CLASSCFG0-4 and FLT_SRCn_*, Tables 14.1 and 14.5; the fixed HP_WIN_CTL of window 0,
R222); 0 for an address that
no table lists. -/
def regReset (a : Nat) : Word :=
  if 0x211000 ≤ a ∧ a < 0x211800 then BitVec.ofNat 32 (faultSrcReset ((a - 0x211000) / 16) ((a - 0x211000) % 16 / 4))
  else if 0x210010 ≤ a ∧ a ≤ 0x210020 then
    BitVec.ofNat 32 ([0x00, 0x01, 0x11, 0x13, 0x13].getD ((a - 0x210010) / 4) 0)
  else if a = 0x060100 then 0x80000018#32
  else match regRow a with
    | none => 0#32
    | some r =>
      if r.base = 0x101000 then BitVec.ofNat 32 (r.reset + 64 * ((a % 0x1000) / 0x100))
      else BitVec.ofNat 32 r.reset

/-! ### Timers -/

/-- The timers of the hub's blocks, each named by what it ends. -/
inductive Timer where
  | audit | incsat | fresh | holdover | announce | announceHeard (ring hub : Nat) | syncPath | dreq (l : Nat)
  | ppsLoss | ppsEnd | command (u : Nat)
  | budget | kr (l : Nat) | blockLock (l : Nat) | tLock (l : Nat) | tNeg (l : Nat) | resend (l : Nat)
  | holddown (l : Nat) | refused (l : Nat) | errWindow (l : Nat) | eqsat (l : Nat)
  | censusSilence (r : Nat) | censusPass (r : Nat) | censusRetry (r : Nat) | commitRepeat (r : Nat)
  | reservation (r n : Nat) | incarnNext | startGuard | dd (key : Nat) | tether | path (p : Nat) | pathClear (p : Nat)
  | unpaired | peerLow | fReady | swapDeadline | swapWait | swapT
  | flushInterval | mergedFlush | identity | keyScrub
  | tag (t : Nat) | tagFree (t : Nat) | tagsBoot | busy (t : Nat) | held (id : Nat) | fence (id : Nat) | perst
  | engStall (n : Nat) | edgeGap (line : Nat) | siref (g : Nat) | threshold (g : Nat) | senFirst (g : Nat)
  | debounce (n : Nat) | chatter (g : Nat) | sensat (g : Nat) | minon (n : Nat) | maxon (n : Nat) | rbSettle (n : Nat)
  | groupReset (g : Nat) | errn | classFall (n : Nat) | reset | stDefer | stEnd | histogram | trial | stagedReset
  | adc | pins | rev (b : Bool) | insertion | ramp | rampOn | tflt | offTime | retryReset | foldsat | thermal
  | railTimeout | seqRetry | resequence | clrHold | egrst | powerStep
  | drp | sender | capWait | recovery | sinkRequest | psTransition
deriving DecidableEq, Repr

/-! ### Units, crossings -/

/-- A unit's authority (R21): EPOCH, DETAIL and STATE of Table 01.4. KIND is the unit's own. -/
structure UnitRec where
  epoch : BitVec 8
  detail : BitVec 12
  state : UState
deriving DecidableEq, Repr

/-- A unit in reset: EPOCH 1, DETAIL 0, STATE RESET (Table 01.4). -/
def UnitRec.reset : UnitRec := ⟨1#8, 0#12, .reset⟩

/-- What an EVENT crossing holds for one source and has not handed over (R297): COUNT, FIRST, LAST, and what the events
tell. -/
structure FaultXfer where
  count : Nat
  first : Stamp
  last : Stamp
  inj : Bool
  info : FaultInfo
deriving DecidableEq, Repr

/-- What waits in MGMT for a crossing that is in RESET or RESYNC (R248, R298): a register write, or a command with its CMD, ARG and
EXPECT. -/
inductive XEntry where
  | write (a : Nat) (v : Word)
  | command (u : UnitId) (cmd arg : Nat) (expect : BitVec 8)
deriving DecidableEq, Repr

/-- What the hub itself has put into a register in the present TIME tick (R13): the word that a read in that tick returns of an
RC register, the RW1C bits set, and the events counted. -/
structure CycleRec where
  before : Word
  bits : Word
  events : Nat
deriving DecidableEq, Repr

/-! ### The time base -/

/-- A horizon change of one class (R73): the switch stamp, the horizon in force before it and the new one, in ns;
armed until the switch stamp has passed on the hub's counter. -/
structure HorizonChange where
  at_ : Stamp
  old : Nat
  new : Nat
  armed : Bool
deriving DecidableEq, Repr

/-- An event held in the release stage (R68): its reference, release time, whether it is late, whether it has been
handed to its timed consumers, and whether a jump made it due (R49). -/
structure Pending where
  ev : EventRef
  release : Stamp
  handed : Bool
  due : Bool
deriving DecidableEq, Repr

/-- The TIME island's state beside its registers; forced holds the frames whose consumers act on receipt: those that a jump
made due (R49) and those passed on at once with less than 16 ns left (R68); served the tick of the latest delivery to queue
consumers, by the model's clock, and the events delivered in it (R70); syncAt the counter's reading at which the next SYNC is due
(R57); opened its reading when the release stage opened (R259). -/
structure TimeBase where
  sec : BitVec 48
  ns : BitVec 32
  frac : BitVec 40
  inc : BitVec 48
  incNext : Option (BitVec 48)
  incSatHeld : Bool
  slew : Option Nat
  changes : List (Nat × List HorizonChange)
  store : List Pending
  announces : List Announce
  syncHeard : List (Nat × Nat)
  delays : List (Nat × List Int)
  dreqSent : List (Nat × Stamp)
  frameCount : List (Nat × BitVec 16)
  ppsEdge : Option Stamp
  ppsGood : Nat
  ppsOut : Option Bool
  ptp : Bool
  forced : List Nat
  served : Nat × Nat
  syncAt : Option Stamp
  opened : Stamp
deriving DecidableEq, Repr

/-- Right after a chip reset the counter reads 0 s, 0 ns and TIME_INC is 2.5 ns (R45). -/
def TimeBase.reset : TimeBase where
  sec := 0
  ns := 0
  frac := 0
  inc := 0x028000000000#48
  incNext := none
  incSatHeld := false
  slew := none
  changes := []
  store := []
  announces := []
  syncHeard := []
  delays := []
  dreqSent := []
  frameCount := []
  ppsEdge := none
  ppsGood := 0
  ppsOut := none
  ptp := false
  forced := []
  served := (0, 0)
  syncAt := none
  opened := 0

/-! ### Ring lanes -/

/-- The reception of one frame on a lane after its header passed R111 (R112, R113): its number in the ingress buffer (R162), its header, whether it is consumed, whether
a bridge sends it into its other ring (R136, R187), whether it is forwarded, and whether its local copies were offered as
it arrived. -/
structure RxFrame where
  num : Nat
  hdr : Header
  consume : Bool
  inject : Bool
  forward : Bool
  early : Bool
deriving DecidableEq, Repr

/-- A ring lane beside its registers (R98 to R119); berFrom and berCount are the BER monitor's present window and the invalid sync
headers in it (R116). -/
structure LaneRec where
  txdis : Bool
  kr : Bool
  offer : Option LinkOffer
  ownVer : Nat × Nat
  held : Option LinkAccept
  errs : Nat
  rx : Option RxFrame
  fir : Nat × Nat × Nat
  eqHeld : Bool
  lastPartner : Option (BitVec 64)
  unnumberedRounds : Nat
  berFrom : Nat
  berCount : Nat
deriving DecidableEq, Repr

/-- A lane out of reset: OFF, TXDIS high (R100). -/
def LaneRec.reset : LaneRec := ⟨true, false, none, (0, 0), none, 0, none, (0, 48, 8), false, none, 0, 0, 0⟩

/-! ### Membership, redundancy, pair -/

/-- The claim of a census round (R126). -/
inductive Claim where
  | none | fixed (n : Nat) | remembered (n : Nat) | refused
deriving DecidableEq, Repr

/-- The passes of a round that this hub originates (R126). -/
inductive Pass where
  | roll | assign | commit
deriving DecidableEq, Repr

/-- Membership of one ring (R121 to R129): the newest ROLL by round and candidate, the passes visited in it, the claim,
the number chosen (0 none) and whether it was chosen in this round, the pass this hub has under way, restarts in a row,
the last COMMIT it originated, the serial number of the manager, whether this hub is manager on ring B (MBR_MGR shows it
for ring A), the reservation table of R129, USED of the last COMMIT adopted, a number whose identity record is still to be
written before it is adopted (R129), and whether the round last adopted has yet to be seen complete (R148). -/
structure RingMember where
  newest : Option (BitVec 16 × BitVec 64)
  visited : List Pass
  claim : Claim
  chosen : Nat
  originating : Option Pass
  restarts : Nat
  lastCommit : Option Census
  mgrSerial : Option (BitVec 64)
  mgrB : Bool
  reserved : List Nat
  used : BitVec 128
  adopting : Option (Census × Nat)
  roundOpen : Bool
deriving DecidableEq, Repr

/-- No round seen. -/
def RingMember.reset : RingMember := ⟨none, [], .none, 0, none, 0, none, none, false, [], 0, none, false⟩

/-- A duplicate-discard entry (R134): TOP and the window W. -/
structure DDEntry where
  top : BitVec 16
  window : BitVec 64
deriving DecidableEq, Repr

/-- One path that tethers watch (R139): whether beats are due on it, the instant of the last good beat and of the first
beat of the present unbroken run, in the model's clock, and the SEQ of the last beat heard and sent. -/
structure PathRec where
  watched : Bool
  lastBeat : Nat
  runStart : Option Nat
  heardSeq : BitVec 16
  sentSeq : BitVec 16
deriving DecidableEq, Repr

/-- A path that carries nothing yet. -/
def PathRec.reset : PathRec := ⟨false, 0, none, 0, 0⟩

/-- The mirror pair beside its registers (R141 to R146): the last beat of the partner, the handover stamp, which path
kinds have brought READY, COMMIT and COMMITTED for the present swap, the lead pins. -/
structure PairRec where
  partner : Option PartnerBeat
  t : Stamp
  readyPl : Bool
  readyRing : Bool
  commitPl : Bool
  commitRing : Bool
  committedPl : Bool
  committedRing : Bool
  lead : Option Bool
  peer : Bool
  peerLowLong : Bool
  tReached : Bool
  refused : Bool
deriving DecidableEq, Repr

/-- UNPAIRED, PAIR_LEAD high-impedance (R143). -/
def PairRec.reset : PairRec :=
  ⟨none, 0, false, false, false, false, false, false, none, false, false, false, false⟩

/-! ### The switch core -/

/-- Where a copy waits (R155, R156): in its VOQ, in the store of the release stage, in a consumer queue, or handed over
to timed consumers ahead of every other frame of its output. -/
inductive Wait where
  | voq | release | consumer | timed
deriving DecidableEq, Repr

/-- One copy of a frame in the vat (R160): its number in writing order, the number of its frame, input, output, class,
frame, cells in order, whether its last beat has been written, the lane whose reception it follows, whether it is being
sent, where it waits, LATE (R71), its release time once it has left the store or been handed over (R67), whether it is in transit; for a tail sample the sampled output and the length before
truncation; for a copy to CY the outputs of the frame to be tagged, or the reception of a frame whose tag is to be checked (R160). -/
structure QCopy where
  id : Nat
  fid : Nat
  inp : Nat
  outp : Nat
  cls : Nat
  frame : Frame
  cells : List Nat
  whole : Bool
  rx : Option Nat
  sending : Bool
  wait : Wait
  late : Bool
  due : Stamp
  transit : Bool
  mirror : Bool
  sampled : Nat
  origLen : Nat
  next : List Nat
  check : Option RxFrame
deriving DecidableEq, Repr

/-- A frame that an input offers to the core: its number, the number by which the ingress buffer holds it, which the offers of one
received frame share (R162), the outputs its copies go to, in ascending order (R160); whether it is
in transit (R157), whether its local copies wait for release (R156), the lane whose reception it follows while it is not
whole; hold, which says that a copy has found no room and waits in its block (R163); and for a frame whose tag CY is to check, its
reception (R160). -/
structure Offered where
  fid : Nat
  num : Nat
  inp : Nat
  frame : Frame
  outs : List Nat
  transit : Bool
  release : Bool
  rx : Option Nat
  hold : Bool
  check : Option RxFrame
deriving DecidableEq, Repr

/-- The scheduler of one output (R167, R168, R176): the input last served per class, the class whose turn it is and the
frames left of the turn, the copy being sent with the instant it started, the instant from which R168 counts and the time
counted, the frames begun per class, and a tail sample that waits for a spare write slot, with the instant at which it was due. -/
structure OutSched where
  lastInput : List (Nat × Nat)
  turn : Nat
  left : Nat
  sending : Option (Nat × Nat)
  lowFrom : Nat
  spent : Nat
  begun : List (Nat × Nat)
  sample : Option (QCopy × Nat)
deriving DecidableEq, Repr

/-- Nothing sent yet. -/
def OutSched.reset : OutSched := ⟨[], 3, 0, none, 0, 0, [], none⟩

/-- The switch core beside its registers: frames offered, copies, the order of the consumer queues and of hand-overs,
cells in use and retired (sorted), the octets of the vat and the wrong bits that its 64-bit words hold (R151 to R153; the model's own
field, log 137), numbers of the next copy and frame, output schedulers, the
windows of the host queues, frames lost since the last VALID pop, octets metered, and whether FREE is below LOWWAT. -/
structure Switch where
  offered : List Offered
  copies : List QCopy
  queues : List (Nat × List Nat)
  used : List Nat
  retired : List Nat
  vat : List Host.Cell
  flips : List (Nat × BitVec 64)
  nextId : Nat
  nextFid : Nat
  sched : List (Nat × OutSched)
  windows : List (Nat × QCopy)
  lost : List (Nat × Nat)
  meters : List (Nat × Nat)
  low : Bool
deriving DecidableEq, Repr

/-- An empty core: every cell free. -/
def Switch.reset : Switch := ⟨[], [], [], [], [], [], [], 0, 0, [], [], [], [], false⟩

/-! ### Transactions and the host port -/

/-- A request that waits in HP or MC (R189): whose it is, its world, its fabric address, and the PCIe read it is part
of. -/
structure WaitReq where
  mc : Bool
  world : Bool
  addr : BitVec 48
  kind : XKindReq
  hostId : Nat
deriving DecidableEq, Repr

/-- A request under way (R189 to R192): its tag, what was asked, the reserved completion space, its issues after BUSY, and the frame
as sent. -/
structure Outstanding where
  tag : Nat
  req : WaitReq
  space : Nat
  tries : Nat
  frame : Frame
deriving DecidableEq, Repr

/-- A request at its completer that is held by the fence (R196), or that waits there for room in the outbound non-posted buffer: its
number, port of entry and frame, and whether its wait at the fence has run out. -/
structure Held where
  id : Nat
  inp : Nat
  frame : Frame
  late : Bool
deriving DecidableEq, Repr

/-- The content of a notice (R202, Table 07.7): cause and address, STREAM, SEQ, WORLD, LEN and STAMP of the failed write, and the switch
port that it was for. -/
structure Notice where
  cause : Nat
  addr : BitVec 48
  stream : BitVec 16
  seq : BitVec 16
  world : Bool
  port : BitVec 8
  len : BitVec 16
  stamp : BitVec 80
deriving DecidableEq, Repr

/-- Transactions beside the XB_ registers: requests waiting and under way, tags out of use, learned distances per (ring,
hub, lane) with their instant (R185), the lane last used per (stream, ring, hub), the SEQ of the last posted write sent
per (stream, ring, hub) and performed per (ring, hub, stream) with its instant (R196), requests held, the notice window, the notice queue and the doorbell queue. -/
structure Xact where
  waiting : List WaitReq
  out : List Outstanding
  quarantine : List Nat
  allQuarantined : Bool
  routes : List (Nat × Nat × Nat)
  lastLane : List (Nat × Nat)
  sentPw : List (Nat × BitVec 16)
  donePw : List (Nat × BitVec 16 × Nat)
  held : List Held
  nextHeld : Nat
  noteFrom : Nat
  noteCount : Nat
  pfq : List Notice
  pfqLost : Nat
  doorbells : List Word
deriving DecidableEq, Repr

/-- After a chip reset every tag is out of use (R192). -/
def Xact.reset : Xact := ⟨[], [], [], true, [], [], [], [], [], 0, 0, 0, [], 0, []⟩

/-- An entry of the outbound posted buffer (Table 07.5, R210): the octets of a write to host memory, by PCIe address, with the
port of entry and the fabric frame that brought them and, for a WRITE_NP, the number of the request that it answers; an MSI-X write; or the
place of a posted write that was performed elsewhere behind writes of its source (R195, R196). -/
inductive PostedOut where
  | write (pieces : List (Nat × List Byte)) (inp : Nat) (frame : Frame) (answers : Option Nat)
  | msix (vec : Nat)
  | mark (hdr : Header)
deriving DecidableEq, Repr

/-- A request of the outbound non-posted buffer (Table 07.5): its number, its port of entry, its window's PCIe address for the request's first
octet, its length, data-invariant lanes, whether it has gone to the root complex, and the fabric frame. -/
structure NpOut where
  id : Nat
  inp : Nat
  addr : Nat
  len : Nat
  di : Bool
  sent : Bool
  frame : Frame
deriving DecidableEq, Repr

/-- A host read that is being answered (R208): its number, the fabric address of its first octet as an address-invariant window
maps it, its length, data-invariant lanes, the parts still to come, those that came, by address, and the first status that was not SC. -/
structure HostRead where
  id : Nat
  base : Nat
  len : Nat
  di : Bool
  left : Nat
  parts : List (Nat × List Byte)
  status : Nat
deriving DecidableEq, Repr

/-- The host port beside the HP_ registers (R204 to R210): whether the host sheet is applied, AtomicOp Requester Enable,
D3hot, the PCIe sizes as the host set them, the function mask, the MSI-X table and pending bits, the outbound buffers, host reads
under way, the uncorrectable and correctable error status of AER. -/
structure HostPort where
  sheet : Bool
  atomicEn : Bool
  d3 : Bool
  maxPayload : Nat
  maxRead : Nat
  funcMask : Bool
  msix : List (Nat × Word)
  msixPending : List Nat
  posted : List PostedOut
  nps : List NpOut
  reads : List HostRead
  nextRead : Nat
  aer : Word × Word
deriving DecidableEq, Repr

/-- Before the host sheet is applied. -/
def HostPort.reset : HostPort := ⟨false, false, false, 128, 512, false, [], [], [], [], [], 1, (0, 0)⟩

/-- A station port beside its registers (R214 to R218): the transmit stamps queued with
message type and sequence number. -/
structure StationRec where
  stamps : List (Nat × Nat × Stamp)
deriving DecidableEq, Repr

/-- No stamp queued. -/
def StationRec.reset : StationRec := ⟨[]⟩

/-! ### Bridle engines -/

/-- An engine beside its registers (R228 to R242): OSR and ISR with their counts, SR, the two edge registers with NEW, the
TX and RX queues, the frame former's open buffer, whether a waiting IRQ has set its flag, the model's clock at step 0 and
the number of the step at which the next instruction begins. -/
structure EngineRec where
  osr : Word
  osrCount : Nat
  isr : Word
  isrCount : Nat
  sr : Stamp
  rise : Stamp × Bool
  fall : Stamp × Bool
  tx : List Word
  rx : List Word
  buffer : List Word
  irqWait : Bool
  started : Nat
  step : Nat
deriving DecidableEq, Repr

/-- Registers, queues and edge registers cleared (Table 08.5). -/
def EngineRec.reset : EngineRec := ⟨0, 0, 0, 0, 0, (0, false), (0, false), [], [], [], false, 0, 0⟩

/-- A line beside its registers (R238, R239): the level last reported, the latest edge while the gap runs, and the edges
that produced no event. -/
structure LineRec where
  reported : Bool
  latest : Option (Stamp × Bool)
  missed : Nat
deriving DecidableEq, Repr

/-- A line that has reported nothing. -/
def LineRec.reset : LineRec := ⟨false, none, 0⟩

/-! ### Sensed inputs and guarded outputs -/

/-- A sensed-input group beside its registers (R252 to R260): the latest 16 SIREFg samples, newest first, the instant of
entry to RUN, the lines whose INIT event is still to be sent, and whether FLT_SENSAT has been raised and not released. -/
structure GroupRec where
  samples : List Nat
  runAt : Stamp
  initLeft : List Nat
  satHeld : Bool
deriving DecidableEq, Repr

/-- A group that samples nothing. -/
def GroupRec.reset : GroupRec := ⟨[], 0, [], false⟩

/-- A sensed line beside its registers (R256 to R259): the comparator output, the stamp of the transition that began its
present interval, the start stamp of the last accepted change, the first debounce end since RUN, accepted changes in
the chatter window, those that produced no event, and whether the present window began in chatter. -/
structure SenseRec where
  comp : Bool
  since : Stamp
  lastStart : Stamp
  firstEnd : Option Stamp
  changes : Nat
  missed : Nat
  whole : Bool
deriving DecidableEq, Repr

/-- A line low. -/
def SenseRec.reset : SenseRec := ⟨false, 0, 0, none, 0, 0, false⟩

/-- A guarded channel beside its registers (R261 to R268): the last released level of the ARM source, and of the FIRE
source as EVB and as EVA track it, none before the first, whether a level 0 waits for MINON, and the readback comparator's output before
RBPOL (R266). -/
structure GuardRec where
  arm : Option Bool
  fire : Option Bool
  fireA : Option Bool
  lowWaits : Bool
  rb : Bool
deriving DecidableEq, Repr

/-- No level released. -/
def GuardRec.reset : GuardRec := ⟨none, none, none, false, false⟩

/-! ### Priority buses -/

/-- The states of a bus controller (Table 10.3). -/
inductive BusState where
  | off | integrate | run | busoff | recover | sleep
deriving DecidableEq, Repr

/-- An entry of a spool or timed list (R275, R276): its number, the frame, ONESHOT, the instant at which it is to start where it has one
that has not been missed (R280), and the instant of entry in the model's clock. -/
structure BusEntry where
  id : Nat
  frame : BusFrame
  oneShot : Bool
  at_ : Option Stamp
  entered : Nat
deriving DecidableEq, Repr

/-- A bus controller beside its registers (R273 to R290): its state, whether SLEEP waits for an idle bus, spool and timed
list, whether its head is being sent, whether an ABORT waits for the attempt's end, consecutive ACK errors, the number of the
next entry, and since when the fence withholds transmission. -/
structure BusRec where
  st : BusState
  sleepWaits : Bool
  spool : List BusEntry
  timed : List (Stamp × BusEntry)
  sending : Bool
  abortWaits : Bool
  alone : Nat
  nextId : Nat
  fencedAt : Option Nat
deriving DecidableEq, Repr

/-- A controller in OFF with nothing spooled. -/
def BusRec.reset : BusRec := ⟨.off, false, [], [], false, false, 0, 0, none⟩

/-- A frame that a local block has taken from its output and not yet performed (R69, R156, R181, R218): the output, the
number of the frame, the frame, LATE, its release time, whether EVA and EVB have applied it, and the port by which it came. -/
structure Act where
  port : Nat
  fid : Nat
  frame : Frame
  late : Bool
  due : Stamp
  eva : Bool
  evb : Bool
  inp : Nat
deriving DecidableEq, Repr

/-! ### The watermark log -/

/-- A journal record before it has a SEQ (R377). -/
structure JRecord where
  typ : Nat
  arg : Nat
  secs : Nat
  stamp : BitVec 80
  data : Nat
deriving DecidableEq, Repr

/-- What an identity copy holds (Table 15.1): the hub numbers of both rings with their rings, the incarnation, the
reservation tables, CLEAN, the owed cool-down in ms with TJ (0.1 C) and TRIPSEQ (R412), and FLT_RESETLOOP's class and window
(R350). -/
structure Identity where
  hubA : Nat
  ringA : Nat
  hubB : Nat
  ringB : Nat
  incarn : Nat
  resvA : List Nat
  resvB : List Nat
  clean : Bool
  coolMs : Nat
  coolTj : Int
  tripSeq : Nat
  loopCur : Nat
  loopCount : Nat
deriving DecidableEq, Repr

/-- An identity nothing has written. -/
def Identity.zero : Identity := ⟨0, 0, 0, 0, 0, [], [], false, 0, 0, 0, 0, 0⟩

/-- Why a flush was ordered (R373). -/
inductive FlushWhy where
  | interval | command | warning | reset | nmi
deriving DecidableEq, Repr

/-- A flush in progress (R372): why, the snapshot of counters and histogram bins, its frame stamp (0 while UNLOCKED), the copy it
writes (B or A), and whether it is the repetition. -/
structure Flush where
  why : List FlushWhy
  totals : List (Nat × Nat)
  hist : List (Nat × Nat)
  stamp : BitVec 80
  toB : Bool
  again : Bool
deriving DecidableEq, Repr

/-- The watermark log and the AON island's working totals (R370 to R382). -/
structure Log where
  totals : List (Nat × Nat)
  hist : List (Nat × Nat)
  mem : List Host.Cell
  idA : Identity × Nat × Nat
  idB : Identity × Nat × Nat
  ident : Identity
  identOwed : Bool
  buffer : List JRecord
  jStart : Nat
  jCount : Nat
  flush : Option Flush
  flushLast : Option Nat
  merged : List FlushWhy
  rollup : Option Flush
  commitAt : Nat
  committed : Bool
deriving DecidableEq, Repr

/-- A log memory as it leaves manufacture, without any copy written. -/
def Log.reset : Log where
  totals := []
  hist := []
  mem := []
  idA := (Identity.zero, 0, 0)
  idB := (Identity.zero, 0, 0)
  ident := Identity.zero
  identOwed := false
  buffer := []
  jStart := 0
  jCount := 0
  flush := none
  flushLast := none
  merged := []
  rollup := none
  commitAt := 0
  committed := false

/-! ### The fault collector -/

/-- What the collector holds of a source beside its registers (R350, R351, R358): the start of its open window, none where
none is open, its WCOUNT, the instant of its last event, rise or fall, and whether its last event included INT. -/
structure FltSrc where
  wstart : Option Nat
  wcount : Nat
  last : Nat
  int : Bool
deriving DecidableEq, Repr

/-- A source that had no event. -/
def FltSrc.reset : FltSrc := ⟨none, 0, 0, false⟩

/-- A record of the record queue (R357, R355). -/
structure FltRecord where
  src : Nat
  cls : Nat
  count : Nat
  first : Stamp
  last : Stamp
  inj : Bool
  info : FaultInfo
  noBlk : Bool
deriving DecidableEq, Repr

/-- The collector beside its registers: sources, the record queue, oldest first, and the records lost since the last VALID
pop, the instant at which ALIVE last stopped, and the tick in which it last toggled. -/
structure Collector where
  srcs : List (Nat × FltSrc)
  records : List FltRecord
  lost : Nat
  failAt : Nat
  toggled : Option Nat
deriving DecidableEq, Repr

/-- No event yet. -/
def Collector.reset : Collector := ⟨[], [], 0, 0, none⟩

/-! ### The flash and the update state -/

/-- The update state in its two copies (R389, Table 16.3): state, session ID and LEN, the couch's step, the confirm window,
release (major, minor) and SVN of the old and new image, and the running release's patch level. -/
structure UpdState where
  state : Nat
  session : Option (BitVec 64 × Nat)
  step : Nat
  sectors : Nat
  window : Nat
  oldRel : Nat × Nat
  newRel : Nat × Nat
  newSvn : Nat
deriving DecidableEq, Repr

/-- IDLE, no session. -/
def UpdState.reset : UpdState := ⟨0, none, 0, 0, 10, (0, 0), (0, 0), 0⟩

/-- A settings store (R394): its settings format and GEN. -/
structure Settings where
  major : Nat
  minor : Nat
  gen : Nat
deriving DecidableEq, Repr

/-- A flash request of the management API that DEFER makes wait (R423), or a fuse blow; ok tells whether the flash takes it. -/
inductive FlashReq where
  | ream (image : List Byte) (reset : Bool)
  | start (id : BitVec 64) (len : Nat) (force : Bool)
  | chunk (id : BitVec 64) (index : Nat) (crc : Word) (data : List Byte) (ok : Bool)
  | commit (id : BitVec 64) (reset : Bool)
  | abort
  | confirm
  | otk (key : BitVec 256) (okFirst okSecond : Bool)
  | fuse (set : Nat) (digest : Option (BitVec 384))
deriving DecidableEq, Repr

/-- The configuration flash and what the boot ROM and Ploia do with it (R306, R307, R318, R389, R394, R395): its octets, the
update state, the settings stores and the one in force, the fuses blown of the security version, whether the factory fuse is
intact, whether an image has started (or recovery been entered) since the last chip reset, whether the flash is refused (R306),
the ream write under way (image, slot, whether it asks for a reset), and the requests that wait for DEFER to clear, with
who asked and the instant at which each arrived. -/
structure Flash where
  mem : List Host.Cell
  upd : UpdState
  storeA : Option Settings
  storeB : Option Settings
  useB : Bool
  fused : Nat
  intact : Bool
  booted : Bool
  refused : Bool
  write : Option (List Byte × Nat × Bool)
  waits : List (FlashReq × Req × Nat)
deriving DecidableEq, Repr

/-- An erased flash; no security-version fuse blown. -/
def Flash.reset : Flash := ⟨[], UpdState.reset, none, none, false, 0, false, false, false, none, []⟩

/-! ### The always-on island -/

/-- Supplies and resets beside their registers (R417 to R431): whether the AON island runs, whether chip reset is held, since
when and of which kind, the orderly or fault reset that is ordered and whether its flush has committed, RESET_N low, the
enables driven high, whether they are being dropped, the instant of power-good, the start and last recrossing of a warning,
the grave latch's source, REAM_STATUS as latched for the service port (R446); the
die sensor's reading (0.1 C) and whether it has not fallen below 115 C since it rose through 120 C (R465). -/
structure Aon where
  up : Bool
  held : Bool
  heldAt : Nat
  kind : Nat
  order : Option Nat
  flushed : Bool
  pinLow : Bool
  rails : Nat
  dropping : Bool
  goodAt : Option Nat
  warnFrom : Nat
  recross : Nat
  grave : Option Nat
  reamLatch : Word
  dieTemp : Int
  dieHot : Bool
deriving DecidableEq, Repr

/-- The AON island before its start. -/
def Aon.reset : Aon := ⟨false, false, 0, 0, none, false, false, 0, false, none, 0, 0, none, 0, 0, false⟩

/-- The power entry beside its registers (R399 to R415): the comparators' view of the window, samples in a row below UV_R,
OV_R's view, whether the gates are driven, the model's d1 and d2 in 10^-12 K and TREF in 0.1 C, VSNS (uV), its peak, VDS (mV),
the stress time (us), and whether FLT_FOLDSAT stands. -/
structure Entry where
  uvOk : Bool
  ovOk : Bool
  uvLow : Nat
  uvR : Bool
  ovR : Bool
  gateA : Bool
  gateB : Bool
  d1 : Int
  d2 : Int
  tref : Int
  vsns : Nat
  peak : Nat
  vds : Nat
  stress : Nat
  foldHeld : Bool
deriving DecidableEq, Repr

/-- Everything off; TREF at TAMB's reset value. -/
def Entry.reset : Entry := ⟨false, false, 0, false, false, false, false, 0, 0, 850, 0, 0, 0, 0, false⟩

/-- What the policy engine of the service port waits for (R440): the Request that its Source_Capabilities ask for, the answer to
a Request, the Accept of a Soft_Reset. -/
inductive SvcWait where
  | caps | answer | soft
deriving DecidableEq, Repr

/-- The service port beside its registers (R435 to R447): whether it presents Rp in the toggle, what it waits for, Hard_Resets
since an explicit contract, Waits in a row, the Request under way (PDO position, current, voltage, mismatch), the firmware
command that waits for a sequence's end, SVC_SRCEN, SVC_SNKEN, whether a management request is unanswered, and the open
management sessions with their versions (R38). -/
structure SvcPort where
  rp : Bool
  wait : Option SvcWait
  hard : Nat
  waits : Nat
  request : Option (Nat × Nat × Nat × Bool)
  todo : Option Nat
  srcen : Bool
  snken : Bool
  busy : Bool
  sessions : List (Origin × (Nat × Nat))
deriving DecidableEq, Repr

/-- Unattached. -/
def SvcPort.reset : SvcPort := ⟨false, none, 0, 0, none, none, false, false, false, []⟩

/-! ### Keys -/

/-- A PUF helper copy (Table 13.1) as the boot ROM judges it: whether MAGIC, CRC and root check hold, GEN, and the sealed
OTK with its check where one is present. -/
structure PufCopy where
  valid : Bool
  gen : Nat
  otk : Option (BitVec 256 × BitVec 64)
deriving DecidableEq, Repr

/-- An owner-key fuse set (R332): the digest where it is blown, and whether its revoke fuse is blown. -/
structure OwnerFuse where
  digest : Option (BitVec 384)
  revoked : Bool
deriving DecidableEq, Repr

/-- The key block beside its registers (R328 to R346): the root and KTAG while they exist, the keys and integrity tags of the slots that
are not EMPTY, the helper copies in flash, the owner fuses. -/
structure KeyStore where
  root : Option (BitVec 256)
  ktag : BitVec 256
  keys : List (Nat × BitVec 256)
  tags : List (Nat × BitVec 64)
  pufA : PufCopy
  pufB : PufCopy
  fuses : List OwnerFuse
deriving DecidableEq, Repr

/-- Before the boot ROM runs: no root; both helper copies as manufactured, without an OTK; no owner fuse blown (log 11). -/
def KeyStore.reset : KeyStore :=
  ⟨none, 0, [], [], ⟨true, 1, none⟩, ⟨true, 1, none⟩, List.replicate 4 ⟨none, false⟩⟩

/-! ### Self-tests -/

/-- The self-tests beside their registers (R365 to R367): the WINDOW test that runs (test, unit, whether it was asked
for), the deferred request, the SHADOW tests (test, unit) that have failed in their present pass, the instants of the last
passes, and the instant at which a unit took its state. -/
structure SelfTest where
  running : Option (Nat × Nat × Bool)
  deferred : Option (Nat × Nat)
  bad : List (Nat × Nat)
  passed : List ((Nat × Nat) × Nat)
  since : List (Nat × Nat)
deriving DecidableEq, Repr

/-- No test runs. -/
def SelfTest.reset : SelfTest := ⟨none, none, [], [], []⟩

/-! ### The test access port -/

/-- The states of the controller of IEEE 1149.1. -/
inductive TapState where
  | reset | idle
  | selectDr | captureDr | shiftDr | exit1Dr | pauseDr | exit2Dr | updateDr
  | selectIr | captureIr | shiftIr | exit1Ir | pauseIr | exit2Ir | updateIr
deriving DecidableEq, Repr

/-- The test access port (R460): the controller's state, the instruction, the bits in the path between TDI and TDO with the next for TDO
first, and what the last update gave to the boundary cells. -/
structure Tap where
  st : TapState
  op : TapOp
  path : List Bool
  cells : List Bool
deriving DecidableEq, Repr

/-- Test-Logic-Reset: BYPASS. -/
def Tap.reset : Tap := ⟨.reset, .bypass, [], []⟩

/-! ### The hub -/

/-- Everything but the queue of waiting commands. clock is the model's clock in ps since power, born its reading at the
last release of chip reset; fresh what the hub has set and counted in registers in the present tick (R13); xwaits what waits in
MGMT for the command crossing of an island, in order (R248); starts the groups out of reset whose units start once their crossings are
OPEN, with the bank voltage that a cluster's detector finds (R303); lines by 32c + k, engines by 8c + e, senses by SI number; flagSets
by 32c + k the ECLK cycle in which bit k of BRD_FLAGS was last set (R245); armedAt the T of clusters with armed
engines (R244); regsB EVB's copy of the GRD_ registers (R261); acts the frames that local blocks have taken and not yet
performed. -/
structure Hub where
  clock : Nat
  timers : List (Timer × Nat)
  out : List Emission
  draws : Nat
  fresh : List (Nat × CycleRec)
  regs : List (Nat × Word)
  units : List (Nat × UnitRec)
  xings : List (Crossing × XState)
  xwaits : List (Nat × Req × XEntry)
  starts : List (Nat × Nat)
  clocksOff : List Nat
  faultsIn : List ((Nat × Nat) × FaultXfer)
  time : TimeBase
  lanes : List (Nat × LaneRec)
  members : List (Nat × RingMember)
  incarns : List (Nat × (Nat × Nat))
  incarned : Bool
  announced : Nat
  born : Nat
  paths : List (Nat × PathRec)
  dd : List (Nat × DDEntry)
  pair : PairRec
  sw : Switch
  seqs : List (Nat × BitVec 16)
  xact : Xact
  host : HostPort
  stations : List (Nat × StationRec)
  engines : List (Nat × EngineRec)
  lines : List (Nat × LineRec)
  flagSets : List (Nat × Nat)
  armedAt : List (Nat × Stamp)
  groups : List (Nat × GroupRec)
  senses : List (Nat × SenseRec)
  guards : List (Nat × GuardRec)
  regsB : List (Nat × Word)
  acts : List Act
  buses : List (Nat × BusRec)
  log : Log
  keys : KeyStore
  test : SelfTest
  flt : Collector
  flash : Flash
  aon : Aon
  entry : Entry
  svc : SvcPort
  tap : Tap
  halted : Bool
deriving DecidableEq, Repr

/-- The hub right after reset. -/
def Hub.reset : Hub where
  clock := 0
  timers := []
  out := []
  draws := 0
  fresh := []
  regs := []
  units := []
  xings := []
  xwaits := []
  starts := []
  clocksOff := []
  faultsIn := []
  time := TimeBase.reset
  lanes := []
  members := []
  incarns := []
  incarned := false
  announced := 0
  born := 0
  paths := []
  dd := []
  pair := PairRec.reset
  sw := Switch.reset
  seqs := []
  xact := Xact.reset
  host := HostPort.reset
  stations := []
  engines := []
  lines := []
  flagSets := []
  armedAt := []
  groups := []
  senses := []
  guards := []
  regsB := []
  acts := []
  buses := []
  log := Log.reset
  keys := KeyStore.reset
  test := SelfTest.reset
  flt := Collector.reset
  flash := Flash.reset
  aon := Aon.reset
  entry := Entry.reset
  svc := SvcPort.reset
  tap := Tap.reset
  halted := false

/-- The machine: the commands that wait, first in first out, and the hub. -/
structure State where
  pending : List Instr
  hub : Hub
deriving DecidableEq, Repr

/-- The machine right after reset: every register at its reset value, no command waiting. -/
def State.reset : State := ⟨[], Hub.reset⟩

/-- The next state in which the hub has become f of itself. -/
def State.on (s : State) (f : Hub → Hub) : Host.Outcome State Fault Refusal := .next { s with hub := f s.hub }

end Sys2Proof.Machine
end

