-- ==== Sys2Proof/Machine/Clock.lean ====
section
/-! DEFINITION. The counter of the TIME island and the forms of a stamp (R42, R50, R51). -/

namespace Sys2Proof.Machine

/-- 2^-16 ns in one second. -/
def unitsPerSec : Nat := 1000000000 * 65536

/-- The counter as a stamp: SEC, NS and the visible fraction FRAC40[39:24] (R42). -/
def TimeBase.now (t : TimeBase) : Stamp :=
  (t.sec.toNat * 1000000000 + t.ns.toNat) * 65536 + (t.frac.toNat / 0x1000000) % 65536

/-- The hub's counter (R42). -/
def Hub.now (h : Hub) : Stamp := h.time.now

/-- SEC of a stamp. -/
def Stamp.sec (s : Stamp) : Nat := s / unitsPerSec
/-- NS of a stamp. -/
def Stamp.ns (s : Stamp) : Nat := (s / 65536) % 1000000000
/-- FRAC of a stamp, in 1/65,536 ns. -/
def Stamp.frac (s : Stamp) : Nat := s % 65536

/-- The 80-bit frame stamp of R50: SEC[31:0], NS, FRAC. -/
def Stamp.toFrame (s : Stamp) : BitVec 80 :=
  BitVec.ofNat 32 s.sec ++ BitVec.ofNat 32 s.ns ++ BitVec.ofNat 16 s.frac

/-- The 96-bit full stamp of R50: SEC, NS, FRAC. -/
def Stamp.toFull (s : Stamp) : BitVec 96 :=
  BitVec.ofNat 48 s.sec ++ BitVec.ofNat 32 s.ns ++ BitVec.ofNat 16 s.frac

/-- How far two stamps lie apart. -/
def Stamp.dist (a b : Stamp) : Nat := (a - b) + (b - a)

/-- The stamp with the given SEC, NS and FRAC. -/
def Stamp.mk (sec ns frac : Nat) : Stamp := (sec * 1000000000 + ns) * 65536 + frac

/-- R51: a stamp of which only SEC[31:0] is known takes the SEC[47:32] that puts it nearest the hub's own time, the
earlier of two equally near. -/
def Stamp.restore (now : Stamp) (secLo ns frac : Nat) : Stamp :=
  let hi := now.sec / 0x100000000
  let at_ (k : Nat) : Stamp := Stamp.mk (k * 0x100000000 + secLo) ns frac
  let best (a b : Stamp) : Stamp := if Stamp.dist now b < Stamp.dist now a then b else a
  if hi = 0 then best (at_ 0) (at_ 1) else best (best (at_ (hi - 1)) (at_ hi)) (at_ (hi + 1))

/-- R51 for a frame stamp. -/
def Stamp.ofFrame (now : Stamp) (b : BitVec 80) : Stamp :=
  Stamp.restore now (b.extractLsb' 48 32).toNat (b.extractLsb' 16 32).toNat (b.extractLsb' 0 16).toNat

/-- A latency in ps, in 2^-16 ns. -/
def psUnits (ps : Nat) : Nat := ps * 65536 / 1000

/-- The counter as one number of 2^-40 ns units. -/
def TimeBase.fine (t : TimeBase) : Nat := (t.sec.toNat * 1000000000 + t.ns.toNat) * 0x10000000000 + t.frac.toNat

/-- The counter set to a number of 2^-40 ns units; SEC wraps at 2^48 (R42). -/
def TimeBase.setFine (t : TimeBase) (x : Nat) : TimeBase :=
  let ns := x / 0x10000000000
  { t with sec := BitVec.ofNat 48 (ns / 1000000000), ns := BitVec.ofNat 32 (ns % 1000000000),
           frac := BitVec.ofNat 40 (x % 0x10000000000) }

/-- R42: what one TIME tick adds, in 2^-40 ns, to NS.FRAC40; NS reaching 1,000,000,000 carries into SEC. -/
def TimeBase.add (t : TimeBase) (a : Nat) : TimeBase :=
  let f := t.frac.toNat + a
  let ns := t.ns.toNat + f / 0x10000000000
  let frac := BitVec.ofNat 40 (f % 0x10000000000)
  if ns ≥ 1000000000 then
    { t with sec := t.sec + 1, ns := BitVec.ofNat 32 (ns - 1000000000), frac := frac }
  else { t with ns := BitVec.ofNat 32 ns, frac := frac }

/-- R46: TIME_INC / 2 rounded down, and what a slewing tick withholds. -/
def TimeBase.half (t : TimeBase) : Nat := t.inc.toNat / 2
/-- R46: what a slewing tick withholds. -/
def TimeBase.share (t : TimeBase) : Nat := t.inc.toNat - t.half

end Sys2Proof.Machine
end

