-- ==== Sys2Proof/Machine/Ops.lean ====
section
/-! DEFINITION. The named operations over registers, timers, units, crossings and fault sources. -/

namespace Sys2Proof.Machine

/-! ### Registers -/

/-- The register at a local address as it stands. -/
def Hub.rd (h : Hub) (a : Nat) : Word := Sparse.get regReset h.regs a

/-- Register a holds v. -/
def Hub.wr (h : Hub) (a : Nat) (v : Word) : Hub := { h with regs := Sparse.put regReset h.regs a v }

/-- The bits of a field, in place. -/
def Field.mask (f : Field) : Word := (BitVec.ofNat 32 (2 ^ f.width - 1)) <<< f.lo

/-- The value of a field within a register word (R9). -/
def Field.of (f : Field) (w : Word) : Nat := (w.extractLsb' f.lo f.width).toNat

/-- A register word with a field replaced. -/
def Field.into (f : Field) (w : Word) (v : Nat) : Word := (w &&& ~~~f.mask) ||| ((BitVec.ofNat 32 v <<< f.lo) &&& f.mask)

/-- The value of a field (R9). -/
def Hub.get (h : Hub) (f : Field) : Nat := f.of (h.rd f.reg)

/-- A field set to a value, the other bits of its register unchanged. -/
def Hub.set (h : Hub) (f : Field) (v : Nat) : Hub := h.wr f.reg (f.into (h.rd f.reg) v)

/-- Whether a one-bit field is set. -/
def Hub.is (h : Hub) (f : Field) : Bool := h.get f != 0

/-- R13: what the hub has put into register a in the present tick; a tick in which it has put nothing stands for an RC register as
the word it holds. -/
def Hub.cycle (h : Hub) (a : Nat) : CycleRec := (Assoc.get h.fresh a).getD ⟨h.rd a, 0#32, 0⟩

/-- R13: register a has the event bits m set, and k events counted, in the present tick. -/
def Hub.note (h : Hub) (a : Nat) (m : Word) (k : Nat) : Hub :=
  { h with fresh := Assoc.put h.fresh a { h.cycle a with bits := (h.cycle a).bits ||| m, events := (h.cycle a).events + k } }

/-- The RW1C bits that a clearing write in the present tick leaves set (R13). -/
def Hub.kept (h : Hub) (a : Nat) : Word := (h.cycle a).bits

/-- An event bit set by the hub (R12, R13). -/
def Hub.evt (h : Hub) (f : Field) : Hub := (h.note f.reg f.mask 0).set f 1

/-- A field set to the level of a condition. -/
def Hub.flag (h : Hub) (f : Field) (b : Bool) : Hub := h.set f (if b then 1 else 0)

/-- A 32-bit counter counts k, holding at 0xFFFF_FFFF (R13). -/
def Hub.countBy (h : Hub) (a k : Nat) : Hub := (h.note a 0#32 k).wr a (BitVec.ofNat 32 (min 0xFFFFFFFF ((h.rd a).toNat + k)))

/-- A 32-bit counter counts one, holding at 0xFFFF_FFFF. -/
def Hub.count (h : Hub) (a : Nat) : Hub := h.countBy a 1

/-- A field counts one, holding at its largest value. -/
def Hub.countField (h : Hub) (f : Field) : Hub := h.set f (min (2 ^ f.width - 1) (h.get f + 1))

/-- Something leaves the hub. -/
def Hub.emit (h : Hub) (e : Emission) : Hub := { h with out := e :: h.out }

/-- A fresh number for a free value (log 7). -/
def Hub.draw (h : Hub) : Hub := { h with draws := h.draws + 1 }

/-! ### Timers, in the model's clock of picoseconds -/

/-- One microsecond, in ps. -/
def us (n : Nat) : Nat := n * 1000000
/-- One millisecond, in ps. -/
def ms (n : Nat) : Nat := n * 1000000000

/-- Timer t ends at an instant of the model's clock. -/
def Hub.armAt (h : Hub) (t : Timer) (at_ : Nat) : Hub := { h with timers := Assoc.put h.timers t at_ }
/-- The instant at which timer t ends; now where it does not run. -/
def Hub.dueAt (h : Hub) (t : Timer) : Nat := (Assoc.get h.timers t).getD h.clock
/-- Timer t ends d ps from now. -/
def Hub.arm (h : Hub) (t : Timer) (d : Nat) : Hub := { h with timers := Assoc.put h.timers t (h.clock + d) }
/-- Timer t is stopped. -/
def Hub.disarm (h : Hub) (t : Timer) : Hub := { h with timers := Assoc.del h.timers t }
/-- Whether timer t runs. -/
def Hub.armed (h : Hub) (t : Timer) : Bool := (Assoc.get h.timers t).isSome
/-- Whether timer t runs and its time has come. -/
def Hub.due (h : Hub) (t : Timer) : Bool :=
  match Assoc.get h.timers t with
  | some d => decide (d ≤ h.clock)
  | none => false
/-- Where timer t has run out, it is stopped and f follows; where it has not, nothing happens. -/
def Hub.onDue (h : Hub) (t : Timer) (f : Hub → Hub) : Hub := if h.due t then f (h.disarm t) else h

/-! ### Islands and crossings -/

/-- Table 11.1: the reset group of an island. -/
def islandGroup (i : Nat) : Nat :=
  if i = 0 then 0 else if i ≤ 2 then 1 else if i = 3 then 2 else if i ≤ 24 then i - 1 else 23

/-- The island that holds a unit's authority (R21, Table 01.1). -/
def UnitId.island : UnitId → Nat
  | .engine c _ => 15 + c.val
  | .cluster c => 15 + c.val
  | .bus _ => 23
  | .station p => 10 + p.val
  | .lane l => 4 + l.val
  | .guarded _ => 25
  | .sensed _ => 24
  | .host => 14

/-- Whether a crossing is OPEN (Table 11.4). -/
def Hub.xOpen (h : Hub) (x : Crossing) : Bool := (Assoc.get h.xings x).isNone
/-- Whether a crossing is STOPPED (Table 11.4). -/
def Hub.xStopped (h : Hub) (x : Crossing) : Bool := decide (Assoc.get h.xings x = some XState.stopped)

/-- The crossing that carries register accesses and commands from MGMT to an island (Table 11.2). -/
def cmdCrossing (i : Nat) : Crossing := ⟨3, Fin.ofNat 26 i, .queue, 0⟩
/-- The crossing that carries state pushes and audit replies from an island to MGMT (Table 11.2, R22). -/
def pushCrossing (i : Nat) : Crossing := ⟨Fin.ofNat 26 i, 3, .queue, 0⟩
/-- The crossing that carries an island's fault events to MGMT (Table 11.2). -/
def eventCrossing (i : Nat) : Crossing := ⟨Fin.ofNat 26 i, 3, .event, 0⟩

/-- The crossing from SW to an island for switch ports and released events (Table 11.2). -/
def swCrossing (i : Nat) (k : Nat) : Crossing := ⟨2, Fin.ofNat 26 i, .queue, BitVec.ofNat 8 k⟩

/-- The crossings that take the frames of an output (Table 11.2): EV has one for each of its islands, CY none. -/
def outCrossings (o : Nat) : List Crossing :=
  if o < 5 then [swCrossing 9 0]
  else if o ≤ 8 then [swCrossing (o + 5) 0]
  else if o = 9 then [swCrossing 14 0]
  else if o = 10 then [swCrossing 3 1]
  else if o ≤ 18 then [swCrossing (o + 4) 0]
  else if o = 19 then [swCrossing 23 0]
  else if o = 20 then [swCrossing 24 0, swCrossing 25 0]
  else []

/-- R301: whether the crossing that takes the frames of an output is STOPPED; for EV, those of both its islands. -/
def Hub.outStopped (h : Hub) (o : Nat) : Bool := !(outCrossings o).isEmpty && (outCrossings o).all h.xStopped

/-- Table 11.4: whether a crossing that takes the frames of an output is in RESET or RESYNC. -/
def Hub.outWaits (h : Hub) (o : Nat) : Bool := (outCrossings o).any (fun x => !h.xOpen x && !h.xStopped x)

/-! ### Worlds -/

/-- R85, Tables 03.3 and 03.4: whether a register page is secure. The CHIP_ page is open; KEY_ and UPD_ are secure. -/
def Hub.pageSecure (h : Hub) (page : Nat) : Bool :=
  if page = 0 then false else if page = 0x20 ∨ page = 0x23 then true
  else (h.rd (Reg.CHIP_PAGEWLD (page / 32))).getLsbD (page % 32)

/-- R85: whether a switch port is secure; MC and CY are fixed secure (Table 03.4). -/
def Hub.portSecure (h : Hub) (p : Nat) : Bool :=
  if p = 10 ∨ p = 21 then true else (h.rd Reg.CHIP_PORTWLD).getLsbD p

/-- Whether the hub has sealed (R93). -/
def Hub.sealed_ (h : Hub) : Bool := h.is Fld.CHIP_SEAL_SEALED

/-- R90: whether a request may access an item of a register page. -/
def Hub.mayAccess (h : Hub) (req : Req) (a : Nat) : Bool := req.secure || !h.pageSecure (a / 0x10000)

/-! ### Fault sources -/

/-- Islands that stamp under Table 02.1: TIME, the RX islands, RTX, ST0-ST3, CL0-CL7, PB and EVA. -/
def islandStamps (i : Nat) : Bool := i == 1 || (decide (4 ≤ i) && decide (i ≤ 13)) || (decide (15 ≤ i) && decide (i ≤ 24))

/-- The stamp an island's EVENT crossing gives a pulse (R297): its time replica, or 0 where it does not stamp. -/
def Hub.pulseStamp (h : Hub) (i : Nat) : Stamp := if islandStamps i then h.now else 0

/-- R297, R348: k events of a source join what their island's EVENT crossing holds for it; the collector takes that
transfer whole (FAULT_EVENT). The pending count holds at 65,535, counted in ISL_CNT_EVSAT, and LAST keeps following. -/
def Hub.raiseK (h : Hub) (src k : Nat) (inj : Bool) (info : FaultInfo) : Hub :=
  let t := h.pulseStamp info.island
  match Assoc.get h.faultsIn (src, info.island) with
  | none => { h with faultsIn := Assoc.put h.faultsIn (src, info.island) ⟨min 65535 k, t, t, inj, info⟩ }
  | some x =>
    let h1 := { h with faultsIn := Assoc.put h.faultsIn (src, info.island) { x with count := min 65535 (x.count + k), last := t } }
    if x.count + k ≤ 65535 then h1
    else (h1.countBy Reg.ISL_CNT_EVSAT (x.count + k - 65535)).evt Fld.ISL_EVT_EVSAT

/-- One event of a source, from an island, with what the owning chapter tells of it. -/
def Hub.raise (h : Hub) (src island : Nat) (unit a b : Nat) : Hub := h.raiseK src 1 false ⟨island, unit, a, b⟩

/-- The issuer of a request as fault events tell it: for a hub of the fabric its ring and number. -/
def Origin.code : Origin → Nat
  | .ploia => 0
  | .host => 1
  | .service => 2
  | .fabric r b => 0x10000 + 0x100 * r.toNat + b.toNat

/-- A non-secure request for a secure item raises FLT_WORLD, with the address and the source (R91). -/
def Hub.refuseWorld (h : Hub) (req : Req) (a : Nat) : Hub := h.raise Flt.WORLD 3 req.port.val a req.origin.code

/-- R95: whether a request comes from the host port before seal. -/
def Hub.preSeal (h : Hub) (req : Req) : Bool := decide (req.origin = .host) && !h.sealed_

/-- R95: a host request before seal is counted in CHIP_SEAL.PRESEAL, and does nothing else. -/
def Hub.countPreSeal (h : Hub) : Hub := h.countField Fld.CHIP_SEAL_PRESEAL

/-- A register write that R95 and the world rules judge first (R90, R91): where they refuse it, nothing is written. -/
def Hub.writing (h : Hub) (req : Req) (a : Nat) (f : Hub → Hub) : Hub :=
  if h.preSeal req then h.countPreSeal
  else if h.mayAccess req a then f h else h.refuseWorld req a

/-- A register read that R95 and the world rules judge first: a refused word reads all ones (R91, R95). -/
def Hub.reading (h : Hub) (req : Req) (a : Nat) (f : Hub → Word × Hub) : Hub :=
  if h.preSeal req then h.countPreSeal.emit (.reply req a 0xFFFFFFFF#32)
  else if h.mayAccess req a then (f h).2.emit (.reply req a (f h).1)
  else (h.refuseWorld req a).emit (.reply req a 0xFFFFFFFF#32)

/-- A periodic step: it happens when its timer has run out or does not run; the next period starts where this one ended. -/
def Hub.onPeriod (h : Hub) (t : Timer) (d : Nat) (f : Hub → Hub) : Hub :=
  if h.armed t && !h.due t then h else (f h).armAt t (h.dueAt t + d)

/-! ### Units -/

/-- The unit's number in the unit table. -/
def UnitId.num : UnitId → Nat
  | .engine c e => 8 * c.val + e.val
  | .cluster c => 64 + c.val
  | .bus b => 72 + b.val
  | .station p => 88 + p.val
  | .lane l => 92 + l.val
  | .guarded n => 97 + n.val
  | .sensed g => 113 + g.val
  | .host => 121

/-- KIND of Table 01.4. -/
def UnitId.kind : UnitId → Nat
  | .engine _ _ => 1
  | .cluster _ => 2
  | .bus _ => 3
  | .station _ => 4
  | .lane _ => 5
  | .guarded _ => 6
  | .sensed _ => 7
  | .host => 8

/-- STATE codes of Table 01.4. -/
def UState.code : UState → Nat
  | .off => 0 | .idle => 1 | .run => 2 | .stall => 3 | .fault => 4 | .test => 5 | .reset => 6

/-- The shadow register of a unit (R21). -/
def UnitId.shadow : UnitId → Nat
  | .engine c e => Reg.BRD_ESTATE c.val e.val
  | .cluster c => Reg.BRD_CSTATE c.val
  | .bus b => Reg.PB_STATE b.val
  | .station p => Reg.ST_STATE p.val
  | .lane l => Reg.RING_STATE l.val
  | .guarded n => Reg.GRD_STATE n.val
  | .sensed g => Reg.SEN_GSTATE g.val
  | .host => Reg.HP_STATE

/-- The command status register of a unit (R23); the host port has none. -/
def UnitId.cmdStat : UnitId → Option Nat
  | .engine c e => some (Reg.BRD_ECMDSTAT c.val e.val)
  | .cluster c => some (Reg.BRD_CCMDSTAT c.val)
  | .bus b => some (Reg.PB_CMDSTAT b.val)
  | .station p => some (Reg.ST_CMDSTAT p.val)
  | .lane l => some (Reg.RING_CMDSTAT l.val)
  | .guarded n => some (Reg.GRD_CMDSTAT n.val)
  | .sensed g => some (Reg.SEN_GCMDSTAT g.val)
  | .host => none

/-- All units, in the order of their numbers. -/
def allUnits : List UnitId :=
  (List.finRange 8).flatMap (fun c => (List.finRange 8).map (fun e => UnitId.engine c e)) ++
  (List.finRange 8).map .cluster ++ (List.finRange 16).map .bus ++ (List.finRange 4).map .station ++
  (List.finRange 5).map .lane ++ (List.finRange 16).map .guarded ++ (List.finRange 8).map .sensed ++ [.host]

/-- The unit's authority. -/
def Hub.unit (h : Hub) (u : UnitId) : UnitRec := Sparse.get (fun _ => UnitRec.reset) h.units u.num

/-- Table 01.4: the state word that a unit's authority holds. -/
def UnitId.word (u : UnitId) (r : UnitRec) : Word :=
  r.epoch ++ BitVec.ofNat 4 u.kind ++ r.detail ++ BitVec.ofNat 8 r.state.code

/-- R22: a push replaces bits 31:8 and 3:0 of the shadow and leaves UNREACH and SKEWED; a push that is made while its
crossing is not OPEN is lost. -/
def Hub.push (h : Hub) (u : UnitId) : Hub :=
  if h.xOpen (pushCrossing u.island) then
    h.wr u.shadow (((h.rd u.shadow) &&& 0xC0#32) ||| (u.word (h.unit u) &&& 0xFFFFFF0F#32))
  else h

/-- EPOCH after one more change (R21). -/
def nextEpoch (e : BitVec 8) : BitVec 8 := if e = 255#8 then 1#8 else e + 1#8

/-- R21, R22: the unit takes STATE and DETAIL; a change of either increments EPOCH and pushes the new word. -/
def Hub.setUnit (h : Hub) (u : UnitId) (st : UState) (detail : Nat) : Hub :=
  let r := h.unit u
  let d := BitVec.ofNat 12 detail
  if r.state = st ∧ r.detail = d then h
  else
    let r' : UnitRec := ⟨nextEpoch r.epoch, d, st⟩
    Hub.push { h with units := Sparse.put (fun _ => UnitRec.reset) h.units u.num r',
                      test := { h.test with since := Assoc.put h.test.since u.num h.clock } } u

/-- A unit in reset holds EPOCH 1 and STATE RESET (R21, R303). -/
def Hub.resetUnit (h : Hub) (u : UnitId) : Hub :=
  Hub.push { h with units := Sparse.put (fun _ => UnitRec.reset) h.units u.num UnitRec.reset } u

/-! ### Unit commands -/

/-- RESULT codes of Table 01.6. -/
def CmdResult.code : CmdResult → Nat
  | .none => 0 | .pending => 1 | .done => 2 | .stale => 3 | .denied => 4 | .badcmd => 5 | .unreach => 6

/-- The command status word of Table 01.6. -/
def cmdStatWord (epoch : BitVec 8) (echo : Nat) (busy : Bool) (r : CmdResult) : Word :=
  epoch ++ 0#8 ++ BitVec.ofNat 8 echo ++ 0#3 ++ (if busy then 1#1 else 0#1) ++ BitVec.ofNat 4 r.code

/-- R25, R27: a command from the wrong world: BUSYHIT while one is pending, else recorded as DENIED. EPOCH_NOW keeps what it showed,
since no epoch of the unit has been read (DESIGN CHOICE, log 128). -/
def Hub.commandDenied (h : Hub) (u : UnitId) (cmd : Nat) : Hub :=
  match u.cmdStat with
  | none => h
  | some a =>
    if (h.rd a).extractLsb' 0 4 = 1#4 then h.wr a (h.rd a ||| 0x10#32)
    else h.wr a (cmdStatWord ((h.rd a).extractLsb' 24 8) cmd false .denied)

/-- A command to a unit, judged after R95 in the order of R25: BUSYHIT while one is pending; else it is accepted, and ends DENIED
from the wrong world (R27; FLT_WORLD is raised by R91 in either case), UNREACH at once behind a STOPPED crossing (R301), PENDING behind a
crossing in RESET or RESYNC, where it waits in order with the writes (R248; ended by R26 after 1 ms), STALE where EXPECT is 0 or not the unit's EPOCH (R24), and otherwise as the unit's chapter says. -/
def Hub.command (h : Hub) (u : UnitId) (req : Req) (cmd arg : Nat) (expect : BitVec 8)
    (body : Hub → CmdResult × Hub) : Hub :=
  match u.cmdStat with
  | none => h
  | some a =>
    let old := h.rd a
    let now := old.extractLsb' 24 8
    if h.preSeal req then h.countPreSeal
    else if !h.mayAccess req a then (h.commandDenied u cmd).refuseWorld req a
    else if old.extractLsb' 0 4 = 1#4 then h.wr a (old ||| 0x10#32)
    else if h.xStopped (cmdCrossing u.island) then h.wr a (cmdStatWord now cmd false .unreach)
    else if !h.xOpen (cmdCrossing u.island) then
      (Hub.wr { h with xwaits := h.xwaits ++ [(u.island, req, .command u cmd arg expect)] } a (cmdStatWord now cmd false .pending)).arm
        (.command u.num) (ms 1)
    else if expect = 0#8 ∨ expect ≠ (h.unit u).epoch then
      h.wr a (cmdStatWord (h.unit u).epoch cmd false .stale)
    else
      let r := body h
      r.2.wr a (cmdStatWord (r.2.unit u).epoch cmd false r.1)

/-- R367: a command that takes a unit out of its window stops the WINDOW test that runs on it, which ends CANCELLED. -/
def Hub.testCancel (h : Hub) (u : UnitId) : Hub :=
  match h.test.running with
  | some (_, n, asked) =>
    if n = u.num then
      let h1 := { h with test := { h.test with running := none } }
      if asked then (h1.set Fld.FLT_STRES_RESULT 5).evt Fld.FLT_EVT_STDONE else h1
    else h
  | none => h

/-- R365: a failure of self-test t on a unit, with the failing address or line: FLT_BIST, FLT_HTESTt, FLT_HEALTH. -/
def Hub.bistFail (h : Hub) (t unit where_ : Nat) : Hub :=
  ((h.raise Flt.BIST 3 t unit where_).countField (Fld.FLT_HTEST_FAILS t)).set ⟨Reg.FLT_HEALTH, t, 1⟩ 1

/-! ### ALIVE -/

/-- Table 14.3: the code of the first ALIVE condition that does not hold, with the source where it is condition 5. -/
def Hub.aliveCause (h : Hub) : Option (Nat × Nat) :=
  if !h.sealed_ then some (1, 0)
  else if !h.is Fld.TIME_STATUS_OPEN then some (2, 0)
  else if h.get Fld.TIME_STATUS_LOCK ≠ 1 ∧ h.get Fld.TIME_STATUS_LOCK ≠ 2 then some (3, 0)
  else if (List.finRange 16).any (fun n => h.is (Fld.GRD_CFG_EN n.val) && decide ((h.unit (.guarded n)).state = .fault)) then
    some (4, 0)
  else match (List.range 78).find? (fun s => h.is (Fld.FLT_SRC_CFG_C0P s) && decide (2 ≤ h.get (Fld.FLT_SRC_STAT_CUR s))) with
    | some s => some (5, s)
    | none => if h.is Fld.FLT_STATUS_GRAVE then some (6, 0) else none

/-- R362: where ALIVE runs and a condition fails, it stops at the level it has and latches the cause. -/
def Hub.aliveCheck (h : Hub) : Hub :=
  if h.is Fld.FLT_ALIVE_RUNNING then
    match h.aliveCause with
    | none => h
    | some (c, s) => ((Hub.set { h with flt := { h.flt with failAt := h.clock } } Fld.FLT_ALIVE_RUNNING 0).set Fld.FLT_ALIVE_CAUSE c).set Fld.FLT_ALIVE_CSRC s
  else h

end Sys2Proof.Machine
end

