-- ==== Sys2Proof/Machine/LogOps.lean ====
section
/-! DEFINITION. What other blocks do to the watermark log: counts, samples, journal records, identity changes, flush
orders (R372 to R379). The EVENT crossings that carry the counts are taken as immediate (log 20). -/

namespace Sys2Proof.Machine

/-- The default of every log table: 0. -/
def zeroNat : Nat → Nat := fun _ => 0
/-- The default octet of the memories. -/
def zeroByte : Nat → Byte := fun _ => 0#8

/-- Counter i counts k, holding at 2^64 - 1 (R374). -/
def Hub.logCount (h : Hub) (i k : Nat) : Hub :=
  { h with log := { h.log with totals := Sparse.put zeroNat h.log.totals i (min 0xFFFFFFFFFFFFFFFF (Sparse.get zeroNat h.log.totals i + k)) } }

/-- Histogram n takes one sample into bin b, holding at 0xFFFF_FFFF (R375). -/
def Hub.logBin (h : Hub) (n b : Nat) : Hub :=
  let k := 64 * n + b
  { h with log := { h.log with hist := Sparse.put zeroNat h.log.hist k (min 0xFFFFFFFF (Sparse.get zeroNat h.log.hist k + 1)) } }

/-- R375: the bin of a sample x for LO and STEP in the same unit. -/
def histBin (x lo step : Int) : Nat := (max 0 (min 63 ((x - lo) / step))).toNat

/-- The frame stamp of a journal record, 0 while UNLOCKED (R377). -/
def Hub.logStamp (h : Hub) : BitVec 80 := if h.get Fld.TIME_STATUS_LOCK = 0 then 0 else h.now.toFrame

/-- Whether the rate and the buffer of R377 allow one more journal record in this second, and the log with it counted; a second
begins with the first record after the previous one has ended (DESIGN CHOICE, log 160). -/
def Hub.journalRoom (h : Hub) : Bool × Log :=
  let l := h.log
  let l1 := if h.clock - l.jStart ≥ ms 1000 then { l with jStart := h.clock, jCount := 0 } else l
  if l1.jCount < 100 then (true, { l1 with jCount := l1.jCount + 1 }) else (false, l1)

/-- R377: the 32 octets of a journal record with its SEQ. -/
def JRecord.octets (r : JRecord) (seq : Nat) : List Byte :=
  let head := leBytes 2 r.typ ++ leBytes 2 r.arg ++ leBytes 4 r.secs ++ beBytes 10 r.stamp.toNat ++ leBytes 6 r.data
  let s := leBytes 4 seq
  head ++ leBytes 4 (crc32c (head ++ s)).toNat ++ s

/-- Octets written into a memory from an address. -/
def memWrite (m : List Host.Cell) : Nat → List Byte → List Host.Cell
  | _, [] => m
  | a, b :: t => memWrite (Sparse.put zeroByte m a b) (a + 1) t

/-- n octets of a memory from an address. -/
def memRead (m : List Host.Cell) (a n : Nat) : List Byte := (List.range n).map (fun k => Sparse.get zeroByte m (a + k))

/-- A record goes into the ring, into slot SEQ mod 1,024 of the journal (Table 15.1, R377). -/
def Hub.journalWrite (h : Hub) (r : JRecord) : Hub :=
  let seq := (h.rd Reg.LOG_JSEQ).toNat
  let m := memWrite h.log.mem (0xB000 + 32 * (seq % 1024)) (r.octets seq)
  Hub.wr { h with log := { h.log with mem := m } } Reg.LOG_JSEQ (BitVec.ofNat 32 (seq + 1))

/-- A record of Table 15.4 as of now. -/
def Hub.record (h : Hub) (typ arg data : Nat) : JRecord :=
  ⟨typ, arg, Sparse.get zeroNat h.log.totals 143, h.logStamp, data⟩

/-- R378: the AON island writes a direct record at once; beyond the rate of R377 it is dropped and counted. -/
def Hub.journalDirect (h : Hub) (typ arg data : Nat) : Hub :=
  let r := h.journalRoom
  if r.1 then Hub.journalWrite { h with log := r.2 } (h.record typ arg data)
  else Hub.count { h with log := r.2 } (Reg.LOG_CNT_JLOST)

/-- R377: a record that the next flush writes waits in the buffer of 8; beyond the rate or the buffer it is dropped and
counted. -/
def Hub.journalLater (h : Hub) (typ arg data : Nat) : Hub :=
  let r := h.journalRoom
  if r.1 ∧ h.log.buffer.length < 8 then
    { h with log := { r.2 with buffer := r.2.buffer ++ [h.record typ arg data] } }
  else Hub.count { h with log := r.2 } (Reg.LOG_CNT_JLOST)

/-- R380: FLT_LOGWEAR when the WRITES of a copy reaches 2,000,000,000 and at each further 500,000,000. -/
def Hub.wear (h : Hub) (writes : Nat) : Hub :=
  if 2000000000 ≤ writes ∧ (writes - 2000000000) % 500000000 = 0 then (h.evt Fld.LOG_EVT_WEAR).raise Flt.LOGWEAR 0 0 writes 0 else h

/-- R378: the identity changes; a copy is written at most once per 100 ms, a change within that time when it ends. The
copy that is not current is written, with GEN one higher (R371). -/
def Hub.identityWrite (h : Hub) : Hub :=
  let l := h.log
  let a := l.idA
  let b := l.idB
  let l' := if a.2.1 ≤ b.2.1 then { l with idA := (l.ident, b.2.1 + 1, a.2.2 + 1) }
            else { l with idB := (l.ident, a.2.1 + 1, b.2.2 + 1) }
  Hub.wear (Hub.arm { h with log := { l' with identOwed := false } } .identity (ms 100))
    (if a.2.1 ≤ b.2.1 then a.2.2 + 1 else b.2.2 + 1)

/-- An identity change (R129, R378): written at once, or when the 100 ms since the last write have passed. -/
def Hub.identityChange (h : Hub) (i : Identity) : Hub :=
  let h1 := { h with log := { h.log with ident := i } }
  if h.armed .identity ∧ !h.due .identity then { h1 with log := { h1.log with identOwed := true } }
  else h1.identityWrite

/-- The last 16 octets of an identity or running copy: GEN, WRITES, CRC-32C over body, GEN and WRITES (R371). -/
def logTrailer (body : List Byte) (gen writes : Nat) : List Byte :=
  let t := leBytes 8 gen ++ leBytes 4 writes
  t ++ leBytes 4 (crc32c (body ++ t)).toNat

/-- Table 15.1: where a running copy lies. -/
def runningBase (b : Bool) : Nat := if b then 0x7000 else 0x3000

/-- Table 15.1: the body of a running copy: 512 counters of 64 bits, 32 histograms of 64 bins of 32 bits, zeros. -/
def runningBody (totals hist : List (Nat × Nat)) : List Byte :=
  (List.range 512).flatMap (fun i => leBytes 8 (Sparse.get zeroNat totals i)) ++
  (List.range 2048).flatMap (fun i => leBytes 4 (Sparse.get zeroNat hist i)) ++ List.replicate 0xFF0 0#8

/-- Whether some running copy is current: LOG_GEN is not 0. -/
def Hub.logGen (h : Hub) : Nat := (h.rd Reg.LOG_GEN_LO).toNat + 0x100000000 * (h.rd Reg.LOG_GEN_HI).toNat

/-- R372: the running copy that is not current; A where none is. -/
def Hub.flushTarget (h : Hub) : Bool := h.logGen != 0 && !h.is Fld.LOG_STATUS_ACTIVE

/-- R372: the flush starts: the totals are snapshot, LOG_STATUS.BUSY set; phase 1 writes them, and the records of the buffer,
into the memory, the copy's CRC failing until its trailer is written; a roll-up in progress is abandoned (R376). -/
def Hub.flushStart (h : Hub) (why : List FlushWhy) : Hub :=
  let l := h.log
  let f : Flush := ⟨why, l.totals, l.hist, h.logStamp, h.flushTarget, false⟩
  let s := max 10 (min 3600 (h.get Fld.LOG_CFG_FLUSH))
  let h1 : Hub := { h with log := { l with flush := some f, buffer := [], flushLast := some h.clock, merged := [], rollup := none,
                                           mem := memWrite l.mem (runningBase f.toB) (runningBody l.totals l.hist) } }
  let h2 := l.buffer.foldl (fun (g : Hub) r => g.journalWrite r) h1
  ((h2.arm .flushInterval (ms (1000 * s))).set Fld.LOG_STATUS_BUSY 1).disarm .mergedFlush

/-- R373: Ploia orders a flush. While it is halted none takes place. Within 100 ms of the previous flush's start, a supply
warning orders none and any other trigger merges, counted. -/
def Hub.orderFlush (h : Hub) (why : FlushWhy) : Hub :=
  if h.halted then h
  else
    let soon := match h.log.flushLast with
      | none => false
      | some t => decide (h.clock - t < ms 100)
    if !soon then h.flushStart [why]
    else if why = .warning then h
    else
      let t := h.log.flushLast.getD 0
      let h1 := { h with log := { h.log with merged := h.log.merged ++ [why] } }
      let h2 := if h1.armed .mergedFlush then h1 else { h1 with timers := Assoc.put h1.timers .mergedFlush (t + ms 100) }
      (h2.count Reg.LOG_CNT_MERGED).evt Fld.LOG_EVT_MERGED

end Sys2Proof.Machine
end

