-- ==== Sys2Proof/Machine/Frame.lean ====
section
/-! DEFINITION. Maelak frames as octets (R107 to R109) and the frames this hub forms. -/

namespace Sys2Proof.Machine

/-- R107: the 240 bits of header octets 0-29, octet 0 highest. -/
def Header.bits (h : Header) : BitVec 240 :=
  h.ver ++ h.typ ++ h.cls ++ (BitVec.ofBool h.world) ++ (BitVec.ofBool h.auth) ++ (BitVec.ofBool h.late) ++ h.dir ++
  h.sring ++ h.dring ++ h.shub ++ h.dhub ++ h.hops ++ 0#4 ++ h.stream ++ h.seq ++ h.len ++ h.stamp ++ h.tag ++ h.sub ++ h.arg

/-- R107: header octets 0-29 in the order sent. -/
def Header.octets (h : Header) : List Byte := beBytes 30 h.bits.toNat

/-- R108: HCRC of a header. -/
def Header.hcrc (h : Header) : BitVec 16 := crc16 h.octets

/-- The header that header octets 0-29 spell (R107). -/
def Header.ofBits (b : BitVec 240) : Header where
  ver := b.extractLsb' 236 4
  typ := b.extractLsb' 232 4
  cls := b.extractLsb' 229 3
  world := b.getLsbD 228
  auth := b.getLsbD 227
  late := b.getLsbD 226
  dir := b.extractLsb' 224 2
  sring := b.extractLsb' 220 4
  dring := b.extractLsb' 216 4
  shub := b.extractLsb' 208 8
  dhub := b.extractLsb' 200 8
  hops := b.extractLsb' 192 8
  stream := b.extractLsb' 176 12
  seq := b.extractLsb' 160 16
  len := b.extractLsb' 144 16
  stamp := b.extractLsb' 64 80
  tag := b.extractLsb' 54 10
  sub := b.extractLsb' 48 6
  arg := b.extractLsb' 0 48

/-- The payload length with its pad (R107). -/
def padded (n : Nat) : Nat := 8 * ((n + 7) / 8)

/-- The frame's length in octets: 32 + 8 * ceil(LEN / 8) + 16 * AUTH + 4 (R107). -/
def Header.frameLen (h : Header) : Nat := 32 + padded h.len.toNat + (if h.auth then 16 else 0) + 4

/-- The octets of a frame before its FCS. -/
def Frame.body (f : Frame) : List Byte :=
  f.hdr.octets ++ beBytes 2 f.hdr.hcrc.toNat ++ slice f.payload 0 (padded f.hdr.len.toNat) ++
  (if f.hdr.auth then beBytes 16 f.gmac.toNat else [])

/-- The frame as it is stored and sent, FCS included (R109, R151); Ethernet sends the CRC lowest octet first. -/
def Frame.octets (f : Frame) : List Byte := f.body ++ leBytes 4 (crc32 f.body).toNat

/-- R110: what the GMAC tag covers: the header with VER, HOPS and HCRC zero, DIR zero (R133) and ARG zero for TYPE 2 (R61), payload, pad. -/
def Frame.tagged (f : Frame) : List Byte :=
  let h := { f.hdr with ver := 0, hops := 0, dir := 0, arg := if f.hdr.typ = 2 then 0 else f.hdr.arg }
  h.octets ++ [0, 0] ++ slice f.payload 0 (padded f.hdr.len.toNat)

/-- A frame with LATE in its header as told: set only in what is delivered to a local queue consumer (R19, R20, R71, Table 04.5). -/
def Frame.marked (f : Frame) (late : Bool) : Frame := { f with hdr := { f.hdr with late := late } }

/-- Frames of ring operation (R476), which their own steps consume. -/
def Header.ringOp (hdr : Header) : Bool :=
  hdr.typ == 0 || hdr.typ == 1 || hdr.typ == 2 || hdr.typ == 14 || (hdr.typ == 12 && decide (hdr.sub.toNat ≤ 2))

/-- Cells of a frame of L octets: ceil(L / 128) (R151). -/
def cellsOf (len : Nat) : Nat := (len + 127) / 128

/-- Whether this hub holds a number on the ring of a pair (false A, true B; R121). -/
def Hub.numbered (h : Hub) (b : Bool) : Bool := if b then h.is Fld.MBR_ID_B_VALID else h.is Fld.MBR_ID_A_VALID

/-- The hub number on the ring of a pair. -/
def Hub.hubNo (h : Hub) (b : Bool) : Nat := if b then h.get Fld.MBR_ID_B_HUB else h.get Fld.MBR_ID_A_HUB

/-- The hub's own number as a source: 0 while it has none. -/
def Hub.self (h : Hub) (b : Bool) : Nat := if h.numbered b then h.hubNo b else 0

/-- PAIRB of MBR_CFG; 3 is taken as off (Table 05.7). -/
def Hub.pairB (h : Hub) : Nat := let v := h.get Fld.MBR_CFG_PAIRB; if v = 3 then 0 else v

/-- The ring a pair belongs to: RING_A, or RING_B on pair B in bridge mode (R121, Table 05.2). -/
def Hub.ringOf (h : Hub) (b : Bool) : Nat :=
  if b ∧ h.pairB = 2 then h.get Fld.MBR_CFG_RING_B else h.get Fld.MBR_CFG_RING_A

/-- Which ring (false A, true B) a lane serves: lanes EB and WB serve ring B in bridge mode only (Table 05.2). -/
def Hub.laneRing (h : Hub) (l : Nat) : Bool := decide (h.pairB = 2) && (l == 2 || l == 3)

/-- Whether a lane is UP (Table 04.4). -/
def Hub.laneUp (h : Hub) (l : Nat) : Bool := decide (h.get (Fld.RING_LINK_LSTATE l) = 5)

/-- DIR of a lane: 0 east, 1 west, 2 pair (Table 04.5). -/
def laneDir (l : Nat) : BitVec 2 := if l = 4 then 2 else if l % 2 = 0 then 0 else 1

/-- The other lane of the same pair (R112). -/
def laneAcross (l : Nat) : Nat := if l % 2 = 0 then l + 1 else l - 1

/-- The lane record. -/
def Hub.lane (h : Hub) (l : Nat) : LaneRec := Sparse.get (fun _ => LaneRec.reset) h.lanes l
/-- The lane record replaced. -/
def Hub.setLane (h : Hub) (l : Nat) (r : LaneRec) : Hub :=
  { h with lanes := Sparse.put (fun _ => LaneRec.reset) h.lanes l r }

/-- The header of a frame of ring operation (R476): WORLD 0, from this hub, on a lane. -/
def Hub.opHeader (h : Hub) (l typ cls sub : Nat) (dhub : BitVec 8) (seq : BitVec 16) (stamp : BitVec 80)
    (arg : BitVec 48) (len : Nat) : Header where
  ver := BitVec.ofNat 4 (h.get (Fld.RING_LINK_AG_MAJ l))
  typ := BitVec.ofNat 4 typ
  cls := BitVec.ofNat 3 cls
  world := false
  auth := false
  late := false
  dir := laneDir l
  sring := BitVec.ofNat 4 (h.ringOf (h.laneRing l))
  dring := BitVec.ofNat 4 (h.ringOf (h.laneRing l))
  shub := BitVec.ofNat 8 (h.self (h.laneRing l))
  dhub := dhub
  hops := 0
  stream := 0
  seq := seq
  len := BitVec.ofNat 16 len
  stamp := stamp
  tag := 0
  sub := BitVec.ofNat 6 sub
  arg := arg

/-- R178: octets of a class enter an input and are metered against its budget. -/
def Hub.meter (h : Hub) (inp cls n : Nat) : Hub :=
  let k := 8 * inp + cls
  { h with sw := { h.sw with meters := Sparse.put (fun _ => 0) h.sw.meters k (Sparse.get (fun _ => 0) h.sw.meters k + n) } }

/-- A frame that the ingress buffer of its input holds as number num is offered to the core for a list of outputs, in ascending order
of output (R160); rx names the lane whose reception it still follows. LATE, which is ignored on receipt, is 0 in the core (Table 04.5). -/
def Hub.presentAs (h : Hub) (num inp : Nat) (f : Frame) (outs : List Nat) (transit release : Bool) (rx : Option Nat) : Hub :=
  { h with sw := { h.sw with
      offered := h.sw.offered ++ [⟨h.sw.nextFid, num, inp, f.marked false, outs, transit, release, rx, false, none⟩],
      nextFid := h.sw.nextFid + 1 } }

/-- A frame is offered to the core by an input for a list of outputs. -/
def Hub.present (h : Hub) (inp : Nat) (f : Frame) (outs : List Nat) (transit release : Bool) (rx : Option Nat) : Hub :=
  h.presentAs h.sw.nextFid inp f outs transit release rx

/-- R160: a received frame with AUTH set goes to CY for the check of its tag. -/
def Hub.presentCheck (h : Hub) (inp : Nat) (f : Frame) (r : RxFrame) : Hub :=
  { h with sw := { h.sw with
      offered := h.sw.offered ++ [⟨h.sw.nextFid, r.num, inp, f.marked false, [21], true, false, none, false, some r⟩],
      nextFid := h.sw.nextFid + 1 } }

/-- A block offers a whole frame that it has formed, or that a station port has received. -/
def Hub.offer (h : Hub) (inp : Nat) (f : Frame) (outs : List Nat) (transit release : Bool) : Hub :=
  (h.meter inp f.hdr.cls.toNat f.hdr.frameLen).present inp f outs transit release none

/-- R162: whether the half of an input's ingress buffer for a class has no room for n octets: 8 KiB each on the ring lanes and
PL, 4 KiB each on a station port (Table 06.1). A received frame is held once, whatever offers are made of it. -/
def Hub.ingressFull (h : Hub) (inp cls n : Nat) : Bool :=
  let low (c : Nat) : Bool := decide (c ≤ 3)
  let mine := h.sw.offered.filter (fun x => decide (x.inp = inp) && (low x.frame.hdr.cls.toNat == low cls))
  let held := ((mine.map (fun x => (x.num, x.frame.hdr.frameLen))).eraseDups).foldl (fun k x => k + x.2) 0
  decide ((if inp ≤ 4 then 8192 else 4096) < held + n)

/-- R162: a frame that finds no room is discarded whole. -/
def Hub.ingressLost (h : Hub) (inp cls : Nat) : Hub :=
  ((h.count (Reg.SW_CNT_INOVF inp)).evt Fld.SW_EVT_INOVF).raise Flt.INOVF 2 inp cls 0

/-- The next SEQ of a stream of this hub. -/
def Hub.nextSeq (h : Hub) (stream : Nat) : BitVec 16 × Hub :=
  let n := Sparse.get (fun _ => (0 : BitVec 16)) h.seqs stream
  (n, { h with seqs := Sparse.put (fun _ => (0 : BitVec 16)) h.seqs stream (n + 1) })

/-- A frame of ring operation that this hub forms enters the core by MC (R476). -/
def Hub.offerOp (h : Hub) (f : Frame) (l : Nat) : Hub := h.offer 10 f [l] false false

/-! ### Interrupts and consumer queues -/

/-- Frames that the host bridge takes at output HP (R155); side-band messages are performed there as well (R211, log 24). -/
def Frame.bridge (f : Frame) : Bool :=
  f.hdr.typ == 5 || f.hdr.typ == 6 || f.hdr.typ == 7 || f.hdr.typ == 10 || f.hdr.typ == 11

/-- Vector control of an MSI-X table entry: its mask bit. -/
def Hub.msixMasked (h : Hub) (v : Nat) : Bool :=
  h.host.funcMask || ((Assoc.get h.host.msix (16 * v + 12)).getD 1#32).getLsbD 0

/-- R210, R204: MSI-X vector v is sent, behind the writes of the outbound posted buffer, or stays pending while it is masked, or while the
function may send no request (log 153). -/
def Hub.msix (h : Hub) (v : Nat) : Hub :=
  if !h.is Fld.HP_LINK_MSIXEN then h
  else if h.msixMasked v ∨ !h.is Fld.HP_LINK_BME ∨ h.host.d3 then { h with host := { h.host with msixPending := if h.host.msixPending.contains v then h.host.msixPending else v :: h.host.msixPending } }
  else if h.host.posted.isEmpty then h.emit (.msix v)
  else { h with host := { h.host with posted := h.host.posted ++ [.msix v] } }

/-- The number of a queue that keeps an order of its own: 0-8 the consumer queues of HP, 16-24 those of MC (R155), 32 + o
the hand-overs to timed consumers at output o (R167). -/
def queueNo (outp cls : Nat) : Nat := if outp = 10 then 16 + cls else cls

/-- The identities of the copies that such a queue holds, in its order. -/
def Switch.queue (w : Switch) (q : Nat) : List Nat := (Assoc.get w.queues q).getD []

/-- SW_HQ_LVLq follows queue q (Table 06.7). -/
def Hub.queueLevel (h : Hub) (q : Nat) : Hub :=
  let ids := h.sw.queue q
  let cells := (h.sw.copies.filter (fun c => ids.contains c.id)).foldl (fun n c => n + c.cells.length) 0
  h.wr (Reg.SW_HQ_LVL q) (BitVec.ofNat 32 (0x80000 * ids.length + cells))

/-- A copy enters a queue; vectors 1 to 9 tell of a host queue that was empty (R210). -/
def Hub.enqueue (h : Hub) (q id : Nat) : Hub :=
  let old := h.sw.queue q
  let h1 := { h with sw := { h.sw with queues := Assoc.put h.sw.queues q (old ++ [id]) } }
  if q < 9 then
    let h2 := h1.queueLevel q
    if old.isEmpty then h2.msix (1 + q) else h2
  else h1

end Sys2Proof.Machine
end

