-- ==== Sys2Proof/Machine/PbOps.lean ====
section
/-! DEFINITION. Bus controllers as other blocks touch them: their records, state words and the shared-bus fence (R143, R273,
R290). -/

namespace Sys2Proof.Machine

/-- A bus's record. -/
def Hub.bus (h : Hub) (b : Nat) : BusRec := Sparse.get (fun _ => BusRec.reset) h.buses b

/-- PB_HEAD of a spool (Table 10.7). -/
def headWord : List BusEntry → Word
  | [] => 0
  | x :: _ => BitVec.ofNat 32 (0x80000000 + (if x.frame.ide then 0x40000000 else 0) + x.frame.ident.toNat)

/-- A bus's record replaced; PB_SPOOL and PB_HEAD follow it. -/
def Hub.setBus (h : Hub) (b : Nat) (r : BusRec) : Hub :=
  (Hub.wr { h with buses := Sparse.put (fun _ => BusRec.reset) h.buses b r }
    (Reg.PB_SPOOL b) (BitVec.ofNat 32 (0x100 * r.timed.length + r.spool.length))).wr (Reg.PB_HEAD b) (headWord r.spool)

/-- R143, R290: whether the fence withholds transmission on a bus: it is shared, and PAIR_LEAD is not high, or PAIR_PEER has
not been low for 1 us, or T has been reached in L_COMMITTED. -/
def Hub.busFenced (h : Hub) (b : Nat) : Bool :=
  h.is (Fld.PB_CFG_SHARED b) && !(decide (h.pair.lead = some true) && h.pair.peerLowLong && !h.pair.tReached)

/-- STATE of a bus's word (R273). -/
def BusState.unitState : BusState → UState
  | .off => .off | .run => .run | .busoff => .fault | _ => .idle

/-- The unit of a bus. -/
def busUnit (b : Nat) : UnitId := .bus (Fin.ofNat 16 b)

/-- R273: the state word of a bus: error state, SLEEP, FOLLOW. -/
def Hub.busWord (h : Hub) (b : Nat) : Hub :=
  let r := h.bus b
  h.setUnit (busUnit b) r.st.unitState (0x400 * h.get (Fld.PB_ERRCNT_ESTATE b) + (if r.st = .sleep then 0x200 else 0) +
    (if h.busFenced b ∧ r.st ≠ .off then 0x100 else 0))

/-- The fence of a bus has moved: its age count starts or ends (R290), and its word follows. -/
def Hub.busFence (h : Hub) (b : Nat) : Hub :=
  if h.is (Fld.PB_CFG_SHARED b) then
    let r := h.bus b
    let f := if h.busFenced b then some (r.fencedAt.getD h.clock) else none
    (h.setBus b { r with fencedAt := f }).busWord b
  else h

/-- The lead pin, the partner's or the role has changed. -/
def Hub.fenceMoved (h : Hub) : Hub := (List.range 16).foldl (fun (g : Hub) b => g.busFence b) h

/-- Whether a frame that this hub started on a shared bus is in progress (R146). -/
def Hub.sharedBusy (h : Hub) : Bool := (List.range 16).any (fun b => h.is (Fld.PB_CFG_SHARED b) && (h.bus b).sending)

end Sys2Proof.Machine
end

