-- ==== Sys2Proof/Machine/PathOps.lean ====
section
/-! DEFINITION. Paths, partner beats and roles as other blocks touch them: tether paths and their faults (R138 to R140),
the lead fence and the role states (R141 to R146). -/

namespace Sys2Proof.Machine

/-! ### Paths: 0-3 neighbours EA, WA, EB, WB; 4 pair link; 5, 6 ring east, west; 7, 8 ladder east, west (Table 05.8) -/

/-- The bit of MBR_PATH that shows a path. -/
def pathBit (p : Nat) : Field :=
  if p < 4 then ⟨Reg.MBR_PATH, p, 1⟩ else if p < 7 then ⟨Reg.MBR_PATH, p + 4, 1⟩ else ⟨Reg.MBR_PATH, p - 1, 1⟩

/-- The lane by which beats of a path leave. -/
def pathLane (p : Nat) : Nat := if p < 5 then p else p - 5

/-- The record of a path. -/
def Hub.path (h : Hub) (p : Nat) : PathRec := Sparse.get (fun _ => PathRec.reset) h.paths p
/-- The record of a path replaced. -/
def Hub.setPath (h : Hub) (p : Nat) (r : PathRec) : Hub :=
  { h with paths := Sparse.put (fun _ => PathRec.reset) h.paths p r }

/-- The partner paths in use: pair link, ring east and west, and in ladder mode two more (Table 05.3). -/
def Hub.partnerPaths (h : Hub) : List Nat := if h.pairB = 1 then [4, 5, 6, 7, 8] else [4, 5, 6]

/-- Whether a path is shown faulted. -/
def Hub.faulted (h : Hub) (p : Nat) : Bool := h.is (pathBit p)

/-- R139: whether both ends of a ring lane are numbered, so that beats are sent and watched on it. -/
def Hub.bothNumbered (h : Hub) (l : Nat) : Bool :=
  h.numbered (h.laneRing l) && decide (h.get (Fld.RING_PARTNER_PHUB l) ≠ 0)

/-! ### Roles -/

/-- ROLE of MBR_PAIR (Table 05.8). -/
inductive Role where
  | unpaired | follower | fReady | fCommitted | leader | lProposed | lCommitted | solo | held
deriving DecidableEq, Repr

/-- The coding of ROLE. -/
def Role.code : Role → Nat
  | .unpaired => 0 | .follower => 1 | .fReady => 2 | .fCommitted => 3 | .leader => 4 | .lProposed => 5
  | .lCommitted => 6 | .solo => 7 | .held => 8

/-- The role that a code names. -/
def Role.ofCode (n : Nat) : Role :=
  match n with
  | 1 => .follower | 2 => .fReady | 3 => .fCommitted | 4 => .leader | 5 => .lProposed | 6 => .lCommitted
  | 7 => .solo | 8 => .held | _ => .unpaired

/-- The role in force. -/
def Hub.role (h : Hub) : Role := Role.ofCode (h.get Fld.MBR_PAIR_ROLE)

/-- R143: the role states that drive PAIR_LEAD high. -/
def Role.leads : Role → Bool
  | .leader | .lProposed | .lCommitted | .solo => true
  | _ => false

/-- The level of PAIR_LEAD as driven. -/
def Hub.leadHigh (h : Hub) : Bool := decide (h.pair.lead = some true)

/-- The payload of a partner beat of this hub (Table 05.4). -/
def Hub.beatPayload (h : Hub) : List Byte :=
  let dig := (List.range 4).flatMap (fun k => leBytes 4 (h.rd (Reg.REAM_DIGEST k)).toNat)
  [1, 1, 1, 0, BitVec.ofNat 8 (h.get Fld.MBR_PAIR_ROLE), BitVec.ofNat 8 (h.get Fld.MBR_PAIR_PHASE),
   BitVec.ofNat 8 (h.get Fld.MBR_PAIR_SWAPNUM),
   BitVec.ofNat 8 ((if h.leadHigh then 1 else 0) + (if h.pair.peer then 2 else 0))] ++
  beBytes 10 (h.pair.t.toFrame).toNat ++ List.replicate 6 0 ++
  (if h.get Fld.MBR_PAIR_PVER = 0x10 then dig.take 8 ++ List.replicate 8 0 else dig)

/-- R138: one beat on a path: TYPE 0, C0, STREAM 0; ARG tells INCARN (0 on a link without INCARN, R132), the serial number
and the last beat heard. Neighbour and pair-link beats are hop-only; ring beats go to the partner's number. -/
def Hub.sendBeat (h : Hub) (p : Nat) : Hub :=
  let l := pathLane p
  let r := h.path p
  let inc := if (h.rd (Reg.RING_LINK l)).getLsbD 18 then h.get Fld.MBR_ID_A_INCARN else 0
  let arg := BitVec.ofNat 48 (inc * 0x100000000 + (h.rd Reg.CHIP_SERIAL_LO).toNat % 65536 * 65536 + r.heardSeq.toNat)
  let sub := if p < 4 then 0 else if p = 4 then 1 else 2
  let dhub := if p ≤ 4 then 0#8 else BitVec.ofNat 8 (h.get Fld.MBR_PAIR_PHUB)
  let pay := if p < 4 then [] else h.beatPayload
  (h.setPath p { r with sentSeq := r.sentSeq + 1 }).offerOp
    ⟨h.opHeader l 0 0 sub dhub r.sentSeq h.now.toFrame arg pay.length, pay, 0⟩ l

/-- The lanes by which this hub's C0-C3 frames leave (Table 05.2): EA and WA; in ladder and bridge mode also EB and WB;
none by a ladder lane without LADDER. -/
def Hub.ringPaths (h : Hub) : List Nat :=
  ((if h.pairB = 1 ∨ h.pairB = 2 then [0, 1, 2, 3] else [0, 1]).filter h.laneUp).filter
    (fun l => !(decide (h.pairB = 1) && (l == 2 || l == 3) && !(h.rd (Reg.RING_LINK l)).getLsbD 19))

/-- The partner paths on which beats are sent: the pair link while PL is UP; the ring ways while this hub is numbered and
knows its partner's number, their lanes UP and, on pair B, with LADDER (R121, Tables 05.2 and 05.3). -/
def Hub.beatPaths (h : Hub) : List Nat :=
  let ring := if h.numbered false ∧ h.get Fld.MBR_PAIR_PHUB ≠ 0 then
      (h.partnerPaths.filter (fun p => p ≠ 4)).filter (fun p => h.ringPaths.contains (pathLane p))
    else []
  if h.is Fld.MBR_PAIRCFG_EN then (if h.laneUp 4 then [4] else []) ++ ring else []

/-- R138: an extra beat on every partner path that carries beats, where a change of pair state is to be sent at once. -/
def Hub.sendPartnerBeats (h : Hub) : Hub := h.beatPaths.foldl (fun g p => g.sendBeat p) h

/-- R143, Table 05.5: the hub takes a role; PAIR_LEAD is high only in the leading roles. A change by swap or takeover sets
SWAPDONE. -/
def Hub.setRole (h : Hub) (r : Role) (takeover : Bool) : Hub :=
  let h1 := (Hub.set { h with pair := { h.pair with lead := some r.leads, tReached := false } } Fld.MBR_PAIR_ROLE r.code).fenceMoved
  if takeover then h1.evt Fld.MBR_EVT_SWAPDONE else h1

/-- R144: a leading state is not entered while PAIR_PEER is high: the hub enters HELD, raises FLT_PAIRSPLIT and leaves
PAIR_LEAD low; takeover tells whether the role is taken over from the partner. -/
def Hub.takeLead (h : Hub) (r : Role) (takeover : Bool) : Hub :=
  if h.pair.peer then (h.setRole .held false).raise Flt.PAIRSPLIT 3 0 0 0 else h.setRole r takeover

/-- Table 05.5: the partner is gone, by role. A hub in L_COMMITTED that has come to T with a frame of its own still on a shared bus
takes SOLO, and leads again once that frame ends (SWAP_SHARED_FRAMES_END). -/
def Hub.partnerLost (h : Hub) : Hub :=
  let h1 := h.set Fld.MBR_PAIR_PHASE 0
  match h.role with
  | .follower | .fReady | .fCommitted => (h1.takeLead .solo true).sendPartnerBeats
  | .leader | .lProposed => (h1.setRole .solo false).sendPartnerBeats
  | .lCommitted =>
    (if h.pair.tReached ∧ h.sharedBusy then h1.set Fld.MBR_PAIR_ROLE Role.solo.code else h1.takeLead .solo false).sendPartnerBeats
  | _ => h

/-- R140: the partner is gone while every partner path is faulted; PEERGONE and FLT_PEER mark the entry. -/
def Hub.peerCheck (h : Hub) : Hub :=
  if !h.is Fld.MBR_PAIRCFG_EN then h
  else
    let all := h.partnerPaths.all h.faulted
    if all ∧ !h.is Fld.MBR_PATH_PEERGONE then
      ((h.set Fld.MBR_PATH_PEERGONE 1).raise Flt.PEER 3 0 0 0).partnerLost
    else if !all ∧ h.is Fld.MBR_PATH_PEERGONE then h.set Fld.MBR_PATH_PEERGONE 0 else h

/-- R139: a path is faulted: its bit is set and FLT_PATH raised once. -/
def Hub.pathFail (h : Hub) (p : Nat) : Hub :=
  if h.faulted p then h
  else
    let h1 := ((h.set (pathBit p) 1).setPath p { h.path p with runStart := none }).disarm (.path p)
    let h2 := h1.raise Flt.PATH 3 p 0 0
    if 4 ≤ p then h2.peerCheck else h2

/-- R139: a path's fault clears. -/
def Hub.pathHeal (h : Hub) (p : Nat) : Hub :=
  let h1 := h.set (pathBit p) 0
  if 4 ≤ p then h1.peerCheck else h1

/-- R139: a lane that leaves UP faults its neighbour path at once; PL the pair-link partner path. -/
def Hub.laneDownPaths (h : Hub) (l : Nat) : Hub := h.pathFail l

/-- R139: a ring lane that reaches UP with an unnumbered end has its path clear, since it follows the lane state; a watched
path starts its 320 us. -/
def Hub.laneUpPaths (h : Hub) (l : Nat) : Hub :=
  if l < 4 ∧ !h.bothNumbered l then h.pathHeal l
  else if l = 4 ∧ !h.is Fld.MBR_PAIRCFG_EN then h
  else (h.setPath l { h.path l with watched := true }).arm (.path l) (us 320)

end Sys2Proof.Machine
end

