-- ==== Sys2Proof/Machine/CopyOps.lean ====
section
/-! DEFINITION. Cells and copies of the vat as the switch core handles them (R151 to R157). -/

namespace Sys2Proof.Machine

/-- Free cells: 65,536 less those in use and those retired by a self-test (R151, Table 14.4). -/
def Switch.free (w : Switch) : Nat := 65536 - w.used.length - w.retired.length

/-- The r-th number that is in neither of a sorted list of taken numbers. -/
def nthFree (taken : List Nat) (r : Nat) : Nat := taken.foldl (fun c t => if t ≤ c then c + 1 else c) r

/-- A number in its place of a sorted list. -/
def sortedInsert (x : Nat) : List Nat → List Nat
  | [] => [x]
  | y :: t => if x < y then x :: y :: t else if x = y then y :: t else y :: sortedInsert x t

/-- SW_VATFREE and SW_VATMIN follow the free list; an entry below LOWWAT raises FLT_VATLOW (R152, R166, Table 06.5). -/
def Hub.vatLevel (h : Hub) : Hub :=
  let f := h.sw.free
  let low := decide (f < h.get Fld.SW_VATCFG_LOWWAT)
  let h1 := h.wr Reg.SW_VATFREE (BitVec.ofNat 32 f)
  let h2 := if f < (h1.rd Reg.SW_VATMIN).toNat then h1.wr Reg.SW_VATMIN (BitVec.ofNat 32 f) else h1
  let h3 := { h2 with sw := { h2.sw with low := low } }
  if low ∧ !h.sw.low then (h3.evt Fld.SW_EVT_VATLOW).raise Flt.VATLOW 2 0 f 0 else h3

/-- The core takes n cells from the free list; which ones its order decides (log 4). -/
def Hub.takeCells (h : Hub) : Nat → List Nat × Hub
  | 0 => ([], h)
  | n + 1 =>
    let taken := (h.sw.retired.foldl (fun l x => sortedInsert x l) h.sw.used)
    let c := nthFree taken (Config.freeCell h.draws h.sw.free % max 1 h.sw.free)
    let r := Hub.takeCells (Hub.draw { h with sw := { h.sw with used := sortedInsert c h.sw.used } }) n
    (c :: r.1, r.2)

/-- Cells return to the free list. -/
def Hub.freeCells (h : Hub) (cs : List Nat) : Hub :=
  Hub.vatLevel { h with sw := { h.sw with used := h.sw.used.filter (fun c => !cs.contains c) } }

/-- The wrong bits of word k of the vat, octets 8k to 8k + 7 (R151). -/
def Switch.wrong (w : Switch) (k : Nat) : BitVec 64 := (Assoc.get w.flips k).getD 0

/-- The number of bits set in a word. -/
def bitCount (b : BitVec 64) : Nat := (List.range 64).foldl (fun n i => if b.getLsbD i then n + 1 else n) 0

/-- The words among a list that hold one wrong bit, and those that hold more (R151: corrected, and detected). -/
def Switch.eccScan (w : Switch) (ks : List Nat) : Nat × Nat :=
  ks.foldl (fun n k => let b := bitCount (w.wrong k); if b = 0 then n else if b = 1 then (n.1 + 1, n.2) else (n.1, n.2 + 1)) (0, 0)

/-- The words of the cells of a copy. -/
def QCopy.words (q : QCopy) : List Nat := q.cells.flatMap (fun c => (List.range 16).map (fun k => 16 * c + k))

/-- R153: single-bit errors that a read corrects are counted. -/
def Hub.corrected (h : Hub) (n : Nat) : Hub := if n = 0 then h else h.countBy Reg.SW_CNT_ECC n

/-- R153: a copy of which a word holds two errors is counted, and FLT_VATECC raised. -/
def Hub.uncorrectable (h : Hub) (o cell : Nat) : Hub := ((h.count Reg.SW_CNT_ECC).evt Fld.SW_EVT_ECC).raise Flt.VATECC 2 o cell 0

/-- New octets of cells stand without errors. -/
def Hub.clearFlips (h : Hub) (cs : List Nat) : Hub := { h with sw := { h.sw with flips := h.sw.flips.filter (fun e => !cs.contains (e.1 / 16)) } }

/-- The octets of a frame written into its cells (R151); octets past its end in the last cell are free values (log 5). -/
def vatWrite (m : List Host.Cell) : List Nat → List Byte → List Host.Cell
  | [], _ => m
  | c :: t, bs =>
    let part := bs.take 128
    let fill := (List.range (128 - part.length)).map (fun k => Config.cellFill c (part.length + k))
    vatWrite (memWrite m (128 * c) (part ++ fill)) t (bs.drop 128)

/-- A copy is unlinked from its queue; its cells stay in use. -/
def Hub.unlink (h : Hub) (q : QCopy) : Hub :=
  let h1 := { h with sw := { h.sw with
      copies := h.sw.copies.filter (fun x => !decide (x.id = q.id)),
      queues := h.sw.queues.map (fun e => (e.1, e.2.filter (fun i => !decide (i = q.id)))) } }
  if q.outp = 9 then h1.queueLevel (if q.mirror then 8 else q.cls) else h1

/-- A copy leaves the core: it is unlinked from its queue and its cells are freed. -/
def Hub.dropCopy (h : Hub) (q : QCopy) : Hub := (h.unlink q).freeCells q.cells

/-! ### Outputs -/


/-- The scheduler of an output. -/
def Hub.sched (h : Hub) (o : Nat) : OutSched := Sparse.get (fun _ => OutSched.reset) h.sw.sched o
/-- The scheduler replaced. -/
def Hub.setSched (h : Hub) (o : Nat) (s : OutSched) : Hub :=
  { h with sw := { h.sw with sched := Sparse.put (fun _ => OutSched.reset) h.sw.sched o s } }

/-- Whether a C3-C7 frame waits at an output to be sent (R168); what stands in the consumer queues of HP is popped, not sent. -/
def Hub.lowWaits (h : Hub) (o : Nat) : Bool :=
  h.sw.copies.any (fun q => decide (q.outp = o) && decide (3 ≤ q.cls) && !q.sending && decide (q.wait ≠ .release) &&
    !(decide (o = 9) && decide (q.wait = .consumer)))

/-- R168: C3-C7 begin to wait at an output at which none waited before. -/
def Hub.lowStart (h : Hub) (o : Nat) (before : Bool) : Hub :=
  if !before ∧ h.lowWaits o then h.setSched o { h.sched o with lowFrom := h.clock, spent := 0 } else h

/-- The time R168 counts when the frame being sent ends: what of it fell after lowFrom, while C3-C7 waited; a C3-C7 frame
that ends starts the count again. -/
def Hub.schedEnd (h : Hub) (o : Nat) (cls start : Nat) : OutSched :=
  let s := h.sched o
  if 3 ≤ cls then { s with sending := none, lowFrom := h.clock, spent := 0 }
  else if h.lowWaits o then { s with sending := none, spent := s.spent + (h.clock - max start s.lowFrom) }
  else { s with sending := none }

/-- The frame as it leaves by a lane: VER of the link, DIR of the lane, and one in transit with HOPS one more (R107, R112, R133). -/
def Hub.onLane (h : Hub) (l : Nat) (transit : Bool) (f : Frame) : Frame :=
  { f with hdr := { f.hdr with ver := BitVec.ofNat 4 (h.get (Fld.RING_LINK_AG_MAJ l)), dir := laneDir l,
                               hops := if transit then f.hdr.hops + 1 else f.hdr.hops } }

/-- The tail samples that wait at the outputs, as p makes of them. -/
def Hub.mapSamples (h : Hub) (p : QCopy → Option QCopy) : Hub :=
  { h with sw := { h.sw with
      sched := h.sw.sched.map (fun e => (e.1, { e.2 with sample := e.2.sample.bind (fun x => (p x.1).map (fun q => (q, x.2))) })) } }

/-- R114, R161: the frame that lane l was receiving failed its body check: a cut-through copy that is being sent ends with its FCS
inverted, no longer than the frame received; every other copy is unlinked and never counted as lost. -/
def Hub.rxFailed (h : Hub) (l : Nat) (payload : List Byte) (gmac : BitVec 128) : Hub :=
  let mine := h.sw.copies.filter (fun q => decide (q.rx = some l))
  let h0 : Hub := { h with sw := { h.sw with offered := h.sw.offered.filter (fun x => !decide (x.rx = some l)) } }
  let h1 := h0.mapSamples (fun q => if q.rx = some l then none else some q)
  mine.foldl (fun (g : Hub) q =>
    if q.sending ∧ q.outp < 5 then
      let f := { q.frame with payload := payload.take q.frame.hdr.len.toNat, gmac := gmac }
      let g1 := (g.emit (.laneFrame q.outp (g.onLane q.outp q.transit f) true)).count (Reg.RING_CNT_STOMP q.outp)
      (g1.setSched q.outp (g1.schedEnd q.outp q.cls (((g1.sched q.outp).sending.map (·.2)).getD g1.clock))).dropCopy q
    else g.dropCopy q) h1

/-- R104: when a lane leaves UP, every frame queued towards it is discarded, its cells freed, each counted in
RING_CNT_DISC of the lane; frames offered for it are not copied. -/
def Hub.flushLane (h : Hub) (l : Nat) : Hub :=
  let mine := h.sw.copies.filter (fun q => q.outp = l)
  let h1 := mine.foldl (fun g q => (g.dropCopy q).count (Reg.RING_CNT_DISC l)) h
  { h1 with sw := { h1.sw with sched := Assoc.del h1.sw.sched l } }

end Sys2Proof.Machine
end

