-- ==== Sys2Proof/Machine/Crypto.lean ====
section
/-! DEFINITION. The functions of Table 00.5 that the spec takes from standards (R8): SHA-256 and SHA-384 (FIPS 180-4), HMAC-SHA-256
(FIPS 198-1), AES-128 (FIPS 197) and its GMAC (SP 800-38D), the verification of an ECDSA P-384 signature (FIPS 186-5). The spec names
the standards and not their texts, so that this file is PRESUMED (log 6). -/

namespace Sys2Proof.Machine

/-! ### SHA-2 -/

/-- The constants of a hash of the SHA-2 family on words of w bits: the round constants, the initial hash value, and the amounts of its
rotations, of which the last of small0 and small1 is a shift. -/
structure Sha2 (w : Nat) where
  k : List (BitVec w)
  iv : List (BitVec w)
  big0 : Nat × Nat × Nat
  big1 : Nat × Nat × Nat
  small0 : Nat × Nat × Nat
  small1 : Nat × Nat × Nat

/-- The first 64 bits of the fractional parts of the cube roots of the first eighty primes. -/
def shaCubeRoots : List (BitVec 64) :=
  [0x428a2f98d728ae22, 0x7137449123ef65cd, 0xb5c0fbcfec4d3b2f, 0xe9b5dba58189dbbc,
   0x3956c25bf348b538, 0x59f111f1b605d019, 0x923f82a4af194f9b, 0xab1c5ed5da6d8118,
   0xd807aa98a3030242, 0x12835b0145706fbe, 0x243185be4ee4b28c, 0x550c7dc3d5ffb4e2,
   0x72be5d74f27b896f, 0x80deb1fe3b1696b1, 0x9bdc06a725c71235, 0xc19bf174cf692694] ++
  [0xe49b69c19ef14ad2, 0xefbe4786384f25e3, 0x0fc19dc68b8cd5b5, 0x240ca1cc77ac9c65,
   0x2de92c6f592b0275, 0x4a7484aa6ea6e483, 0x5cb0a9dcbd41fbd4, 0x76f988da831153b5,
   0x983e5152ee66dfab, 0xa831c66d2db43210, 0xb00327c898fb213f, 0xbf597fc7beef0ee4,
   0xc6e00bf33da88fc2, 0xd5a79147930aa725, 0x06ca6351e003826f, 0x142929670a0e6e70] ++
  [0x27b70a8546d22ffc, 0x2e1b21385c26c926, 0x4d2c6dfc5ac42aed, 0x53380d139d95b3df,
   0x650a73548baf63de, 0x766a0abb3c77b2a8, 0x81c2c92e47edaee6, 0x92722c851482353b,
   0xa2bfe8a14cf10364, 0xa81a664bbc423001, 0xc24b8b70d0f89791, 0xc76c51a30654be30,
   0xd192e819d6ef5218, 0xd69906245565a910, 0xf40e35855771202a, 0x106aa07032bbd1b8] ++
  [0x19a4c116b8d2d0c8, 0x1e376c085141ab53, 0x2748774cdf8eeb99, 0x34b0bcb5e19b48a8,
   0x391c0cb3c5c95a63, 0x4ed8aa4ae3418acb, 0x5b9cca4f7763e373, 0x682e6ff3d6b2b8a3,
   0x748f82ee5defb2fc, 0x78a5636f43172f60, 0x84c87814a1f0ab72, 0x8cc702081a6439ec,
   0x90befffa23631e28, 0xa4506cebde82bde9, 0xbef9a3f7b2c67915, 0xc67178f2e372532b] ++
  [0xca273eceea26619c, 0xd186b8c721c0c207, 0xeada7dd6cde0eb1e, 0xf57d4f7fee6ed178,
   0x06f067aa72176fba, 0x0a637dc5a2c898a6, 0x113f9804bef90dae, 0x1b710b35131c471b,
   0x28db77f523047d84, 0x32caab7b40c72493, 0x3c9ebe0a15c9bebc, 0x431d67c49c100d4c,
   0x4cc5d4becb3e42b6, 0x597f299cfc657e2a, 0x5fcb6fab3ad6faec, 0x6c44198c4a475817]

/-- SHA-384: the initial value from the square roots of the ninth to the sixteenth prime. -/
def sha2Of384 : Sha2 64 where
  k := shaCubeRoots
  iv := [0xcbbb9d5dc1059ed8, 0x629a292a367cd507, 0x9159015a3070dd17, 0x152fecd8f70e5939,
         0x67332667ffc00b31, 0x8eb44a8768581511, 0xdb0c2e0d64f98fa7, 0x47b5481dbefa4fa4]
  big0 := (28, 34, 39)
  big1 := (14, 18, 41)
  small0 := (1, 8, 7)
  small1 := (19, 61, 6)

/-- SHA-256: 32 bits of the first 64 of those cube roots, and the square roots of the first eight primes. -/
def sha2Of256 : Sha2 32 where
  k := (shaCubeRoots.take 64).map (fun x => x.extractLsb' 32 32)
  iv := [0x6a09e667, 0xbb67ae85, 0x3c6ef372, 0xa54ff53a, 0x510e527f, 0x9b05688c, 0x1f83d9ab, 0x5be0cd19]
  big0 := (2, 13, 22)
  big1 := (6, 11, 25)
  small0 := (7, 18, 3)
  small1 := (17, 19, 10)

/-- Three rotations to the right, combined. -/
def bigSigma {w : Nat} (r : Nat × Nat × Nat) (x : BitVec w) : BitVec w :=
  x.rotateRight r.1 ^^^ x.rotateRight r.2.1 ^^^ x.rotateRight r.2.2

/-- Two rotations and a shift to the right, combined. -/
def smallSigma {w : Nat} (r : Nat × Nat × Nat) (x : BitVec w) : BitVec w :=
  x.rotateRight r.1 ^^^ x.rotateRight r.2.1 ^^^ (x >>> r.2.2)

/-- The eight working variables. -/
structure ShaVars (w : Nat) where
  a : BitVec w
  b : BitVec w
  c : BitVec w
  d : BitVec w
  e : BitVec w
  f : BitVec w
  g : BitVec w
  h : BitVec w

/-- One round with the round constant k and the word m of the schedule. -/
def Sha2.round {w : Nat} (S : Sha2 w) (v : ShaVars w) (k m : BitVec w) : ShaVars w :=
  let t1 := v.h + bigSigma S.big1 v.e + ((v.e &&& v.f) ^^^ (~~~v.e &&& v.g)) + k + m
  let t2 := bigSigma S.big0 v.a + ((v.a &&& v.b) ^^^ (v.a &&& v.c) ^^^ (v.b &&& v.c))
  ⟨t1 + t2, v.a, v.b, v.c, v.d + t1, v.e, v.f, v.g⟩

/-- The rounds of one block; m is the window of sixteen words of the message schedule. -/
def Sha2.rounds {w : Nat} (S : Sha2 w) : List (BitVec w) → List (BitVec w) → ShaVars w → ShaVars w
  | [], _, v => v
  | k :: ks, m, v =>
    let x (i : Nat) : BitVec w := m.getD i 0
    S.rounds ks (m.tail ++ [smallSigma S.small1 (x 14) + x 9 + smallSigma S.small0 (x 1) + x 0]) (S.round v k (x 0))

/-- The hash value h after one block. -/
def Sha2.block {w : Nat} (S : Sha2 w) (h m : List (BitVec w)) : List (BitVec w) :=
  let x (i : Nat) : BitVec w := h.getD i 0
  let v := S.rounds S.k m ⟨x 0, x 1, x 2, x 3, x 4, x 5, x 6, x 7⟩
  List.zipWith (· + ·) h [v.a, v.b, v.c, v.d, v.e, v.f, v.g, v.h]

/-- A list cut into at most k pieces of n. -/
def pieces {α : Type} (n : Nat) : Nat → List α → List (List α)
  | 0, _ => []
  | k + 1, l => l.take n :: pieces n k (l.drop n)

/-- The message with its padding to whole blocks: a bit 1, zeros, the length in bits. -/
def shaPad (w : Nat) (l : List Byte) : List Byte :=
  let size := 2 * w
  let body := l ++ [0x80#8]
  let used := (body.length + w / 4) % size
  body ++ List.replicate (if used = 0 then 0 else size - used) 0#8 ++ beBytes (w / 4) (8 * l.length)

/-- The hash value of a message, as words. -/
def Sha2.hash {w : Nat} (S : Sha2 w) (l : List Byte) : List (BitVec w) :=
  let p := shaPad w l
  let words := (pieces (w / 8) (p.length / (w / 8)) p).map (fun o => BitVec.ofNat w (ofBe o))
  (pieces 16 (words.length / 16) words).foldl S.block S.iv

/-- SHA-384 of a list of octets. -/
@[irreducible] def sha384 (l : List Byte) : BitVec 384 :=
  BitVec.ofNat 384 (((sha2Of384.hash l).take 6).foldl (fun n x => n * 2 ^ 64 + x.toNat) 0)

/-- SHA-256 of a list of octets. -/
def sha256 (l : List Byte) : BitVec 256 := BitVec.ofNat 256 ((sha2Of256.hash l).foldl (fun n x => n * 2 ^ 32 + x.toNat) 0)

/-- HMAC-SHA-256 of octets under a key of 32 octets, the PRF of R333. -/
@[irreducible] def hmacSha256 (key : BitVec 256) (l : List Byte) : BitVec 256 :=
  let k := slice (beBytes 32 key.toNat) 0 64
  sha256 (k.map (· ^^^ 0x5C#8) ++ beBytes 32 (sha256 (k.map (· ^^^ 0x36#8) ++ l)).toNat)

/-! ### AES-128 and GMAC -/

/-- Multiplication by x in GF(2^8), modulo x^8 + x^4 + x^3 + x + 1. -/
def aesTimes2 (a : Byte) : Byte := crcStepL 8 0x1B#8 a

/-- The product in GF(2^8). -/
def aesMul (a b : Byte) : Byte :=
  ((List.range 8).foldl (fun (p : Byte × Byte) i => (if b.getLsbD i then p.1 ^^^ p.2 else p.1, aesTimes2 p.2)) (0#8, a)).1

/-- The S-box: the inverse a^254 (0 for 0), then the affine map. -/
def aesSbox (a : Byte) : Byte :=
  let i := (List.range 6).foldl (fun p _ => aesMul (aesMul p p) a) a
  let x := aesMul i i
  x ^^^ x.rotateLeft 1 ^^^ x.rotateLeft 2 ^^^ x.rotateLeft 3 ^^^ x.rotateLeft 4 ^^^ 0x63#8

/-- The next round key of sixteen octets; rc is the round constant. -/
def aesNextKey (k : List Byte) (rc : Byte) : List Byte :=
  let o (i : Nat) : Byte := k.getD i 0
  let w0 := List.zipWith (· ^^^ ·) (k.take 4) [aesSbox (o 13) ^^^ rc, aesSbox (o 14), aesSbox (o 15), aesSbox (o 12)]
  let w1 := List.zipWith (· ^^^ ·) w0 ((k.drop 4).take 4)
  let w2 := List.zipWith (· ^^^ ·) w1 ((k.drop 8).take 4)
  w0 ++ w1 ++ w2 ++ List.zipWith (· ^^^ ·) w2 (k.drop 12)

/-- SubBytes and ShiftRows; octet 4c + r stands in row r of column c. -/
def aesSubShift (s : List Byte) : List Byte := (List.range 16).map (fun i => aesSbox (s.getD ((i + 4 * (i % 4)) % 16) 0))

/-- MixColumns. -/
def aesMix (s : List Byte) : List Byte := (List.range 16).map (fun i =>
  let o (r : Nat) : Byte := s.getD (4 * (i / 4) + (i + r) % 4) 0
  aesTimes2 (o 0) ^^^ (aesTimes2 (o 1) ^^^ o 1) ^^^ o 2 ^^^ o 3)

/-- AES-128 of one block of sixteen octets. -/
def aes128 (key : List Byte) (block : List Byte) : List Byte :=
  let mid := (List.range 9).foldl (fun (p : List Byte × List Byte × Byte) _ =>
      let k := aesNextKey p.2.1 p.2.2
      (List.zipWith (· ^^^ ·) (aesMix (aesSubShift p.1)) k, k, aesTimes2 p.2.2))
    (List.zipWith (· ^^^ ·) block key, key, 1#8)
  List.zipWith (· ^^^ ·) (aesSubShift mid.1) (aesNextKey mid.2.1 mid.2.2)

/-- The product of GHASH in GF(2^128), bit 0 of a block being its highest. -/
def ghashMul (x y : BitVec 128) : BitVec 128 :=
  ((List.range 128).foldl (fun (p : BitVec 128 × BitVec 128) i =>
    (if x.getMsbD i then p.1 ^^^ p.2 else p.1,
     if p.2.getLsbD 0 then (p.2 >>> 1) ^^^ (0xE1#8 ++ 0#120) else p.2 >>> 1)) (0#128, y)).1

/-- AES-GMAC-128 of octets that are authenticated and not encrypted, under a key and a nonce of 96 bits (R110, R342). -/
@[irreducible] def aesGmac (key : BitVec 128) (nonce : BitVec 96) (l : List Byte) : BitVec 128 :=
  let enc (b : BitVec 128) : BitVec 128 := BitVec.ofNat 128 (ofBe (aes128 (beBytes 16 key.toNat) (beBytes 16 b.toNat)))
  let hk := enc 0
  let blocks := (pieces 16 ((l.length + 15) / 16) l).map (fun o => BitVec.ofNat 128 (ofBe (slice o 0 16)))
  let s := (blocks ++ [BitVec.ofNat 64 (8 * l.length) ++ 0#64]).foldl (fun y b => ghashMul (y ^^^ b) hk) 0
  enc (nonce ++ 1#32) ^^^ s

/-! ### ECDSA P-384 -/

/-- The prime of the field of P-384. -/
def p384 : Nat := 2 ^ 384 - 2 ^ 128 - 2 ^ 96 + 2 ^ 32 - 1
/-- The order of the base point. -/
def n384 : Nat := 0xffffffffffffffffffffffffffffffffffffffffffffffffc7634d81f4372ddf581a0db248b0a77aecec196accc52973
/-- The coefficient b of y^2 = x^3 - 3 x + b. -/
def b384 : Nat := 0xb3312fa7e23ee7e4988e056be3f82d19181d9c6efe8141120314088f5013875ac656398d8a2ed19d2a85c8edd3ec2aef

/-- a^e modulo m, for e below 2^384. -/
def powMod (m a e : Nat) : Nat := (List.range 384).foldl (fun r i => let q := r * r % m; if e.testBit (383 - i) then q * a % m else q) 1

/-- The inverse modulo a prime below 2^384. -/
def invMod (m a : Nat) : Nat := powMod m a (m - 2)

/-- The difference modulo the field prime. -/
def subP (a b : Nat) : Nat := (a + (p384 - b)) % p384

/-- A point of P-384 in Jacobian coordinates: (x / z^2, y / z^3); z 0 is the point at infinity. -/
structure Point384 where
  x : Nat
  y : Nat
  z : Nat

/-- The base point. -/
def g384 : Point384 where
  x := 0xaa87ca22be8b05378eb1c71ef320ad746e1d3b628ba79b9859f741e082542a385502f25dbf55296c3a545e3872760ab7
  y := 0x3617de4a96262c6f5d9e98bf9292dc29f8f41dbd289a147ce9da3113b5f0b8c00a60b1ce1d7e819d7a431d7c90ea0e5f
  z := 1

/-- A point doubled. -/
def Point384.double (a : Point384) : Point384 :=
  let y2 := a.y * a.y % p384
  let z2 := a.z * a.z % p384
  let s := 4 * a.x * y2 % p384
  let m := 3 * subP a.x z2 * (a.x + z2) % p384
  let x := subP (m * m % p384) (2 * s % p384)
  ⟨x, subP (m * subP s x % p384) (8 * y2 * y2 % p384), 2 * a.y * a.z % p384⟩

/-- The sum of two points. -/
def Point384.add (a b : Point384) : Point384 :=
  if a.z = 0 then b
  else if b.z = 0 then a
  else
    let za := a.z * a.z % p384
    let zb := b.z * b.z % p384
    let u := a.x * zb % p384
    let s := a.y * zb * b.z % p384
    let d := subP (b.x * za % p384) u
    let r := subP (b.y * za * a.z % p384) s
    if d = 0 then (if r = 0 then a.double else ⟨1, 1, 0⟩)
    else
      let d2 := d * d % p384
      let d3 := d2 * d % p384
      let ud := u * d2 % p384
      let x := subP (subP (r * r % p384) d3) (2 * ud % p384)
      ⟨x, subP (r * subP ud x % p384) (s * d3 % p384), d * a.z * b.z % p384⟩

/-- A point k times, for k below 2^384. -/
def Point384.times (a : Point384) (k : Nat) : Point384 :=
  (List.range 384).foldl (fun r i => let q := r.double; if k.testBit (383 - i) then q.add a else q) ⟨1, 1, 0⟩

/-- Whether a signature, r then s, of a digest verifies under a public key, X then Y, each of 48 octets most significant first. -/
@[irreducible] def ecdsaOk (key : List Byte) (digest : BitVec 384) (sig : List Byte) : Bool :=
  let x := ofBe (slice key 0 48)
  let y := ofBe (slice key 48 48)
  let r := ofBe (slice sig 0 48)
  let s := ofBe (slice sig 48 48)
  let onCurve := decide (x < p384 ∧ y < p384) && decide (y * y % p384 = (x * x * x + 3 * (p384 - x) + b384) % p384)
  let w := invMod n384 s
  let p := (g384.times (digest.toNat * w % n384)).add ((⟨x, y, 1⟩ : Point384).times (r * w % n384))
  let px := p.x * invMod p384 (p.z * p.z % p384) % p384
  onCurve && decide (1 ≤ r ∧ r < n384 ∧ 1 ≤ s ∧ s < n384) && decide (p.z ≠ 0) && decide (px % n384 = r)

end Sys2Proof.Machine
end

