-- ==== Sys2Proof/Machine/Keys.lean ====
section
/-! DEFINITION. The key block: root, slots, entries, frame tags (R328 to R346). Hashes and MACs are those of their standards (log 6).
An operation ends in the step of its write, so that BUSY never stands between steps (log 12). -/

namespace Sys2Proof.Machine

/-- The ASCII octets of a label, padded with zero octets to 16 (R333). -/
def labelOf (s : String) : List Byte := slice (s.toList.map (fun c => BitVec.ofNat 8 c.toNat)) 0 16

/-- R333: the key derivation. -/
def kdf (kp : BitVec 256) (label ctx : List Byte) : BitVec 256 :=
  hmacSha256 kp ([0, 0, 0, 1] ++ label ++ [0] ++ ctx ++ [0, 0, 1, 0])

/-- CHIP_SERIAL in 8 octets, least significant first (R334). -/
def Hub.serialLe (h : Hub) : List Byte := leBytes 4 (h.rd Reg.CHIP_SERIAL_LO).toNat ++ leBytes 4 (h.rd Reg.CHIP_SERIAL_HI).toNat

/-- 48 octets held in twelve registers, octet 4k in bits 7:0 of register k (Table 13.4). -/
def Hub.rdOctets48 (h : Hub) (reg : Nat → Nat) : List Byte := (List.range 12).flatMap (fun k => leBytes 4 (h.rd (reg k)).toNat)

/-- 48 octets written to twelve registers. -/
def Hub.wrOctets48 (h : Hub) (reg : Nat → Nat) (o : List Byte) : Hub :=
  (List.range 12).foldl (fun g k => g.wr (reg k) (BitVec.ofNat 32 (ofLe (slice o (4 * k) 4)))) h

/-- R334: MIXDIG of the MIX bits PLOIA, REAM, SVN. -/
def Hub.mixDig (h : Hub) (mix : Nat) : List Byte :=
  if mix = 0 then List.replicate 48 0
  else
    let z : List Byte := List.replicate 48 0
    let p := if mix % 2 = 1 then h.rdOctets48 Reg.KEY_MEASP else z
    let r := if mix / 2 % 2 = 1 then h.rdOctets48 Reg.KEY_MEASR else z
    let s := if mix / 4 % 2 = 1 then List.replicate 47 0 ++ [BitVec.ofNat 8 (h.get Fld.KEY_MEASSVN_SVN)] else z
    beBytes 48 (sha384 (p ++ r ++ s)).toNat

/-! ### Slots -/

/-- STATE of KEY_SLOTn_META (Table 13.5). -/
inductive SlotState where
  | empty | valid | spent | dead
deriving DecidableEq, Repr

/-- The coding of STATE. -/
def SlotState.code : SlotState → Nat
  | .empty => 0 | .valid => 1 | .spent => 2 | .dead => 3

/-- The state that a code names. -/
def SlotState.ofCode : Nat → SlotState
  | 1 => .valid | 2 => .spent | 3 => .dead | _ => .empty

/-- The state of a slot. -/
def Hub.slotState (h : Hub) (n : Nat) : SlotState := SlotState.ofCode (h.get (Fld.KEY_SLOT_META_STATE n))

/-- KEY_STATUS follows the slots (Table 13.4). -/
def Hub.keyStatus (h : Hub) : Hub :=
  let dead := ((List.range 64).filter (fun n => h.slotState n = .dead)).length
  let valid := ((List.range 64).filter (fun n => h.slotState n = .valid)).length
  (h.set Fld.KEY_STATUS_DEAD dead).set Fld.KEY_STATUS_VALID valid

/-- R336: the integrity tag of a slot's key, metadata word, count and number, numbers most significant octet first (DESIGN CHOICE,
log 155). -/
def Hub.slotTag (h : Hub) (n : Nat) : BitVec 64 :=
  (hmacSha256 h.keys.ktag (beBytes 32 ((Assoc.get h.keys.keys n).getD 0).toNat ++ beBytes 4 (h.rd (Reg.KEY_SLOT_META n)).toNat ++
    beBytes 4 (h.rd (Reg.KEY_SLOT_USES n)).toNat ++ [BitVec.ofNat 8 n])).extractLsb' 192 64

/-- Whether the tag that a slot holds is that of its contents. -/
def Hub.tagOk (h : Hub) (n : Nat) : Bool := decide (Assoc.get h.keys.tags n = some (h.slotTag n))

/-- R336: the tag is computed again at a change of the slot. -/
def Hub.retag (h : Hub) (n : Nat) : Hub := { h with keys := { h.keys with tags := Assoc.put h.keys.tags n (h.slotTag n) } }

/-- A slot takes a state. -/
def Hub.setSlot (h : Hub) (n : Nat) (s : SlotState) : Hub := (h.set (Fld.KEY_SLOT_META_STATE n) s.code).keyStatus

/-- The uses of USE (R337). -/
inductive KeyUse where
  | gmac | derive | unwrap | hmac
deriving DecidableEq, Repr

/-- The bit of a use. -/
def KeyUse.bit : KeyUse → Nat
  | .gmac => 0 | .derive => 1 | .unwrap => 2 | .hmac => 3

/-- Whether a slot's USE grants a use (R337). -/
def Hub.grants (h : Hub) (n : Nat) (u : KeyUse) : Bool := (h.rd (Reg.KEY_SLOT_META n)).getLsbD (24 + u.bit)

/-- A slot and every slot whose chain of PARENTs reaches it, by slot number; a parent is always lower (R337, R345). -/
def Hub.descendants (h : Hub) (n : Nat) : List Nat :=
  (List.range 64).foldl (fun l k =>
    if k = n ∨ (h.slotState k ≠ .empty ∧ l.contains (h.get (Fld.KEY_SLOT_META_PARENT k))) then l ++ [k] else l) []

/-- The slots of a list become DEAD and their keys and tags are gone. -/
def Hub.kill (h : Hub) (l : List Nat) : Hub :=
  let h1 := l.foldl (fun g n => g.set (Fld.KEY_SLOT_META_STATE n) 3) h
  let h2 := Hub.keyStatus { h1 with keys := { h1.keys with
    keys := h1.keys.keys.filter (fun e => !l.contains e.1)
    tags := h1.keys.tags.filter (fun e => !l.contains e.1) } }
  if l.contains 0 then h2.set Fld.KEY_STATUS_OTK 0 else h2

/-- R336: the tag of a slot fails: the slot dies with its descendants. -/
def Hub.tagFail (h : Hub) (n : Nat) : Hub :=
  (((h.kill (h.descendants n)).count Reg.KEY_CNT_TAGFAIL).evt Fld.KEY_EVT_TAGFAIL).raise Flt.KEYTAG 2 n 0 0

/-- R336 to R338: one use of a slot: its key, or nothing where the use is refused. The tag is checked first; a counted slot gives one use;
the use that takes the count to 0 completes and leaves the slot SPENT. KEY_CNT_USE counts the uses refused as not granted (log 13). -/
def Hub.useSlot (h : Hub) (n : Nat) (u : KeyUse) : Option (BitVec 256) × Hub :=
  if h.slotState n = .spent then
    (none, ((h.count Reg.KEY_CNT_SPENT).evt Fld.KEY_EVT_SPENT).raise Flt.KEYUSE 2 n 0 0)
  else if h.slotState n ≠ .valid ∨ !h.grants n u then (none, h.count Reg.KEY_CNT_USE)
  else if !h.tagOk n then (none, h.tagFail n)
  else
    let key := Assoc.get h.keys.keys n
    if h.is (Fld.KEY_SLOT_META_COUNTED n) then
      let left := (h.rd (Reg.KEY_SLOT_USES n)).toNat - 1
      let h1 := h.wr (Reg.KEY_SLOT_USES n) (BitVec.ofNat 32 left)
      (key, (if left = 0 then h1.setSlot n .spent else h1).retag n)
    else (key, h)

/-- RESULT of KEY_OPSTAT (Table 13.6). -/
inductive KeyResult where
  | done | noRoot | badEntry | badSlot | badParent | noUse | check
deriving DecidableEq, Repr

/-- The coding of RESULT. -/
def KeyResult.code : KeyResult → Nat
  | .done => 1 | .noRoot => 2 | .badEntry => 3 | .badSlot => 4 | .badParent => 5 | .noUse => 6 | .check => 7

/-- The metadata word of an accepted entry (Table 13.5). -/
def slotMeta (e : List Byte) : Word :=
  let k := (e.getD 0 0).toNat
  let f := (e.getD 3 0).toNat
  let uses := ofLe (slice e 4 4)
  BitVec.ofNat 32 (0x40000000 + (f / 128) * 0x20000000 + k * 0x10000000 + (f % 16) * 0x1000000 + (f / 16 % 8) * 0x200000 +
    (if uses = 0 then 0 else 0x100000) + (e.getD 2 0).toNat % 128 * 0x100)

/-- A slot becomes VALID with a key (R339). -/
def Hub.fillSlot (h : Hub) (n : Nat) (w : Word) (uses : Nat) (key : BitVec 256) : Hub :=
  let h1 := (h.wr (Reg.KEY_SLOT_META n) w).wr (Reg.KEY_SLOT_USES n) (BitVec.ofNat 32 uses)
  (Hub.keyStatus { h1 with keys := { h1.keys with keys := Assoc.put h1.keys.keys n key } }).retag n

/-- R340: the key that a wrapped key, its NONCE and octets 1-7 give under a parent, and its CHECK. -/
def unwrapKey (ku : BitVec 256) (nonce oct17 wrapped : List Byte) : BitVec 256 × BitVec 64 :=
  let pad := kdf ku (labelOf "OH-WRAP-PAD") (nonce ++ oct17)
  let key := BitVec.ofNat 256 (ofBe wrapped) ^^^ pad
  (key, (hmacSha256 ku (labelOf "OH-WRAP-CHECK" ++ beBytes 32 key.toNat ++ oct17 ++ nonce)).extractLsb' 192 64)

/-- R339: APPLY of one entry of Table 13.2, checked in the table's order. -/
def Hub.applyEntry (h : Hub) (e : List Byte) : KeyResult × Hub :=
  let kind := (e.getD 0 0).toNat
  let slot := (e.getD 1 0).toNat
  let par := (e.getD 2 0).toNat
  let mix := (e.getD 3 0).toNat / 16 % 8
  let need : KeyUse := if kind = 0 then .derive else .unwrap
  match h.keys.root with
  | none => (.noRoot, h)
  | some root =>
    if 1 < kind ∨ 63 < slot ∨ (kind = 0 ∧ (slice e 24 40).any (· ≠ 0)) ∨ (kind = 1 ∧ mix ≠ 0) then (.badEntry, h)
    else if h.slotState slot ≠ .empty then (.badSlot, h)
    else if par ≠ 0x7F ∧ (slot ≤ par ∨ h.slotState par ≠ .valid) then (.badParent, h)
    else if (par = 0x7F ∧ kind = 1) ∨ (par ≠ 0x7F ∧ !h.grants par need) then (.noUse, h)
    else
      let u := if par = 0x7F then (some root, h) else h.useSlot par need
      match u.1 with
      | none => (.noUse, u.2)
      | some kp =>
        if kind = 0 then
          (.done, u.2.fillSlot slot (slotMeta e) (ofLe (slice e 4 4)) (kdf kp (slice e 8 16) (h.mixDig mix ++ h.serialLe)))
        else
          let r := unwrapKey kp (slice e 8 16) (slice e 1 7) (slice e 24 32)
          if beBytes 8 r.2.toNat = slice e 56 8 then (.done, u.2.fillSlot slot (slotMeta e) (ofLe (slice e 4 4)) r.1)
          else (.check, u.2)

/-- KEY_OPSTAT after an operation (Table 13.6). -/
def Hub.opStat (h : Hub) (slot : Nat) (r : KeyResult) : Hub :=
  h.wr Reg.KEY_OPSTAT (BitVec.ofNat 32 (256 * (slot % 128) + r.code))

/-- The staged entry, octet 4k in bits 7:0 of KEY_STAGEk. -/
def Hub.stage (h : Hub) : List Byte := (List.range 16).flatMap (fun k => leBytes 4 (h.rd (Reg.KEY_STAGE k)).toNat)

/-- A KEY_OP write with OP 1 (R346). -/
def Hub.keyApply (h : Hub) : Hub :=
  let r := h.applyEntry h.stage
  r.2.opStat (h.stage.getD 1 0).toNat r.1

/-- KEY_APPLY (R339, R346). -/
def execKeyApply (req : Req) (s : State) : Host.Outcome State Fault Refusal :=
  s.on (fun h => h.writing req Reg.KEY_OP Hub.keyApply)

/-- A KEY_OP write with OP 2 (R345): 0x7F erases the root and every slot; a number that names no slot ends BADSLOT (log 14). -/
def Hub.keyDestroy (h : Hub) (n : Nat) : Hub :=
  if n = 0x7F then
    let h1 := Hub.kill { h with keys := { h.keys with root := none, ktag := 0 } } (List.range 64)
    (h1.set Fld.KEY_STATUS_ROOTDEAD 1).opStat n .done
  else if n < 64 then (h.kill (h.descendants n)).opStat n .done
  else h.opStat n .badSlot

/-- KEY_DESTROY (R345). -/
def execKeyDestroy (req : Req) (slot : BitVec 7) (s : State) : Host.Outcome State Fault Refusal :=
  s.on (fun h => h.writing req Reg.KEY_OP (fun h => h.keyDestroy slot.toNat))

/-- R336, Table 14.4: a scrub finds that the tag of a slot fails; FLT_BIST as well. -/
def Hub.scrubFail (h : Hub) (n : Nat) : Hub :=
  if h.slotState n = .empty ∨ h.slotState n = .dead ∨ 64 ≤ n then h else (h.tagFail n).bistFail 2 n n

/-- R336: the scrub checks the tag of every slot that is not EMPTY (DEAD slots hold nothing). -/
def Hub.scrub (h : Hub) : Hub := (List.range 64).foldl (fun (g : Hub) n =>
    if g.slotState n = .empty ∨ g.slotState n = .dead ∨ g.tagOk n then g else g.scrubFail n) h

/-- Bits of a slot's stored key have changed. -/
def Hub.upset (h : Hub) (n : Nat) (bits : BitVec 256) : Hub :=
  match Assoc.get h.keys.keys n with
  | some k => { h with keys := { h.keys with keys := Assoc.put h.keys.keys n (k ^^^ bits) } }
  | none => h

/-- KEY_SCRUB (R336): upsets tells which bits of stored keys have changed before it. -/
def execKeyScrub (upsets : List (Fin 64 × BitVec 256)) (s : State) : Host.Outcome State Fault Refusal :=
  s.on (fun h => h.onPeriod .keyScrub (ms 100) (fun g => (upsets.foldl (fun (k : Hub) u => k.upset u.1.val u.2) g).scrub))

/-! ### Tag keys -/

/-- A field of KEY_RSELr: enable bit and slot, at bit positions 7 and 0 of octet k (0 CURN, 1 NXTN, 2 CURS, 3 NXTS). -/
def rselEntry (w : Word) (k : Nat) : Option Nat :=
  if w.getLsbD (8 * k + 7) then some (w.extractLsb' (8 * k) 6).toNat else none

/-- R343: whether a KEY_RSELr value names only slots that are VALID, grant GMAC and are of the field's world; slot 0 and
slots with UNWRAP never serve GMAC (R344). -/
def Hub.rselOk (h : Hub) (v : Word) : Bool :=
  (List.range 4).all (fun k => match rselEntry v k with
    | none => true
    | some n => decide (h.slotState n = .valid) && h.grants n .gmac && decide (n ≠ 0) && !h.grants n .unwrap &&
        (h.is (Fld.KEY_SLOT_META_WORLD n) == decide (2 ≤ k)))

/-- A write of KEY_RSELr (R343). -/
def Hub.rselWrite (h : Hub) (r : Nat) (v : Word) : Hub :=
  if h.rselOk v then h.wr (Reg.KEY_RSEL r) (v &&& 0xBFBFBFBF#32) else h.evt Fld.KEY_EVT_RSELREF

/-- KEY_RSEL_WRITE (R343). -/
def execKeyRselWrite (req : Req) (r : Fin 16) (v : Word) (s : State) : Host.Outcome State Fault Refusal :=
  s.on (fun h => h.writing req (Reg.KEY_RSEL r.val) (fun h => h.rselWrite r.val v))

/-- R342: the GMAC nonce of a frame. -/
def Header.nonce (h : Header) : BitVec 96 :=
  h.shub ++ h.sring ++ h.stream ++ h.seq ++ h.stamp.extractLsb' 16 32 ++ h.stamp.extractLsb' 48 24

/-- R342: the GMAC tag of a frame under a slot's key, octets 0-15 of it. -/
def Frame.tagUnder (f : Frame) (key : BitVec 256) : BitVec 128 :=
  aesGmac (key.extractLsb' 128 128) f.hdr.nonce f.tagged

/-- R343: a frame that this hub originates is tagged under CUR of its ring and world; where CUR is disabled or its slot
refuses the use, it is not sent. -/
def Hub.tagFrame (h : Hub) (f : Frame) : Option Frame × Hub :=
  let fail (g : Hub) : Hub := ((g.count Reg.KEY_CNT_NOKEY).evt Fld.KEY_EVT_NOKEY).raise Flt.KEYUSE 2 0 1 0
  match rselEntry (h.rd (Reg.KEY_RSEL f.hdr.sring.toNat)) (if f.hdr.world then 2 else 0) with
  | none => (none, fail h)
  | some n =>
    let u := h.useSlot n .gmac
    match u.1 with
    | none => (none, fail u.2)
    | some key => (some { f with gmac := f.tagUnder key }, u.2)

/-- R343: a consumed frame with AUTH is checked under CUR, then NXT, of its SRING and WORLD. Where both fail it is counted
and FLT_GMAC raised (R110). -/
def Hub.tagCheck (h : Hub) (l : Nat) (f : Frame) : Bool × Hub :=
  let w := h.rd (Reg.KEY_RSEL f.hdr.sring.toNat)
  let k := if f.hdr.world then 2 else 0
  let tryOne (g : Hub) (e : Option Nat) : Bool × Hub := match e with
    | none => (false, g)
    | some n =>
      let u := g.useSlot n .gmac
      match u.1 with
      | none => (false, u.2)
      | some key => (decide (f.gmac = f.tagUnder key), u.2)
  let a := tryOne h (rselEntry w k)
  if a.1 then a
  else
    let b := tryOne a.2 (rselEntry w (k + 1))
    if b.1 then (true, b.2.count Reg.KEY_CNT_NXT)
    else (false, (b.2.count (Reg.RING_CNT_GMAC l)).raise Flt.GMAC (4 + l) l f.hdr.shub.toNat f.hdr.seq.toNat)

/-- R61, R110: the tag of a received frame of ring operation, which its own step consumes: good where AUTH is clear. -/
def Hub.opTag (h : Hub) (l : Nat) (f : Frame) : Bool × Hub := if f.hdr.auth then h.tagCheck l f else (true, h)

/-- R343: whether a frame that this hub originates in a class carries AUTH. -/
def Hub.authClass (h : Hub) (world : Bool) (c : Nat) : Bool :=
  (h.rd Reg.KEY_AUTHCFG).getLsbD (if world then c else 8 + c)

/-! ### OTK, fuses -/

/-- Octets 1-7 under which the OTK is sealed (R340). -/
def otkOct17 : List Byte := [0x00, 0x7F, 0x84, 0, 0, 0, 0]

/-- R340: KSEAL of this part. -/
def Hub.kseal (h : Hub) (root : BitVec 256) : BitVec 256 :=
  kdf root (labelOf "OH-OTK-SEAL") (List.replicate 48 0 ++ h.serialLe)

/-- R340: the OTK sealed, with its check. -/
def Hub.sealOtk (h : Hub) (root key : BitVec 256) : BitVec 256 × BitVec 64 :=
  let ks := h.kseal root
  let z : List Byte := List.replicate 16 0
  (key ^^^ kdf ks (labelOf "OH-WRAP-PAD") (z ++ otkOct17),
   (hmacSha256 ks (labelOf "OH-WRAP-CHECK" ++ beBytes 32 key.toNat ++ otkOct17 ++ z)).extractLsb' 192 64)

/-- R329: whether helper copy B is the one in use. -/
def KeyStore.useB (k : KeyStore) : Bool := k.pufB.valid && (!k.pufA.valid || decide (k.pufA.gen < k.pufB.gen))

/-- R341: the copy not in use is written with GEN one higher, then the other copy; okFirst and okSecond tell whether each write
read back right. -/
def Hub.otkWrite (h : Hub) (key : BitVec 256) (okFirst okSecond : Bool) : Hub :=
  match h.keys.root with
  | none => h
  | some root =>
    let k := h.keys
    let o := h.sealOtk root key
    let g := (if k.useB then k.pufB.gen else k.pufA.gen) + 1
    let new : PufCopy := ⟨true, g, some o⟩
    let bad : PufCopy := ⟨false, g, none⟩
    let k1 := if k.useB then { k with pufA := if okFirst then new else bad } else { k with pufB := if okFirst then new else bad }
    let k2 := if !okFirst then k1
      else if k.useB then { k1 with pufB := if okSecond then new else bad } else { k1 with pufA := if okSecond then new else bad }
    { h with keys := k2 }

/-- R423: a flash write or fuse blow that arrives while DEFER is set waits. -/
def Hub.unlessDefer (h : Hub) (req : Req) (r : FlashReq) (f : Hub → Hub) : Hub :=
  if h.is Fld.PWR_SUPSTAT_DEFER then { h with flash := { h.flash with waits := h.flash.waits ++ [(r, req, h.clock)] } } else f h

/-- OTK_PROVISION (R341): over the service port, from the secure world. -/
def execOtkProvision (req : Req) (key : BitVec 256) (okFirst okSecond : Bool) (s : State) :
    Host.Outcome State Fault Refusal :=
  s.on (fun h =>
    if !req.secure ∨ req.origin ≠ .service then h
    else h.unlessDefer req (.otk key okFirst okSecond) (fun g => g.otkWrite key okFirst okSecond))

/-- A fuse set that blows once. -/
def OwnerFuse.blow (f : OwnerFuse) (digest : Option (BitVec 384)) : OwnerFuse :=
  match digest with
  | some d => if f.digest.isNone then { f with digest := some d } else f
  | none => { f with revoked := true }

/-- R332: a digest, or with none the revoke fuse, of a set is blown. -/
def Hub.fuseBlow (h : Hub) (set : Nat) (digest : Option (BitVec 384)) : Hub :=
  { h with keys := { h.keys with fuses := h.keys.fuses.zipIdx.map (fun f => if f.2 = set then f.1.blow digest else f.1) } }

/-- OWNER_FUSE_BLOW (R332): over the service port, from the secure world. -/
def execOwnerFuseBlow (req : Req) (set : Fin 4) (digest : Option (BitVec 384)) (s : State) :
    Host.Outcome State Fault Refusal :=
  s.on (fun h =>
    if req.secure ∧ req.origin = .service then
      h.unlessDefer req (.fuse set.val digest) (fun g => g.fuseBlow set.val digest)
    else h)

/-! ### Start-up -/

/-- R328 to R330, R335: the boot ROM takes the valid helper copy and reconstructs the root; slot 0 takes the OTK later. -/
def Hub.bootRoot (h : Hub) : Hub :=
  let k := h.keys
  if k.pufA.valid ∨ k.pufB.valid then
    let root := Config.pufRoot
    (Hub.flag { h with keys := { k with
        root := some root, ktag := kdf root (labelOf "OH-SLOT-TAG") (List.replicate 48 0 ++ h.serialLe), keys := [], tags := [] } }
      Fld.KEY_STATUS_HELPERB k.useB)
  else (Hub.set { h with keys := { k with root := none, ktag := 0, keys := [], tags := [] } } Fld.KEY_STATUS_NOROOT 1).raise Flt.PUF 2 0 0 0

/-- R341: Ploia fills slot 0 with the OTK where the helper copy in use holds one: PARENT 0x7F, secure, UNWRAP, uncounted. -/
def Hub.bootOtk (h : Hub) : Hub :=
  match h.keys.root, (if h.keys.useB then h.keys.pufB.otk else h.keys.pufA.otk) with
  | some root, some o =>
    let r := unwrapKey (h.kseal root) (List.replicate 16 0) otkOct17 (beBytes 32 o.1.toNat)
    if r.2 = o.2 then (h.fillSlot 0 0x64007F00#32 0 r.1).set Fld.KEY_STATUS_OTK 1 else h
  | _, _ => h

end Sys2Proof.Machine
end

