-- ==== Sys2Proof/Machine/TimeBase.lean ====
section
/-! DEFINITION. Time, stamps and the release horizon: the counter and its increment, horizons, the store of the release
stage, the grandmaster, time frames, PPS (R42 to R79). Phase steps and TIME_OFFSET, which reach other blocks, are in
TimeServo.lean; the delivery to queues is in SwitchCore.lean. -/

namespace Sys2Proof.Machine

/-! ### The counter -/

/-- R42, R44, R46: one TIME tick. A committed increment takes effect; a slewing tick adds the half increment, and the last
one TIME_INC less the part still to be withheld. -/
def TimeBase.tick (t : TimeBase) : TimeBase :=
  let t1 := { t with inc := t.incNext.getD t.inc, incNext := none }
  match t1.slew with
  | none => t1.add t1.inc.toNat
  | some rest =>
    if t1.share < rest then { t1.add t1.half with slew := some (rest - t1.share) }
    else { t1.add (t1.inc.toNat - rest) with slew := none }

/-- One TIME tick of 2.5 ns: the model's clock advances with the counter; the last slewing tick clears BUSY (R48). -/
def Hub.tick (h : Hub) : Hub :=
  let h1 := { h with clock := h.clock + 2500, time := h.time.tick, fresh := [] }
  if h.time.slew.isSome ∧ h1.time.slew = none then
    (h1.set Fld.TIME_STEP_CTL_BUSY 0).set Fld.TIME_STEP_CTL_SLEW 0
  else h1

/-- R65: whether the request comes from the servo owner: Ploia with OWNER 0, host software with OWNER 1. -/
def Hub.isOwner (h : Hub) (req : Req) : Bool :=
  if h.is Fld.TIME_LOCK_CTL_OWNER then decide (req.origin = .host) else decide (req.origin = .ploia)

/-- R65: a write that only the servo owner may make. -/
def Hub.ownerWrite (h : Hub) (req : Req) (a : Nat) (f : Hub → Hub) : Hub :=
  h.writing req a (fun h => if h.isOwner req then f h else h.evt Fld.TIME_STATUS_OWNREJ)

/-- A 48-bit increment or bound held in a HI and a LO register (R44, Table 02.10). -/
def Hub.incAt (h : Hub) (lo hi : Nat) : Nat := (h.rd hi).toNat % 65536 * 0x100000000 + (h.rd lo).toNat

/-- R31, R32, R45: INCSAT shows a value at a bound; FLT_TINCSAT is raised once on entry, and cleared by 1 s inside. -/
def Hub.incSaturate (h : Hub) (sat : Bool) : Hub :=
  let h1 := h.flag Fld.TIME_STATUS_INCSAT sat
  if sat then
    let h2 := h1.disarm .incsat
    if h.time.incSatHeld then h2
    else Hub.raise { h2 with time := { h2.time with incSatHeld := true } } Flt.TINCSAT 1 0 0 0
  else if h.time.incSatHeld ∧ !h.armed .incsat then h1.arm .incsat (ms 1000) else h1

/-- R45: the bounds of the increment. -/
def Hub.incBounds (h : Hub) : Nat × Nat :=
  (h.incAt Reg.TIME_INC_MIN_LO Reg.TIME_INC_MIN_HI, h.incAt Reg.TIME_INC_MAX_LO Reg.TIME_INC_MAX_HI)

/-- R32, R45: the increment last committed is judged against its bounds, when it is committed and when a bound is written. -/
def Hub.incJudge (h : Hub) : Hub :=
  let c := (h.time.incNext.getD h.time.inc).toNat
  h.incSaturate (decide (h.incBounds.1 ≠ h.incBounds.2) && (c == h.incBounds.1 || c == h.incBounds.2))

/-- R44, R45: TIME_INC_HI commits the increment with TIME_INC_LO, clamped into its bounds. -/
def Hub.incCommit (h : Hub) (value : Word) : Hub :=
  let v := value.toNat % 65536 * 0x100000000 + (h.rd Reg.TIME_INC_LO).toNat
  let c := max h.incBounds.1 (min h.incBounds.2 v)
  let h1 := (h.wr Reg.TIME_INC_LO (BitVec.ofNat 32 c)).wr Reg.TIME_INC_HI (BitVec.ofNat 32 (c / 0x100000000))
  Hub.incJudge { h1 with time := { h1.time with incNext := some (BitVec.ofNat 48 c) } }

/-- TIME_INC_COMMIT (R44, R45, R65). -/
def execTimeIncCommit (req : Req) (value : Word) (s : State) : Host.Outcome State Fault Refusal :=
  s.on (fun h => h.ownerWrite req Reg.TIME_INC_HI (fun h => h.incCommit value))

/-- TINCSAT_RELEASE (R31, R45): 1 s strictly inside the bounds clears the source. -/
def execTincsatRelease (s : State) : Host.Outcome State Fault Refusal :=
  s.on (fun h => h.onDue .incsat (fun h => { h with time := { h.time with incSatHeld := false } }))

/-- R53: the increment A that the counter adds in the present tick: TIME_INC, or the half increment of R46 during a slew. -/
def TimeBase.added (t : TimeBase) : Nat :=
  let inc := (t.incNext.getD t.inc).toNat
  if t.slew.isSome then inc / 2 else inc

/-- R53: a sample of a sampler outside the TIME island as a stamp: the counter at its tick, and its offset within the tick scaled by
A / 2.5 ns. -/
def Hub.sampled (h : Hub) (x : Sample) : Stamp := x.tick + x.sub * h.time.added / (2500 * 0x1000000)

/-- SLEW_END (R46): the tick in which the rest of the step is withheld; before it nothing happens. -/
def execSlewEnd (s : State) : Host.Outcome State Fault Refusal :=
  s.on (fun h => match h.time.slew with
    | some rest => if rest ≤ { h.time with inc := h.time.incNext.getD h.time.inc }.share then h.tick else h
    | none => h)

/-- A read of TIME_NOW_NS (Tables 02.6 to 02.8): NS, with SEC and FRAC of the same tick latched. -/
def Hub.timeNowRead (h : Hub) : Word × Hub :=
  let n := h.now
  (BitVec.ofNat 32 n.ns,
   ((h.wr Reg.TIME_NOW_NS (BitVec.ofNat 32 n.ns)).wr Reg.TIME_NOW_SEC (BitVec.ofNat 32 n.sec)).wr Reg.TIME_NOW_HI
     (BitVec.ofNat 32 (n.frac * 65536 + n.sec / 0x100000000 % 65536)))

/-- TIME_NOW_READ (Tables 02.6 to 02.8). -/
def execTimeNowRead (req : Req) (s : State) : Host.Outcome State Fault Refusal :=
  s.on (fun h => h.reading req Reg.TIME_NOW_NS Hub.timeNowRead)

/-! ### Lock -/

/-- R66: entering UNLOCKED from another state sets LOCKLOST and raises FLT_TLOCK; ALIVE condition 3 fails (R362). -/
def Hub.unlock (h : Hub) : Hub :=
  ((((h.set Fld.TIME_STATUS_LOCK 0).evt Fld.TIME_STATUS_LOCKLOST).disarm .holdover).raise Flt.TLOCK 1 0 0 0).aliveCheck

/-- OFFSET_FRESHNESS_EXPIRY (Table 02.3). -/
def execOffsetFreshnessExpiry (s : State) : Host.Outcome State Fault Refusal :=
  s.on (fun h => h.onDue .fresh (fun h =>
    if h.get Fld.TIME_STATUS_LOCK = 1 then
      if 0 < h.get Fld.TIME_LOCK_CTL_HOLD then
        ((h.set Fld.TIME_STATUS_LOCK 2).arm .holdover (ms (h.get Fld.TIME_LOCK_CTL_HOLD))).aliveCheck
      else h.unlock
    else h))

/-- HOLDOVER_EXPIRY (Table 02.3). -/
def execHoldoverExpiry (s : State) : Host.Outcome State Fault Refusal :=
  s.on (fun h => h.onDue .holdover (fun h => if h.get Fld.TIME_STATUS_LOCK = 2 then h.unlock else h))

/-! ### Horizons -/

/-- R72: a horizon clamped into HMIN to HMAX of its class, in ns. -/
def Hub.clampHorizon (h : Hub) (c v : Nat) : Nat :=
  max (1000 * h.get (Fld.TIME_HBOUND_HMIN c)) (min (1000 * h.get (Fld.TIME_HBOUND_HMAX c)) v)

/-- The horizon changes of a class, newest first. -/
def TimeBase.changesOf (t : TimeBase) (c : Nat) : List HorizonChange := (Assoc.get t.changes c).getD []

/-- R73: the switch stamp that TIME_HCHG_SEC and TIME_HCHG_NS set, or the acceptance time with NOW; and whether it lay
in the past, which makes it the acceptance time. -/
def Hub.switchStamp (h : Hub) : Stamp × Bool :=
  if h.is Fld.TIME_HCHG_NS_NOW then (h.now, false)
  else
    let s := Stamp.restore h.now (h.rd Reg.TIME_HCHG_SEC).toNat (h.get Fld.TIME_HCHG_NS_NS) 0
    if s < h.now then (h.now, true) else (s, false)

/-- R74: once the switch stamp of an armed change has passed, the horizon in force for new stamps is the new one, HCHGDONE is set
and the change recorded. While a change of another class stays armed, CLASS and H_NEW show the completed one beside PEND 1, where Table
02.19 names the armed one (DESIGN CHOICE, log 131). -/
def Hub.horizonSwitch (h : Hub) (c : Nat) : Hub :=
  match h.time.changesOf c with
  | x :: older =>
    if x.armed ∧ x.at_ ≤ h.now then
      let ch := Assoc.put h.time.changes c ({ x with armed := false } :: older)
      let more := ch.any (fun e => e.2.any (fun y => y.armed))
      ((((Hub.evt { h with time := { h.time with changes := ch } } Fld.TIME_STATUS_HCHGDONE).wr
        (Reg.TIME_HORIZON c) (BitVec.ofNat 32 x.new)).set Fld.TIME_HCHG_STAT_CLASS c).set
        Fld.TIME_HCHG_STAT_H_NEW x.new).flag Fld.TIME_HCHG_STAT_PEND more
    else h
  | [] => h

/-- R73, R74: a write of TIME_HORIZONc. Before seal it sets the horizon at once; after, it arms a change at S, in place
of an armed one whose S has not passed. -/
def Hub.horizonWrite (h : Hub) (c : Nat) (value : Word) : Hub :=
  let v := h.clampHorizon c (value.toNat % 0x100000)
  if !h.sealed_ then h.wr (Reg.TIME_HORIZON c) (BitVec.ofNat 32 v)
  else
    let g := h.horizonSwitch c
    let s := g.switchStamp
    let olds := (g.time.changesOf c).filter (fun x => !x.armed)
    let old := g.get (Fld.TIME_HORIZON_H c)
    let h1 := { g with time := { g.time with changes := Assoc.put g.time.changes c (⟨s.1, old, v, true⟩ :: olds) } }
    let h2 := ((h1.set Fld.TIME_HCHG_STAT_PEND 1).set Fld.TIME_HCHG_STAT_CLASS c).set Fld.TIME_HCHG_STAT_H_NEW v
    if s.2 then h2.evt Fld.TIME_STATUS_HCHGLATE else h2

/-- TIME_HORIZON_WRITE (R72 to R74). -/
def execTimeHorizonWrite (req : Req) (c : Fin 8) (value : Word) (s : State) : Host.Outcome State Fault Refusal :=
  s.on (fun h => h.writing req (Reg.TIME_HORIZON c.val) (fun h => h.horizonWrite c.val value))

/-- HORIZON_SWITCH (R74). -/
def execHorizonSwitch (c : Fin 8) (s : State) : Host.Outcome State Fault Refusal := s.on (fun h => h.horizonSwitch c.val)

/-- Nanoseconds as stamp units. -/
def nsec (n : Nat) : Nat := n * 65536

/-- R67, R73: the release time of a stamp under the changes of its class, newest first, h0 the horizon before them. -/
def releaseBy (h0 : Nat) : List HorizonChange → Stamp → Stamp
  | [], s => s + nsec h0
  | x :: older, s => if s < x.at_ then releaseBy h0 older s else max (s + nsec x.new) (x.at_ + nsec x.old)

/-- R67: the release time of an event of class c stamped s. -/
def Hub.releaseTime (h : Hub) (c : Nat) (s : Stamp) : Stamp :=
  let l := h.time.changesOf c
  let h0 := match l.getLast? with
    | some x => x.old
    | none => h.get (Fld.TIME_HORIZON_H c)
  releaseBy h0 l s

/-- R19: whether a C4-C7 frame is past the staleness bound of its class. -/
def Hub.stale (h : Hub) (hdr : Header) : Bool :=
  decide (4 ≤ hdr.cls.toNat) && decide (h.releaseTime hdr.cls.toNat (Stamp.ofFrame h.now hdr.stamp) < h.now)

/-- R19: a stale frame is counted in its class's late counter; no fault source is raised. -/
def Hub.countStale (h : Hub) (hdr : Header) : Hub := if h.stale hdr then h.count (Reg.TIME_LATECNT hdr.cls.toNat) else h

/-! ### The store -/

/-- R67: sequence a is before b when (b - a) mod 2^16 lies in 1 to 32,767. -/
def seqBefore (a b : BitVec 16) : Bool := decide (1 ≤ (b - a).toNat) && decide ((b - a).toNat ≤ 32767)

/-- R67: the total order of events: release time, stamp, source ring, source hub, stream, sequence. -/
def Pending.before (a b : Pending) : Bool :=
  if a.release ≠ b.release then decide (a.release < b.release)
  else if a.ev.stamp ≠ b.ev.stamp then decide (a.ev.stamp < b.ev.stamp)
  else if a.ev.ring ≠ b.ev.ring then decide (a.ev.ring < b.ev.ring)
  else if a.ev.hub ≠ b.ev.hub then decide (a.ev.hub < b.ev.hub)
  else if a.ev.stream ≠ b.ev.stream then decide (a.ev.stream < b.ev.stream)
  else seqBefore a.ev.seq b.ev.seq

/-- R68: an event takes its place in the store by its key. -/
def storeInsert (e : Pending) : List Pending → List Pending
  | [] => [e]
  | x :: t => if e.before x then e :: x :: t else x :: storeInsert e t

/-- The key of R67 of a C0-C3 frame that a block has taken. -/
def Hub.actKey (h : Hub) (a : Act) : Pending :=
  ⟨⟨0, Stamp.ofFrame h.now a.frame.hdr.stamp, a.frame.hdr.sring, a.frame.hdr.shub, a.frame.hdr.stream, a.frame.hdr.seq, false, a.fid⟩,
   a.due, false, false⟩

/-- R69: whether frame a is applied before frame b, which the same block has taken earlier: both in C0-C3, a first in the total order. -/
def Hub.actBefore (h : Hub) (a b : Act) : Bool :=
  decide (a.port = b.port) && decide (a.frame.hdr.cls.toNat ≤ 3) && decide (b.frame.hdr.cls.toNat ≤ 3) && (h.actKey a).before (h.actKey b)

/-- R40, R69: a frame that a block takes stands among those it has taken in the total order. -/
def actInsert (before : Act → Act → Bool) (a : Act) : List Act → List Act
  | [] => [a]
  | b :: t => if before a b then a :: b :: t else b :: actInsert before a t

/-- A block takes a frame from its output, to perform it in the steps of its chapter. -/
def Hub.take (h : Hub) (a : Act) : Hub := { h with acts := actInsert h.actBefore a h.acts }

/-- Whether a copy of a frame waits for release towards a consumer in HP or MC. -/
def QCopy.queued (q : QCopy) (fid : Nat) : Bool :=
  decide (q.fid = fid) && decide (q.wait = .release) && ((q.outp == 9 && !q.frame.bridge) || q.outp == 10)

/-- Whether a copy of a frame waits for release towards a timed consumer, in EV, CL0-CL7 or PB. -/
def QCopy.timed (q : QCopy) (fid : Nat) : Bool :=
  decide (q.fid = fid) && decide (q.wait = .release) && decide (11 ≤ q.outp)

/-- R156, R69: the copies of a frame towards the timed consumers in EV, CL0-CL7 and PB are handed over. A frame of EV's
own (R262) has a copy without cells, which EV takes at once. rel is the release time by which they act. -/
def Hub.handOver (h : Hub) (e : EventRef) (rel : Stamp) (late : Bool) : Hub :=
  if h.is Fld.FLT_STATUS_GRAVE then h else
  let mine := h.sw.copies.filter (fun q => q.timed e.copyId)
  let inner := mine.filter (fun q => q.cells.isEmpty)
  let cs := h.sw.copies.filterMap (fun q =>
    if q.timed e.copyId then (if q.cells.isEmpty then none else some { q with wait := .timed, late := late, due := rel }) else some q)
  let h0 : Hub := { h with sw := { h.sw with copies := cs } }
  let h1 := inner.foldl (fun (g : Hub) q => g.take ⟨q.outp, q.fid, q.frame, late, rel, false, false, q.inp⟩) h0
  ((mine.filter (fun q => !q.cells.isEmpty)).foldl (fun (g : Hub) q => g.enqueue (32 + q.outp) q.id) h1).emit (.handover e)

/-- The copies of a frame that wait for release are dropped and their cells freed (R76). -/
def Hub.dropWaiting (h : Hub) (fid : Nat) : Hub :=
  (h.sw.copies.filter (fun q => decide (q.fid = fid) && decide (q.wait = .release))).foldl (fun g q => g.dropCopy q) h

/-- R155: the copies of a frame that wait for release enter their consumer queues, marked LATE where it is; copies towards
other outputs enter their VOQs. Once the grave latch is set no event is delivered to a local consumer (R359). -/
def Hub.deliver (h : Hub) (e : EventRef) (rel : Stamp) (late : Bool) : Hub :=
  if h.is Fld.FLT_STATUS_GRAVE then h.dropWaiting e.copyId
  else
    let mine := h.sw.copies.filter (fun q => q.queued e.copyId)
    let cs := h.sw.copies.map (fun q =>
      if q.queued e.copyId then { q with wait := .consumer, late := late, due := rel, frame := q.frame.marked late }
      else if q.fid = e.copyId ∧ q.wait = .release then { q with wait := .voq, late := late, due := rel } else q)
    let outs := ((h.sw.copies.filter (fun q => decide (q.fid = e.copyId) && decide (q.wait = .release))).map (·.outp)).eraseDups
    let h1 := mine.foldl (fun (g : Hub) q => g.enqueue (queueNo q.outp q.cls) q.id) { h with sw := { h.sw with copies := cs } }
    outs.foldl (fun (g : Hub) o => g.lowStart o (h.lowWaits o)) h1

/-- Frames whose consumers act on receipt (R49, R68). -/
def Hub.force (h : Hub) (l : List Nat) : Hub := { h with time := { h.time with forced := l ++ h.time.forced } }

/-- R68: an event that is passed on at once; a timed consumer still waits for a release time that is 16 ns ahead or more. -/
def Hub.passOn (h : Hub) (e : EventRef) : Hub :=
  let rel := h.releaseTime e.cls.val e.stamp
  let ahead := e.timed && decide (h.now + nsec 16 ≤ rel)
  let h1 := if ahead then h else h.force [e.copyId]
  (if e.timed then h1.handOver e rel true else h1).deliver e rel true

/-- RELEASE_ARRIVAL (R20, R68, R71, R73, R76, R375). -/
def Hub.releaseArrival (h : Hub) (e : EventRef) : Hub :=
  if !h.is Fld.TIME_STATUS_OPEN then (h.count Reg.TIME_PRECNT).dropWaiting e.copyId
  else
    let rel := h.releaseTime e.cls.val e.stamp
    let dead := if e.timed then rel - nsec 16 else rel
    let h1 := h.logBin (16 + e.cls.val) (if rel ≤ h.now then 0 else min 63 ((rel - h.now) / nsec 16000))
    if dead < h.now then ((h1.count (Reg.TIME_LATECNT e.cls.val)).raise Flt.LATE 1 0 e.cls.val 0).passOn e
    else if 8192 ≤ h.time.store.length then ((h1.count Reg.TIME_FULLCNT).raise Flt.RELFULL 1 0 e.cls.val 0).passOn e
    else
      let now1 := e.timed && decide (rel - h.now ≤ nsec 1000)
      let h2 := { h1 with time := { h1.time with store := storeInsert ⟨e, rel, now1, false⟩ h1.time.store } }
      if now1 then h2.handOver e rel false else h2

/-- RELEASE_ARRIVAL: the switch core hands the release stage one reference (R156). -/
def execReleaseArrival (e : EventRef) (s : State) : Host.Outcome State Fault Refusal := s.on (fun h => h.releaseArrival e)

/-- R68, R69: every event of the store that names a timed consumer, is not yet handed over and is due within 1,000 ns,
is handed over, in order. -/
def Hub.timedHandover (h : Hub) : Hub :=
  let now := h.now
  let sel (p : Pending) : Bool := p.ev.timed && !p.handed && decide (p.release - now ≤ nsec 1000)
  let h1 := { h with time := { h.time with store := h.time.store.map (fun p => if sel p then { p with handed := true } else p) } }
  (h.time.store.filter sel).foldl (fun h p => h.handOver p.ev p.release false) h1

/-- TIMED_HANDOVER (R69). -/
def execTimedHandover (s : State) : Host.Outcome State Fault Refusal := s.on Hub.timedHandover

/-! ### The grandmaster -/

/-- Whether PPS_IN is qualified (R62). -/
def TimeBase.ppsQualified (t : TimeBase) : Bool := decide (3 ≤ t.ppsGood)

/-- R54, Table 02.2: the kind of the valid source of this hub: 1 PPS, 2 PTP, 0 none. -/
def Hub.sourceKind (h : Hub) : Nat :=
  if h.is Fld.TIME_GM_CTL_SRC_PPS && h.time.ppsQualified then 1
  else if h.is Fld.TIME_GM_CTL_SRC_PTP && h.time.ptp then 2 else 0

/-- A candidate: (PRIO, ring, hub, source kind). -/
abbrev GmCand := Nat × Nat × Nat × Nat

/-- R55: (PRIO, ring, hub) as one number. -/
def GmCand.key (c : GmCand) : Nat := c.1 * 4096 + c.2.1 * 256 + c.2.2.1

/-- The candidate with the lowest key. -/
def gmBest : List GmCand → Option GmCand
  | [] => none
  | c :: t => match gmBest t with
    | none => some c
    | some d => if d.key < c.key then some d else some c

/-- R55: the grandmaster among this hub and the announces it has heard. -/
def Hub.gmChoice (h : Hub) : Option GmCand :=
  let prio := h.get Fld.TIME_GM_CTL_PRIO
  let own : List GmCand := if prio < 255 then [(prio, h.ringOf false, h.self false, h.sourceKind)] else []
  let all := own ++ (h.time.announces.map (fun a => (a.prio.toNat, a.ring.toNat, a.hub.toNat, a.kind.toNat))).filter
    (fun c => decide (c.1 < 255))
  match gmBest (all.filter (fun c => decide (c.2.2.2 ≠ 0))) with
  | some c => some c
  | none => gmBest all

/-- R55, R56: the grandmaster is chosen again; a change sets GMCHG. -/
def Hub.gmChoose (h : Hub) : Hub :=
  let c := h.gmChoice.getD (255, 0, 0, 0)
  let me := decide (h.gmChoice.isSome) && decide (h.get Fld.TIME_GM_CTL_PRIO < 255) &&
    decide (c.2.1 = h.ringOf false) && decide (c.2.2.1 = h.self false)
  let changed := decide (h.get Fld.TIME_GM_STAT_GM_RING ≠ c.2.1) || decide (h.get Fld.TIME_GM_STAT_GM_HUB ≠ c.2.2.1)
  let h1 := (((h.set Fld.TIME_GM_STAT_GM_RING c.2.1).set Fld.TIME_GM_STAT_GM_HUB c.2.2.1).set Fld.TIME_GM_STAT_KIND
    c.2.2.2).flag Fld.TIME_STATUS_GM me
  let h2 := h1.flag Fld.TIME_STATUS_FREERUN (me && c.2.2.2 == 0)
  let h3 := if me then h2.set Fld.TIME_GM_STAT_HOPS 0 else h2
  if changed then h3.evt Fld.TIME_STATUS_GMCHG else h3

/-- The frame count of time frames sent on a lane (Table 04.6), one more. -/
def Hub.nextTimeCount (h : Hub) (l : Nat) : BitVec 16 × Hub :=
  let n := (Assoc.get h.time.frameCount l).getD 0
  (n, { h with time := { h.time with frameCount := Assoc.put h.time.frameCount l (n + 1) } })

/-- A time frame of this hub on a lane (R57): hop-only, C0, AUTH where TIMEAUTH is set (R61, R476). -/
def Hub.sendTime (h : Hub) (l sub : Nat) (stamp : Stamp) (arg : BitVec 48) (payload : List Byte) : Hub :=
  let n := h.nextTimeCount l
  let hd := n.2.opHeader l 2 0 sub 0 n.1 stamp.toFrame arg payload.length
  n.2.offerOp ⟨{ hd with auth := h.is Fld.KEY_AUTHCFG_TIMEAUTH }, payload, 0⟩ l

/-- The ANNOUNCE payload of this hub (Table 02.2). -/
def Hub.announcePayload (h : Hub) : List Byte :=
  [BitVec.ofNat 8 (h.get Fld.TIME_GM_CTL_PRIO), BitVec.ofNat 8 h.sourceKind, BitVec.ofNat 8 (h.get Fld.TIME_GM_STAT_GM_RING),
   BitVec.ofNat 8 (h.get Fld.TIME_GM_STAT_GM_HUB), BitVec.ofNat 8 (h.get Fld.TIME_GM_STAT_HOPS), 0, 0, 0]

/-- Lanes EA, WA, EB, WB that are UP. R56 and R57 send on "every active ring port"; PL, which links the two hubs of a mirror pair and is on
no ring, is taken as none of them (DESIGN CHOICE, log 130). -/
def Hub.ringLanesUp (h : Hub) : List Nat := [0, 1, 2, 3].filter h.laneUp

/-- R52: a raw receive stamp of a lane, less its receive latency and board delay (RING_LAT, RING_TRACE). -/
def Hub.laneIn (h : Hub) (l : Nat) (raw : Stamp) : Stamp :=
  raw - psUnits (h.get (Fld.RING_LAT_RX_LAT l) + h.get (Fld.RING_TRACE_RX_TRACE l))

/-- R52: a scheduled transmit stamp of a lane, with its transmit latency and board delay. -/
def Hub.laneOut (h : Hub) (l : Nat) (raw : Stamp) : Stamp :=
  raw + psUnits (h.get (Fld.RING_LAT_TX_LAT l) + h.get (Fld.RING_TRACE_TX_TRACE l))

/-- R52, R53: the egress stamp of a frame that this hub sends on lane l, of the samples given for the lanes EA, WA, EB, WB. -/
def Hub.egress (h : Hub) (tOut : List Sample) (l : Nat) : Stamp := h.laneOut l (h.sampled (tOut.getD l ⟨0, 0⟩))

/-- ANNOUNCE_SEND (R56, R57): with PRIO below 255, an ANNOUNCE every 250 ms on every active ring port, stamped with its egress time. -/
def execAnnounceSend (o : AnnounceOut) (s : State) : Host.Outcome State Fault Refusal :=
  s.on (fun h => if h.get Fld.TIME_GM_CTL_PRIO < 255 then
    h.onPeriod .announce (ms 250) (fun h =>
      let h1 := Hub.gmChoose { h with time := { h.time with ptp := o.ptp } }
      (h1.ringLanesUp.filter (fun l => h1.numbered (h1.laneRing l))).foldl
        (fun g l => g.sendTime l 3 (g.egress o.tOut l) 0 g.announcePayload) h1)
    else h)

/-- R59, R60: where a time frame that arrived on lane l is passed on: the other port of its pair, and on a bridge the
ports of the other pair, where UP. -/
def Hub.timeOnward (h : Hub) (l : Nat) : List Nat :=
  ([laneAcross l] ++ (if h.pairB = 2 then (if l < 2 then [2, 3] else [0, 1]) else [])).filter h.laneUp

/-- Whether a frame that arrived on lane l is one that this hub sent itself. -/
def Hub.ownFrame (h : Hub) (l : Nat) (hdr : Header) : Bool :=
  h.numbered (h.laneRing l) && decide (hdr.shub.toNat = h.self (h.laneRing l)) && decide (hdr.sring.toNat = h.ringOf (h.laneRing l))

/-- R59, R60: a time frame that arrived on lane l goes on where it is passed on, as f makes it for each lane; one whose HOPS would reach
128 is removed and counted (Table 04.7). -/
def Hub.timePass (h : Hub) (l : Nat) (hops : BitVec 8) (f : Hub → Nat → Hub) : Hub :=
  if 127 ≤ hops.toNat then h.count (Reg.RING_CNT_HOPS l) else (h.timeOnward l).foldl f h

/-- The announce that a frame's header and payload spell (Table 02.2). -/
def announceOf (hdr : Header) (payload : List Byte) : Announce :=
  ⟨hdr.sring, hdr.shub, payload.getD 0 0, payload.getD 1 0, payload.getD 2 0, payload.getD 3 0, payload.getD 4 0⟩

/-- R55, R56: an announce heard is kept for 750 ms, and the grandmaster chosen again. -/
def Hub.announceHeard (h : Hub) (a : Announce) : Hub :=
  let others := h.time.announces.filter (fun b => !(decide (b.ring = a.ring) && decide (b.hub = a.hub)))
  (Hub.arm { h with time := { h.time with announces := a :: others } } (.announceHeard a.ring.toNat a.hub.toNat) (ms 750)).gmChoose

/-- ANNOUNCE_RX (R55, R56, R60, R61): an ANNOUNCE whose tag passes is heard; the frame goes on as it came but for HOPS, VER and DIR, so
that its tag stays good. -/
def execAnnounceRx (l : Fin 4) (ptp : Bool) (f : Frame) (s : State) : Host.Outcome State Fault Refusal :=
  s.on (fun h =>
    if h.ownFrame l.val f.hdr then h
    else
      let t := h.opTag l.val f
      let h1 : Hub := { t.2 with time := { t.2.time with ptp := ptp } }
      let h2 := if t.1 then h1.announceHeard (announceOf f.hdr f.payload) else h1
      h2.timePass l.val f.hdr.hops (fun g m => g.present l.val f [m] true false none))

/-- ANNOUNCE_SOURCE_DROP (R56): a source not heard for 750 ms is dropped. -/
def execAnnounceSourceDrop (ring : BitVec 4) (hub : BitVec 8) (ptp : Bool) (s : State) : Host.Outcome State Fault Refusal :=
  s.on (fun h => h.onDue (.announceHeard ring.toNat hub.toNat) (fun h =>
    Hub.gmChoose { h with time := { h.time with
      announces := h.time.announces.filter (fun b => !(decide (b.ring = ring) && decide (b.hub = hub))), ptp := ptp } }))

/-! ### SYNC and link delay -/

/-- R57: the period of SYNC, 31.25 ms of the grandmaster's counter. -/
def syncPeriod : Stamp := nsec 31250000

/-- R57: whether the grandmaster's counter has reached the instant of the next SYNC; a jump backwards starts the period again. -/
def Hub.syncDue (h : Hub) : Bool :=
  match h.time.syncAt with
  | none => true
  | some a => decide (a ≤ h.now) || decide (h.now + syncPeriod < a)

/-- R57: the instant of the SYNC after the one that is due: one period later, or one from now where more has been missed. -/
def Hub.syncNext (h : Hub) : Stamp :=
  match h.time.syncAt with
  | none => h.now + syncPeriod
  | some a => if a ≤ h.now ∧ h.now < a + syncPeriod then a + syncPeriod else h.now + syncPeriod

/-- SYNC_SEND (R52, R57): the grandmaster sends SYNC every 31.25 ms by its counter; tOut are the samples of its egress on EA, WA, EB,
WB. -/
def execSyncSend (tOut : List Sample) (s : State) : Host.Outcome State Fault Refusal :=
  s.on (fun h => if h.is Fld.TIME_STATUS_GM ∧ h.syncDue then
      (h.ringLanesUp.filter (fun l => h.numbered (h.laneRing l))).foldl (fun g l => g.sendTime l 0 (g.egress tOut l) 0 [])
        { h with time := { h.time with syncAt := some h.syncNext } }
    else h)

/-- The mean delay of a link, 1/16 ns, as stamp units (RING_DELAY). -/
def Hub.linkDelay (h : Hub) (l : Nat) : Int := (h.rd (Reg.RING_DELAY l)).toNat * 4096

/-- R60: the path with the lowest HOPS, pair A before B and east before west on a tie; paths are EA, WA, EB, WB. -/
def bestPath : List (Nat × Nat) → Option (Nat × Nat)
  | [] => none
  | p :: t => match bestPath t with
    | none => some p
    | some q => if q.2 < p.2 ∨ (q.2 = p.2 ∧ q.1 < p.1) then some q else some p

/-- The chosen path is shown in TIME_GM_STAT; its 100 ms run from the last SYNC on it (R60). -/
def Hub.pathChoose (h : Hub) (arrived : Option Nat) : Hub :=
  match bestPath h.time.syncHeard with
  | none => h
  | some p =>
    let h1 := (h.set Fld.TIME_GM_STAT_PATH p.1).set Fld.TIME_GM_STAT_HOPS p.2
    if arrived = some p.1 ∨ h.get Fld.TIME_GM_STAT_PATH ≠ p.1 then h1.arm .syncPath (ms 100) else h1

/-- R59, R60: what the servo owner takes of a SYNC that arrived whole by lane l: its offset t_in - (T0 + C + d) and the path's HOPS. -/
def Hub.syncHeard (h : Hub) (l : Nat) (hdr : Header) (tin : Stamp) : Hub :=
  let g := { h with time := { h.time with syncHeard := Assoc.put h.time.syncHeard l hdr.hops.toNat } }
  (g.emit (.servoOffset l ((tin : Int) - (Stamp.ofFrame h.now hdr.stamp + hdr.arg.toInt + h.linkDelay l)))).pathChoose (some l)

/-- SYNC_RX (R52, R53, R59 to R61): the offset goes to the servo owner where FCS and tag are good; the SYNC is forwarded with ARG
C + d + (t_out - t_in) and HOPS one more, its tag unchanged. A bad incoming FCS stomps the forwarded copy. -/
def execSyncRx (l : Fin 4) (f : Frame) (tIn tOut : Sample) (fcsOk : Bool) (s : State) : Host.Outcome State Fault Refusal :=
  s.on (fun h =>
    if h.ownFrame l.val f.hdr then h
    else
      let tin := h.laneIn l.val (h.sampled tIn)
      let t := if fcsOk then h.opTag l.val f else (false, h)
      let h1 := if t.1 then t.2.syncHeard l.val f.hdr tin else t.2
      h1.timePass l.val f.hdr.hops (fun g m =>
        let c := BitVec.ofInt 48 (f.hdr.arg.toInt + h.linkDelay l.val + ((h.laneOut m (h.sampled tOut) : Int) - tin))
        let copy : Frame := { f with hdr := { f.hdr with arg := c } }
        if fcsOk then g.present l.val copy [m] true false none
        else (g.emit (.laneFrame m (g.onLane m true copy) true)).count (Reg.RING_CNT_STOMP m)))

/-- SYNC_PATH_TIMEOUT (R60): no SYNC on the chosen path for 100 ms; the path is switched. -/
def execSyncPathTimeout (s : State) : Host.Outcome State Fault Refusal :=
  s.on (fun h => h.onDue .syncPath (fun h =>
    Hub.pathChoose { h with time := { h.time with syncHeard := Assoc.del h.time.syncHeard (h.get Fld.TIME_GM_STAT_PATH) } } none))

/-- DREQ_SEND (R52, R53, R58): every second on each ring port that is UP, with its egress time t1. -/
def execDreqSend (l : Fin 5) (t1 : Sample) (s : State) : Host.Outcome State Fault Refusal :=
  s.on (fun h => if h.laneUp l.val then
    h.onPeriod (.dreq l.val) (ms 1000) (fun h =>
      let t := h.laneOut l.val (h.sampled t1)
      Hub.sendTime { h with time := { h.time with dreqSent := Assoc.put h.time.dreqSent l.val t } } l.val 1 t 0 [])
    else h)

/-- DREQ_RX (R52, R53, R58, R61): answered with a DRESP that copies t1 and carries t3 - t2. -/
def execDreqRx (l : Fin 5) (f : Frame) (t2 t3 : Sample) (s : State) : Host.Outcome State Fault Refusal :=
  s.on (fun h =>
    let t := h.opTag l.val f
    if !t.1 then t.2
    else
      let n := t.2.nextTimeCount l.val
      let hd := { n.2.opHeader l.val 2 0 2 0 n.1 f.hdr.stamp
          (BitVec.ofInt 48 ((h.laneOut l.val (h.sampled t3) : Int) - h.laneIn l.val (h.sampled t2))) 0 with
        auth := h.is Fld.KEY_AUTHCFG_TIMEAUTH }
      n.2.offerOp ⟨hd, [], 0⟩ l.val)

/-- The mean of link delay measurements, in stamp units. -/
def meanOf (l : List Int) : Int := if l.isEmpty then 0 else l.foldl (· + ·) 0 / l.length

/-- DRESP_RX (R52, R53, R58, R61): delay ((t4 - t1) - (t3 - t2)) / 2 + asymmetry; more than 10 ns off the mean is discarded and counted;
the mean of the last 8 kept stands in RING_DELAY, in 1/16 ns. -/
def execDrespRx (l : Fin 5) (f : Frame) (t4 : Sample) (s : State) : Host.Outcome State Fault Refusal :=
  s.on (fun h0 => match Assoc.get h0.time.dreqSent l.val with
    | none => h0
    | some t1 =>
      let t := h0.opTag l.val f
      let h := t.2
      if !t.1 ∨ f.hdr.stamp ≠ Stamp.toFrame t1 then h
      else
        let asym := (BitVec.ofNat 16 (h.get (Fld.RING_ASYM_ASYM l.val))).toInt * 65536 / 1000
        let m := (((h.laneIn l.val (h.sampled t4) : Int) - t1) - f.hdr.arg.toInt) / 2 + asym
        let kept := (Assoc.get h.time.delays l.val).getD []
        let h1 := { h with time := { h.time with dreqSent := Assoc.del h.time.dreqSent l.val } }
        if !kept.isEmpty ∧ (m - meanOf kept > 655360 ∨ meanOf kept - m > 655360) then h1.count (Reg.RING_CNT_DLYDISC l.val)
        else
          let ks := (m :: kept).take 8
          Hub.wr { h1 with time := { h1.time with delays := Assoc.put h1.time.delays l.val ks } } (Reg.RING_DELAY l.val)
            (BitVec.ofInt 32 (meanOf ks / 4096)))

/-- TIME_FRAME_RESERVED_RX (R57): a reserved subtype is discarded and counted, in RING_CNT_DISC (log 21). -/
def execTimeFrameReservedRx (l : Fin 5) (s : State) : Host.Outcome State Fault Refusal :=
  s.on (fun h => h.count (Reg.RING_CNT_DISC l.val))

/-! ### PPS -/

/-- PPS_IN_EDGE (R62): an edge of the polarity that IN_POL makes active counts where it falls 1 s +- 100 us after the last, or is the
first. -/
def execPpsInEdge (e : PpsEdge) (s : State) : Host.Outcome State Fault Refusal :=
  s.on (fun h =>
    if !h.is Fld.TIME_PPS_CTL_IN_EN ∨ e.rising = h.is Fld.TIME_PPS_CTL_IN_POL then h
    else
      let t := e.raw - Config.ppsPadDelay
      match h.time.ppsEdge with
      | none => Hub.arm { h with time := { h.time with ppsEdge := some t, ppsGood := 0 } } .ppsLoss (ms 1100)
      | some last =>
        if nsec 999900000 ≤ t - last ∧ t - last ≤ nsec 1000100000 then
          let h1 := Hub.arm { h with time := { h.time with ppsEdge := some t, ppsGood := min 3 (h.time.ppsGood + 1) } }
            .ppsLoss (ms 1100)
          if h1.time.ppsQualified then
            ((h1.wr Reg.TIME_PPS_NS (BitVec.ofNat 32 (Stamp.ns t))).wr Reg.TIME_PPS_SEC (BitVec.ofNat 32 (Stamp.sec t))).gmChoose
          else h1
        else h)

/-- PPS_IN_LOSS (R62): no edge within 1.1 s; a qualified input loses its qualification. -/
def execPpsInLoss (s : State) : Host.Outcome State Fault Refusal :=
  s.on (fun h => h.onDue .ppsLoss (fun h =>
    let h1 := { h with time := { h.time with ppsEdge := none, ppsGood := 0 } }
    if h.time.ppsQualified then (((h1.evt Fld.TIME_STATUS_PPSLOST).raise Flt.PPS 1 0 0 0)).gmChoose else h1))

/-- Whether the counter has just passed a whole second: the first TIME tick at or after it. -/
def TimeBase.atSecond (t : TimeBase) : Bool := decide (t.ns.toNat * 0x10000000000 + t.frac.toNat < t.inc.toNat)

/-- PPS_OUT_PULSE (R63): high at a whole second, while LOCKED or HOLDOVER unless OUT_FORCE; otherwise low. PPS_OUT is
high-impedance until seal. -/
def execPpsOutPulse (s : State) : Host.Outcome State Fault Refusal :=
  s.on (fun h =>
    if !h.sealed_ ∨ !h.time.atSecond then h
    else
      let on := h.is Fld.TIME_PPS_CTL_OUT_EN &&
        (h.get Fld.TIME_STATUS_LOCK == 1 || h.get Fld.TIME_STATUS_LOCK == 2 || h.is Fld.TIME_PPS_CTL_OUT_FORCE)
      let h1 := { h with time := { h.time with ppsOut := some on } }
      if on then h1.arm .ppsEnd (ms (h.get Fld.TIME_PPS_CTL_OUT_WIDTH)) else h1)

/-- PPS_OUT_PULSE_END (R63): after OUT_WIDTH ms the pin is low again. A pulse under way when the hub enters UNLOCKED runs to its
OUT_WIDTH (DESIGN CHOICE, log 129). -/
def execPpsOutPulseEnd (s : State) : Host.Outcome State Fault Refusal :=
  s.on (fun h => h.onDue .ppsEnd (fun h => { h with time := { h.time with ppsOut := some false } }))

end Sys2Proof.Machine
end

