-- ==== Sys2Proof/Machine/Census.lean ====
section
/-! DEFINITION. Hub numbers, the census, reservations, incarnations and duplicate discard (R121 to R134). -/

namespace Sys2Proof.Machine

/-- CHIP_SERIAL. -/
def Hub.serial (h : Hub) : BitVec 64 := h.rd Reg.CHIP_SERIAL_HI ++ h.rd Reg.CHIP_SERIAL_LO

/-- R123: the slot code, 15 where there is none. -/
def Hub.slotCode (h : Hub) : Nat := if h.is Fld.CHIP_STRAP_SLOTVALID then h.get Fld.CHIP_STRAP_SLOT else 15

/-- R123: a manager key (slot code, serial number) as one number. -/
def managerKey (slot : Nat) (serial : BitVec 64) : Nat := slot * 2 ^ 64 + serial.toNat

/-- This hub's manager key. -/
def Hub.ownKey (h : Hub) : Nat := managerKey h.slotCode h.serial

/-- 0 for ring A, 1 for ring B, as timers name them. -/
def ringIx (b : Bool) : Nat := if b then 1 else 0

/-- The membership record of a ring. -/
def Hub.member (h : Hub) (b : Bool) : RingMember := Sparse.get (fun _ => RingMember.reset) h.members (ringIx b)
/-- The membership record replaced. -/
def Hub.setMember (h : Hub) (b : Bool) (m : RingMember) : Hub :=
  { h with members := Sparse.put (fun _ => RingMember.reset) h.members (ringIx b) m }

/-- Whether this hub is manager of a ring. -/
def Hub.isMgr (h : Hub) (b : Bool) : Bool := if b then (h.member true).mgrB else h.is Fld.MBR_MGR_ISMGR

/-- This hub is, or is no longer, manager of a ring. -/
def Hub.setMgr (h : Hub) (b on : Bool) : Hub :=
  if b then h.setMember true { h.member true with mgrB := on } else h.flag Fld.MBR_MGR_ISMGR on

/-- The manager's serial number as a COMMIT shows it; a change sets MGRCHG. -/
def Hub.noteMgr (h : Hub) (b : Bool) (serial : BitVec 64) : Hub :=
  if (h.member b).mgrSerial = some serial then h
  else (h.setMember b { h.member b with mgrSerial := some serial }).evt Fld.MBR_EVT_MGRCHG

/-- R122: the fixed number, and whether FIXMODE is set but gives none, which raises FLT_NUMCONF. -/
def Hub.fixedNumber (h : Hub) : Option Nat × Bool :=
  let n := h.get Fld.MBR_CFG_FIXNUM
  match h.get Fld.MBR_CFG_FIXMODE with
  | 1 => if 1 ≤ n ∧ n ≤ 127 then (some n, false) else (none, true)
  | 2 =>
    let k := n + h.get Fld.CHIP_STRAP_SLOT
    if h.is Fld.CHIP_STRAP_SLOTVALID ∧ 1 ≤ k ∧ k ≤ 127 then (some k, false) else (none, true)
  | _ => (none, false)

/-- R122: the number held last on the same ring, as the log's identity records it; 0 none. -/
def Hub.remembered (h : Hub) (b : Bool) : Nat :=
  let i := h.log.ident
  if b then (if i.ringB = h.ringOf b then i.hubB else 0) else (if i.ringA = h.ringOf b then i.hubA else 0)

/-- A bit of a census bitmap. -/
def bitOn (m : BitVec 128) (n : Nat) : Bool := m.getLsbD n
/-- A bit of a census bitmap set. -/
def setBit (m : BitVec 128) (n : Nat) : BitVec 128 := m ||| BitVec.ofNat 128 (2 ^ n)

/-- The bitmap of a list of numbers. -/
def bitmapOf (l : List Nat) : BitVec 128 := l.foldl setBit 0

/-! ### Census frames -/

/-- SUB of a pass (Table 05.1). -/
def Pass.sub : Pass → Nat
  | .roll => 0 | .assign => 1 | .commit => 2

/-- The payload of Table 05.1. -/
def Census.payload (c : Census) : List Byte :=
  beBytes 8 c.serial.toNat ++ [c.slot, c.numRing, 0, 0, 0, 0, 0, 0] ++ beBytes 16 c.fixed.toNat ++ beBytes 16 c.taken.toNat ++
  beBytes 16 c.reserved.toNat ++ beBytes 16 c.used.toNat

/-- ARG of Table 05.1. -/
def Census.arg (c : Census) : BitVec 48 := c.visits ++ 0#30 ++ BitVec.ofBool c.turned2 ++ BitVec.ofBool c.turned

/-- The census frame as it leaves by a lane. -/
def Hub.censusFrame (h : Hub) (m sub : Nat) (dhub : BitVec 8) (c : Census) : Frame :=
  let hd := h.opHeader m 1 7 sub dhub c.round c.stamp c.arg 80
  ⟨{ hd with sring := c.ring, dring := c.ring, shub := c.shub, hops := c.hops }, c.payload, 0⟩

/-- R124, R129: SHUB of a candidate's frames: the number that its log records for the ring, the one it holds while the record of a new one
waits to be written; 1 where it has none. -/
def Hub.candidateNo (h : Hub) (b : Bool) : BitVec 8 :=
  let n := if (h.member b).adopting.isSome then h.self b else h.remembered b
  if n = 0 then 1 else BitVec.ofNat 8 n

/-- An empty census frame of this hub as candidate (R124). -/
def Hub.freshCensus (h : Hub) (b : Bool) (round : BitVec 16) : Census where
  ring := BitVec.ofNat 4 (h.ringOf b)
  shub := h.candidateNo b
  hops := 0
  round := round
  stamp := h.now.toFrame
  visits := 1
  turned2 := false
  turned := false
  serial := h.serial
  slot := BitVec.ofNat 8 h.slotCode
  numRing := BitVec.ofNat 8 (h.ringOf b)
  fixed := 0
  taken := 0
  reserved := 0
  used := 0

/-- R128: a REQUEST to the ring manager, by the other lane of the pair where it is UP, else by the lane itself; the manager
hears itself. -/
def Hub.sendRequest (h : Hub) (l : Nat) : Hub :=
  let m := if h.laneUp (laneAcross l) then laneAcross l else l
  h.offerOp (h.censusFrame m 3 0xFE { h.freshCensus (h.laneRing l) 0 with visits := 0 }) m

/-- R125: where a pass starts: east, or west with TURNED where the east lane is not UP. -/
def Hub.sendPass (h : Hub) (b : Bool) (p : Pass) (c : Census) : Hub :=
  let e := if b then 2 else 0
  if h.laneUp e then h.offerOp (h.censusFrame e p.sub 0 c) e
  else if h.laneUp (e + 1) then h.offerOp (h.censusFrame (e + 1) p.sub 0 { c with turned := true }) (e + 1)
  else h

/-- R125: a census frame that came by lane l goes on by the other lane of the pair, or back with TURNED or TURNED2; HOPS counts as
it leaves, as for any frame that is passed on. -/
def Hub.onward (h : Hub) (l : Nat) (c : Census) : Nat × Census :=
  if h.laneUp (laneAcross l) then (laneAcross l, c)
  else if c.turned then (l, { c with turned2 := true }) else (l, { c with turned := true })

/-! ### Visits -/

/-- R126, roll: the claim of this hub. -/
def Hub.rollVisit (h : Hub) (b : Bool) (c : Census) : Census × Hub :=
  let f := h.fixedNumber
  let h0 := if f.2 then h.raise Flt.NUMCONF 3 0 0 0 else h
  let set (g : Hub) (cl : Claim) : Hub := g.setMember b { g.member b with claim := cl }
  if c.numRing.toNat ≠ h.ringOf b then (c, set (h0.raise Flt.RINGMIX 3 0 c.numRing.toNat 0) .refused)
  else match f.1 with
    | some n =>
      if bitOn c.fixed n then (c, set (h0.raise Flt.NUMCONF 3 0 n 0) .refused)
      else ({ c with fixed := setBit c.fixed n }, set h0 (.fixed n))
    | none =>
      let n := h.remembered b
      if n ≠ 0 ∧ !bitOn c.taken n then ({ c with taken := setBit c.taken n }, set h0 (.remembered n))
      else (c, set h0 .none)

/-- The lowest number of 1 to 127 that no bitmap of a census frame holds (R126). -/
def Census.lowestFree (c : Census) : Option Nat :=
  ((List.range 128).drop 1).find? (fun n => !bitOn (c.fixed ||| c.taken ||| c.reserved ||| c.used) n)

/-- R126, assign: the number of this hub. -/
def Hub.assignVisit (h : Hub) (b : Bool) (c : Census) : Census × Hub :=
  let m := h.member b
  let choose (g : Hub) (n : Nat) : Hub := g.setMember b { g.member b with chosen := n }
  let free : Census × Hub := match c.lowestFree with
    | some n => ({ c with taken := setBit c.taken n, used := setBit c.used n }, choose h n)
    | none => (c, choose (h.raise Flt.CENSUS 3 0 1 0) 0)
  match m.claim with
  | .fixed n => ({ c with used := setBit c.used n }, choose h n)
  | .remembered n => if bitOn c.fixed n then free else ({ c with used := setBit c.used n }, choose h n)
  | .refused => (c, choose h 0)
  | .none => free

/-- The numbers of a bitmap in four registers. -/
def Hub.wrBitmap (h : Hub) (reg : Nat → Nat) (m : BitVec 128) : Hub :=
  (List.range 4).foldl (fun g k => g.wr (reg k) (m.extractLsb' (32 * k) 32)) h

/-- A bitmap held in four registers. -/
def Hub.rdBitmap (h : Hub) (reg : Nat → Nat) : BitVec 128 :=
  h.rd (reg 3) ++ h.rd (reg 2) ++ h.rd (reg 1) ++ h.rd (reg 0)

/-- R148: the round adopted last is complete: lane partners that have stayed unnumbered through two completed rounds. -/
def Hub.roundComplete (h0 : Hub) (b : Bool) : Hub :=
  let h := h0.setMember b { h0.member b with roundOpen := false }
  if !(h0.member b).roundOpen ∨ !h.numbered b then h
  else (((List.range 4).filter (fun l => h.laneRing l == b)).filter h.laneUp).foldl (fun g l =>
    let r := g.lane l
    if g.get (Fld.RING_PARTNER_PHUB l) = 0 then
      let g1 := g.setLane l { r with unnumberedRounds := r.unnumberedRounds + 1 }
      if r.unnumberedRounds + 1 = 2 then (g1.evt Fld.MBR_EVT_BYPASSNB).raise Flt.BYPASSNB 3 l 0 0 else g1
    else g.setLane l { r with unnumberedRounds := 0 }) h

/-- R139: the watch of the neighbour paths follows whether both ends are numbered. -/
def Hub.rewatch (h : Hub) (b : Bool) : Hub :=
  (((List.range 4).filter (fun l => h.laneRing l == b)).filter h.laneUp).foldl (fun g l =>
    if g.bothNumbered l then (if (g.path l).watched then g else g.laneUpPaths l)
    else ((g.setPath l { g.path l with watched := false }).disarm (.path l)).laneUpPaths l) h

/-- R130: the incarnation of an identity for the first adoption of a number after a chip reset: one more, 65,535 wrapping to 1. -/
def Hub.nextIncarn (h : Hub) (i : Identity) : Identity :=
  if h.incarned then i else { i with incarn := if 65535 ≤ i.incarn then 1 else i.incarn + 1 }

/-- R130: with the first number adopted after a chip reset the three announces begin. -/
def Hub.beginAnnounces (h : Hub) : Hub :=
  if h.armed .incarnNext then h else Hub.arm { h with announced := 0 } .incarnNext 0

/-- The identity registers of a ring (Table 05.8). -/
def Hub.setId (h : Hub) (b : Bool) (n : Nat) : Hub :=
  let inc := h.log.ident.incarn
  let w := (if n = 0 then 0 else 0x80000000) + 0x1000000 * h.ringOf b + 0x10000 * n + inc
  let h1 := h.wr (if b then Reg.MBR_ID_B else Reg.MBR_ID_A) (BitVec.ofNat 32 w)
  let h2 := h1.set (if b then Fld.MBR_ID_A_INCARN else Fld.MBR_ID_B_INCARN) inc
  h2.flag (if b then Fld.MBR_STATUS_JOINED_B else Fld.MBR_STATUS_JOINED_A) (n ≠ 0)

/-- R129: the identity that the log keeps after the adoption of number n. -/
def Hub.identityWith (h : Hub) (b : Bool) (n : Nat) (resv : List Nat) : Identity :=
  let i := if n = 0 then h.log.ident else h.nextIncarn h.log.ident
  let i1 := if n = 0 then i
    else if b then { i with hubB := n, ringB := h.ringOf b } else { i with hubA := n, ringA := h.ringOf b }
  if h.is Fld.MBR_CFG_MGRCAP then (if b then { i1 with resvB := resv } else { i1 with resvA := resv }) else i1

/-- The numbers 1 to 127 of a bitmap. -/
def numbersOf (m : BitVec 128) : List Nat := ((List.range 128).drop 1).filter (bitOn m)

/-- R124: the number of the manager, whom its serial number names: this hub, the neighbour whose serial number a lane shows, or the hub
of the ring whose announces and beats carry the serial number's last 16 bits and whose number is in USED; 0 while none is known
(log 146). -/
def Hub.managerNo (h : Hub) (b : Bool) (serial : BitVec 64) : Nat :=
  if serial = h.serial then h.self b
  else
    let near (l : Nat) : Bool := (h.laneRing l == b) && (h.rd (Reg.RING_PSERIAL_HI l) ++ h.rd (Reg.RING_PSERIAL_LO l) == serial) &&
      (h.get (Fld.RING_PARTNER_PHUB l) != 0)
    match (List.range 4).find? near with
    | some l => h.get (Fld.RING_PARTNER_PHUB l)
    | none => match h.incarns.find? (fun e => e.1 / 256 == h.ringOf b && e.2.2 == serial.toNat % 65536 && bitOn (h.member b).used (e.1 % 256)) with
      | some e => e.1 % 256
      | none => 0

/-- MBR_MGR.MGRHUB follows what is known of the manager of ring A. -/
def Hub.showManager (h : Hub) : Hub := match (h.member false).mgrSerial with
  | some s => h.set Fld.MBR_MGR_MGRHUB (h.managerNo false s)
  | none => h

/-- R126, commit: the hub's number takes effect, its record standing in the log (R129); ROUNDEND, and NUMCHG where its number
changed. -/
def Hub.adoptNow (h : Hub) (b : Bool) (c : Census) (n : Nat) : Hub :=
  let old := h.self b
  let wasIn := h.numbered b
  let h1 := if n = 0 then h else h.beginAnnounces
  let h2 := (h1.setId b n).evt Fld.MBR_EVT_ROUNDEND
  let h3 := if n = old then h2 else h2.evt Fld.MBR_EVT_NUMCHG
  let h4 := if n = 0 ∨ n = old then h3 else h3.journalDirect 8 (h3.ringOf b) (n + 65536 * h3.log.ident.incarn)
  let h5 := (h4.setMember b { h4.member b with used := c.used, adopting := none, roundOpen := true }).noteMgr b c.serial
  let h6 := if b then h5
    else ((h5.wrBitmap Reg.MBR_USED c.used).wrBitmap Reg.MBR_RESV c.reserved).set Fld.MBR_MGR_ROUND c.round.toNat
  let h7 := if b then h6 else h6.showManager
  let h9 := (h7.rewatch b).count Reg.MBR_CNT_ROUND
  if n ≠ 0 ∧ !wasIn ∧ !b then
    let ms' := min 65535 ((h9.clock - h9.born) / ms 1)
    let h10 := h9.set Fld.REAM_T0_JOINMS ms'
    if h10.is Fld.MBR_PAIRCFG_EN ∧ h10.role = .unpaired ∧ !h10.pair.refused then h10.arm .unpaired (ms 500) else h10
  else h9

/-- R126, R129, commit: the number goes into the log, with the incarnation and the reservation table; a new number is adopted once that
record is written, at most 100 ms later (R378). -/
def Hub.adopt (h : Hub) (b : Bool) (c : Census) (n : Nat) : Hub :=
  let resv := numbersOf c.reserved
  let i := h.identityWith b n resv
  let h1 := if i = h.log.ident then h else h.identityChange i
  let h2 := if n = 0 then h1 else { h1 with incarned := true }
  let h3 := h2.setMember b { h2.member b with reserved := resv }
  if h3.log.identOwed ∧ n ≠ 0 ∧ n ≠ h.self b then h3.setMember b { h3.member b with adopting := some (c, n) } else h3.adoptNow b c n

/-- R129: the identity record has been written, and the numbers that waited for it are adopted. -/
def Hub.adoptOwed (h : Hub) : Hub :=
  [false, true].foldl (fun (g : Hub) b => match (g.member b).adopting with
    | some (c, n) => g.adoptNow b c n
    | none => g) h

/-- R128: a COMMIT has been heard; a manager-capable hub waits 3 s for the next. -/
def Hub.heardCommit (h : Hub) (b : Bool) : Hub :=
  if h.is Fld.MBR_CFG_MGRCAP then h.arm (.censusSilence (ringIx b)) (ms 3000) else h

/-! ### Rounds -/

/-- A round of this hub starts with a ROLL (R126, R128). -/
def Hub.originate (h : Hub) (b : Bool) (round : BitVec 16) : Hub :=
  let h0 := h.roundComplete b
  let h1 := h0.setMember b { h0.member b with
    newest := some (round, h.serial), visited := [.roll], claim := .none, chosen := 0, originating := some .roll }
  let r := h1.rollVisit b (h1.freshCensus b round)
  (r.2.sendPass b .roll r.1).arm (.censusPass (ringIx b)) (ms 10)

/-- The round after the newest one seen. -/
def Hub.nextRound (h : Hub) (b : Bool) : BitVec 16 := match (h.member b).newest with
  | some r => r.1 + 1
  | none => 1

/-- R129: the reservation table after a COMMIT: numbers of the previous round that the new USED lacks join it, numbers of
USED leave it; HOURS 0 reserves nothing. -/
def Hub.newReserved (h : Hub) (b : Bool) (prev used : BitVec 128) : List Nat :=
  let gone := if h.get Fld.MBR_HOLDNUM_HOURS = 0 then [] else numbersOf (prev &&& ~~~used)
  (numbersOf (bitmapOf ((h.member b).reserved ++ gone))).filter (fun n => !bitOn used n)

/-- R129: the reservation timers: HOURS hours for each number that has just entered the table, none for one that left. -/
def Hub.armReserved (h : Hub) (b : Bool) (resv : List Nat) : Hub :=
  ((List.range 128).drop 1).foldl (fun g n =>
    if resv.contains n then
      (if g.armed (.reservation (ringIx b) n) then g
       else g.arm (.reservation (ringIx b) n) (ms (3600000 * h.get Fld.MBR_HOLDNUM_HOURS)))
    else g.disarm (.reservation (ringIx b) n)) h

/-- The reservations that this hub's log holds for a ring (R129). -/
def Hub.loggedResv (h : Hub) (b : Bool) : List Nat :=
  let i := h.log.ident
  if b then (if i.ringB = h.ringOf b then i.resvB else []) else (if i.ringA = h.ringOf b then i.resvA else [])

/-- R129: a manager-capable hub takes its reservation table from its log at seal, each number for HOURS hours more (log 147). -/
def Hub.memberSeal (h : Hub) : Hub :=
  [false, true].foldl (fun (g : Hub) b =>
    if g.is Fld.MBR_CFG_MGRCAP then (g.setMember b { g.member b with reserved := g.loggedResv b }).armReserved b (g.loggedResv b) else g) h

/-- A pass of this hub has returned (R126): ROLL makes it manager and is followed by ASSIGN, ASSIGN by COMMIT; after
COMMIT the round is over. -/
def Hub.passReturned (h : Hub) (b : Bool) (p : Pass) (c : Census) : Hub :=
  let m := h.member b
  if m.originating ≠ some p ∨ m.newest ≠ some (c.round, h.serial) then h
  else
    let base : Census := { c with hops := 0, visits := 1, turned := false, turned2 := false }
    match p with
    | .roll =>
      let h1 := ((h.setMgr b true).noteMgr b h.serial)
      let h2 := h1.setMember b { h1.member b with originating := some .assign, visited := [.roll, .assign] }
      let r := h2.assignVisit b { base with reserved := bitmapOf (h2.member b).reserved }
      (r.2.sendPass b .assign r.1).arm (.censusPass (ringIx b)) (ms 10)
    | .assign =>
      let resv := h.newReserved b m.used c.used
      let c1 := { base with reserved := bitmapOf resv }
      let h1 := h.setMember b { m with originating := some .commit, visited := [.roll, .assign, .commit] }
      let h2 := ((h1.adopt b c1 m.chosen).armReserved b resv).heardCommit b
      let c2 := { c1 with shub := h2.candidateNo b }
      let h3 := h2.setMember b { h2.member b with lastCommit := some c2 }
      ((h3.sendPass b .commit c2).arm (.censusPass (ringIx b)) (ms 10)).arm (.commitRepeat (ringIx b)) (ms 1000)
    | .commit =>
      (((h.setMember b { m with originating := none, restarts := 0 }).disarm (.censusPass (ringIx b))).disarm
        (.censusRetry (ringIx b))).roundComplete b

/-- R125: a census frame passes on by the ring port it came by (R476); a pass of this hub that would turn a second time
here has ended. -/
def Hub.censusPassOn (h : Hub) (l : Nat) (p : Pass) (c : Census) : Hub :=
  let o := h.onward l c
  if o.2.turned2 ∧ !c.turned2 ∧ c.serial = h.serial then h.passReturned (h.laneRing l) p o.2
  else h.present l (h.censusFrame o.1 p.sub 0 o.2) [o.1] true false none

/-- A visit counted in ARG (Table 05.1). -/
def Census.visited (c : Census) : Census := { c with visits := c.visits + 1 }

/-- R125 to R127: a census frame of a pass reaches this hub by lane l. -/
def Hub.censusRx (h : Hub) (l : Nat) (p : Pass) (c : Census) : Hub :=
  let b := h.laneRing l
  let m := h.member b
  if !h.laneUp l then h
  else if h.is Fld.REAM_STATUS_BYPASS then h.censusPassOn l p c
  else if 2 ≤ l ∧ h.pairB ≠ 2 then h
  else if match m.newest with
    | some r => seqBefore c.round r.1
    | none => false then h
  else if c.serial = h.serial ∧ (c.turned2 ∨ (!c.turned ∧ l % 2 = 1)) then h.passReturned b p c
  else
    let h0 := if p = Pass.commit then h.heardCommit b else h
    let first := decide (m.newest ≠ some (c.round, c.serial))
    match p with
    | .roll =>
      if !first then h0.censusPassOn l p c
      else if h0.is Fld.MBR_CFG_MGRCAP ∧ h0.ownKey < managerKey c.slot.toNat c.serial then h0.originate b (c.round + 1)
      else
        let g := h0.roundComplete b
        let h1 := ((g.setMember b { g.member b with newest := some (c.round, c.serial), visited := [.roll], claim := .none, chosen := 0,
                                                    originating := none, restarts := 0 }).disarm (.censusPass (ringIx b))).disarm
          (.censusRetry (ringIx b))
        let r := h1.rollVisit b c.visited
        r.2.censusPassOn l p r.1
    | .assign =>
      if !first ∧ m.visited.contains .assign then h0.censusPassOn l p c
      else
        let m1 := if first then { m with newest := some (c.round, c.serial), visited := [], claim := .none } else m
        let h1 := h0.setMember b { m1 with visited := .assign :: m1.visited }
        let r := h1.assignVisit b c.visited
        r.2.censusPassOn l p r.1
    | .commit =>
      if first ∨ m.visited.contains .commit ∨ !m.visited.contains .assign then
        (if !first ∧ m.visited.contains .commit then h0.roundComplete b else h0).censusPassOn l p c
      else
        let h1 := h0.setMember b { m with visited := .commit :: m.visited }
        let h2 := (h1.setMgr b false).disarm (.commitRepeat (ringIx b))
        (h2.adopt b c.visited m.chosen).censusPassOn l p c.visited

/-- CENSUS_ROLL_RX (R125, R126). -/
def execCensusRollRx (l : Fin 4) (c : Census) (s : State) : Host.Outcome State Fault Refusal :=
  s.on (fun h => h.censusRx l.val .roll c)

/-- CENSUS_ASSIGN_RX (R125, R126). -/
def execCensusAssignRx (l : Fin 4) (c : Census) (s : State) : Host.Outcome State Fault Refusal :=
  s.on (fun h => h.censusRx l.val .assign c)

/-- CENSUS_COMMIT_RX (R125 to R129, R148). -/
def execCensusCommitRx (l : Fin 4) (c : Census) (s : State) : Host.Outcome State Fault Refusal :=
  s.on (fun h => h.censusRx l.val .commit c)

/-- CENSUS_REQUEST_RX (R128): the manager starts a round. -/
def execCensusRequestRx (l : Fin 4) (s : State) : Host.Outcome State Fault Refusal :=
  s.on (fun h =>
    let b := h.laneRing l.val
    if h.isMgr b then h.originate b (h.nextRound b) else h)

/-- CENSUS_RESERVED_RX (R124). -/
def execCensusReservedRx (s : State) : Host.Outcome State Fault Refusal := s.on (fun h => h.count Reg.MBR_CNT_CENBAD)

/-- COMMIT_SILENCE_TIMEOUT (R128). -/
def execCommitSilenceTimeout (b : Bool) (s : State) : Host.Outcome State Fault Refusal :=
  s.on (fun h => h.onDue (.censusSilence (ringIx b)) (fun h =>
    if h.is Fld.MBR_CFG_MGRCAP then (h.originate b (h.nextRound b)).arm (.censusSilence (ringIx b)) (ms 3000) else h))

/-- CENSUS_PASS_TIMEOUT (R128): the round restarts as round + 1; after three restarts in a row FLT_CENSUS is raised and
the hub retries every 100 ms. -/
def execCensusPassTimeout (b : Bool) (s : State) : Host.Outcome State Fault Refusal :=
  s.on (fun h => h.onDue (.censusPass (ringIx b)) (fun h =>
    let m := h.member b
    if m.originating = none then h
    else if m.restarts < 3 then (h.setMember b { m with restarts := m.restarts + 1 }).originate b (h.nextRound b)
    else
      let h1 := h.setMember b { m with restarts := m.restarts + 1, originating := none }
      let h2 := if h1.armed (.censusRetry (ringIx b)) then h1 else h1.arm (.censusRetry (ringIx b)) (ms 100)
      if m.restarts = 3 then h2.raise Flt.CENSUS 3 0 0 0 else h2))

/-- CENSUS_RETRY_TIMER (R128): a retry every 100 ms until a round ends. -/
def execCensusRetryTimer (b : Bool) (s : State) : Host.Outcome State Fault Refusal :=
  s.on (fun h => if h.armed (.censusRetry (ringIx b)) then
      h.onPeriod (.censusRetry (ringIx b)) (ms 100) (fun h => h.originate b (h.nextRound b))
    else h)

/-- COMMIT_REPEAT (R128): the manager repeats its last COMMIT, with the same round. -/
def execCommitRepeat (b : Bool) (s : State) : Host.Outcome State Fault Refusal :=
  s.on (fun h => h.onDue (.commitRepeat (ringIx b)) (fun h =>
    match h.isMgr b, (h.member b).lastCommit with
    | true, some c => ((h.heardCommit b).sendPass b .commit { c with shub := h.candidateNo b }).arm (.commitRepeat (ringIx b)) (ms 1000)
    | _, _ => h))

/-- A write of MBR_CTL.CENSUS (Table 05.9): a round starts where this hub is manager; ignored elsewhere. -/
def Hub.censusCmd (h : Hub) : Hub :=
  let h1 := if h.isMgr false then h.originate false (h.nextRound false) else h
  if h1.isMgr true then h1.originate true (h1.nextRound true) else h1

/-- MBR_CENSUS_CMD (R128). -/
def execMbrCensusCmd (req : Req) (s : State) : Host.Outcome State Fault Refusal :=
  s.on (fun h => h.writing req Reg.MBR_CTL Hub.censusCmd)

/-- A number leaves the reservation table of a ring, and the log's copy of it (R129). -/
def Hub.unreserve (h : Hub) (b : Bool) (n : Nat) : Hub :=
  let m := h.member b
  if m.reserved.contains n then
    let r := m.reserved.filter (· ≠ n)
    let h1 := (h.setMember b { m with reserved := r }).disarm (.reservation (ringIx b) n)
    let i := h1.log.ident
    h1.identityChange (if b then { i with resvB := r } else { i with resvA := r })
  else h

/-- A write of MBR_CTL.FREE (R129). -/
def Hub.freeCmd (h : Hub) (n : Nat) : Hub :=
  let h1 := if h.isMgr false then h.unreserve false n else h
  if h1.isMgr true then h1.unreserve true n else h1

/-- MBR_FREE_CMD (R129, Table 05.9). -/
def execMbrFreeCmd (req : Req) (n : BitVec 7) (s : State) : Host.Outcome State Fault Refusal :=
  s.on (fun h => h.writing req Reg.MBR_CTL (fun h => h.freeCmd n.toNat))

/-- RESERVATION_EXPIRY (R129). -/
def execReservationExpiry (b : Bool) (n : BitVec 7) (s : State) : Host.Outcome State Fault Refusal :=
  s.on (fun h => h.onDue (.reservation (ringIx b) n.toNat) (fun h => h.unreserve b n.toNat))

/-- R128, at a lane's entry to UP: a numbered hub whose partner there is unnumbered, or another than the last one, asks
the manager for a round; a manager-capable hub waits 100 ms for a COMMIT from its first lane. -/
def Hub.memberLaneUp (h : Hub) (l : Nat) : Hub :=
  let b := h.laneRing l
  let serial := h.rd (Reg.RING_PSERIAL_HI l) ++ h.rd (Reg.RING_PSERIAL_LO l)
  let ask := h.numbered b &&
    (decide (h.get (Fld.RING_PARTNER_PHUB l) = 0) || decide ((h.lane l).lastPartner ≠ some serial))
  let h1 := if !ask then h else if h.isMgr b then h.originate b (h.nextRound b) else h.sendRequest l
  let same := decide ((h1.lane l).lastPartner = some serial)
  let h2 := h1.setLane l { h1.lane l with lastPartner := some serial, unnumberedRounds := if same then (h1.lane l).unnumberedRounds else 0 }
  if h2.is Fld.MBR_CFG_MGRCAP ∧ !h2.armed (.censusSilence (ringIx b)) then h2.arm (.censusSilence (ringIx b)) (ms 100) else h2

/-! ### Incarnations -/

/-- R130, R132: one announce by every path whose link has INCARN and on whose ring the hub is numbered. -/
def Hub.announce (h : Hub) : Hub :=
  let inc := h.get Fld.MBR_ID_A_INCARN
  let arg := BitVec.ofNat 48 (inc * 0x100000000 + (h.rd Reg.CHIP_SERIAL_LO).toNat % 65536 * 65536)
  ((h.ringPaths.filter (fun l => (h.rd (Reg.RING_LINK l)).getLsbD 18)).filter (fun l => h.numbered (h.laneRing l))).foldl
    (fun g l =>
      let hd := g.opHeader l 0 0 3 0xFF (BitVec.ofNat 16 g.announced) g.now.toFrame arg 8
      g.offerOp ⟨{ hd with auth := (g.rd Reg.KEY_AUTHCFG).getLsbD 8 }, beBytes 8 h.serial.toNat, 0⟩ l) h

/-- INCARN_ANNOUNCE_SEND (R130): three announces 100 us apart, then one every 1 s. -/
def execIncarnAnnounceSend (s : State) : Host.Outcome State Fault Refusal :=
  s.on (fun h => h.onDue .incarnNext (fun h =>
    let h1 := h.announce
    let h2 := { h1 with announced := h1.announced + 1 }
    h2.arm .incarnNext (if h2.announced < 3 then us 100 else ms 1000)))

/-- R132: whether the hub may send C0-C3 frames of its own on a ring: numbered, three announces sent, 50 ms since chip
reset. -/
def Hub.mayOriginate (h : Hub) (b : Bool) : Bool :=
  h.numbered b && decide (3 ≤ h.announced) && decide (h.born + ms 50 ≤ h.clock)

/-- The key of a duplicate-discard entry (R134). -/
def ddKey (ring hub stream : Nat) : Nat := ring * 0x100000 + hub * 0x1000 + stream

/-- R131: the incarnation and serial-number bits heard from a hub; where either changes, its duplicate-discard entries are
discarded and MBR_CNT_INCRESET counts. An incarnation field of 0 carries none. -/
def Hub.heardIncarn (h : Hub) (ring hub inc serial : Nat) : Hub :=
  let k := ring * 256 + hub
  match Assoc.get h.incarns k with
  | none => { h with incarns := Assoc.put h.incarns k (inc, serial) }
  | some (i0, s0) =>
    let i1 := if inc = 0 then i0 else inc
    let h1 := { h with incarns := Assoc.put h.incarns k (i1, serial) }
    if (inc ≠ 0 ∧ i0 ≠ 0 ∧ inc ≠ i0) ∨ serial ≠ s0 then
      let mine (key : Nat) : Bool := decide (key / 0x1000 = k)
      let gone := (h.dd.filter (fun e => mine e.1)).map (fun e => e.1)
      (gone.foldl (fun (g : Hub) key => g.disarm (.dd key)) { h1 with dd := h1.dd.filter (fun e => !mine e.1) }).count
        Reg.MBR_CNT_INCRESET
    else h1

/-- The incarnation and serial-number bits of ARG of a TYPE 0 frame (R138); they may tell of the manager (R124). -/
def Hub.heardBeatArg (h : Hub) (hdr : Header) : Hub :=
  (h.heardIncarn hdr.sring.toNat hdr.shub.toNat (hdr.arg.extractLsb' 32 16).toNat (hdr.arg.extractLsb' 16 16).toNat).showManager

/-- INCARN_ANNOUNCE_RX (R131). -/
def execIncarnAnnounceRx (hdr : Header) (s : State) : Host.Outcome State Fault Refusal := s.on (fun h => h.heardBeatArg hdr)

/-! ### Duplicate discard -/

/-- What R134 decides of a frame. -/
inductive DDVerdict where
  | accept | dup | old | full
deriving DecidableEq, Repr

/-- R134: the procedure on an entry. -/
def DDEntry.judge (e : DDEntry) (seq : BitVec 16) : DDVerdict × DDEntry :=
  let d := (seq - e.top).toNat
  if d = 0 then (.dup, e)
  else if d ≤ 32767 then (.accept, ⟨seq, (if 64 ≤ d then 0 else e.window <<< d) ||| 1#64⟩)
  else
    let b := 65536 - d
    if 64 ≤ b then (.old, e)
    else if e.window.getLsbD b then (.dup, e)
    else (.accept, { e with window := e.window ||| BitVec.ofNat 64 (2 ^ b) })

/-- DDAGE of R134 in ps; 0 is taken as 1 ms. -/
def Hub.ddAge (h : Hub) : Nat := ms (max 1 (h.get Fld.MBR_DDCFG_DDAGE))

/-- R134: duplicate discard of one C0-C3 frame; an accepted frame restarts the entry's age. -/
def Hub.ddAccept (h : Hub) (hdr : Header) : Bool × Hub :=
  let k := ddKey hdr.sring.toNat hdr.shub.toNat hdr.stream.toNat
  match Assoc.get h.dd k with
  | none =>
    if h.dd.length < 4096 then (true, Hub.arm { h with dd := Assoc.put h.dd k ⟨hdr.seq, 1⟩ } (.dd k) h.ddAge)
    else (false, (h.count Reg.MBR_CNT_DDFULL).raise Flt.DDFULL 2 0 k 0)
  | some e =>
    let r := e.judge hdr.seq
    match r.1 with
    | .accept => (true, Hub.arm { h with dd := Assoc.put h.dd k r.2 } (.dd k) h.ddAge)
    | .dup => (false, h.count Reg.MBR_CNT_DUP)
    | _ => (false, h.count Reg.MBR_CNT_OLD)

/-- DD_ENTRY_AGE (R134). -/
def execDdEntryAge (ring : BitVec 4) (hub : BitVec 8) (stream : BitVec 12) (s : State) : Host.Outcome State Fault Refusal :=
  s.on (fun h => h.onDue (.dd (ddKey ring.toNat hub.toNat stream.toNat)) (fun h =>
    { h with dd := Assoc.del h.dd (ddKey ring.toNat hub.toNat stream.toNat) }))

/-! ### Tethers -/

/-- R139: a path on which beats are sent is watched from then on. -/
def Hub.watch (h : Hub) (p : Nat) : Hub :=
  if (h.path p).watched then h else (h.setPath p { h.path p with watched := true }).arm (.path p) (us 320)

/-- R138: the beats of one instant of the schedule. R139: from its first instant on the partner paths of a mirror pair are watched,
whether or not they can carry beats yet (log 145). -/
def Hub.tetherBeat (h : Hub) : Hub :=
  if h.is Fld.REAM_STATUS_BYPASS then h
  else
    let near := [0, 1, 2, 3].filter (fun l => h.laneUp l && h.bothNumbered l)
    let watched := near ++ (if h.is Fld.MBR_PAIRCFG_EN then h.partnerPaths else [])
    (near ++ h.beatPaths).foldl (fun (g : Hub) p => g.sendBeat p) (watched.foldl (fun (g : Hub) p => g.watch p) h)

/-- TETHER_SEND (R138): at each instant k x 100 us of the schedule, counted from the release of chip reset. -/
def execTetherSend (s : State) : Host.Outcome State Fault Refusal :=
  s.on (fun h =>
    let h1 := if h.armed .tether then h else h.armAt .tether (h.born + us 100)
    h1.onPeriod .tether (us 100) Hub.tetherBeat)

/-- The path that a beat has come by (Tables 05.3 and 05.8); none for a reserved SUB or an announce. A ring beat belongs to the path of
the lane that it arrives on, whichever way round it was sent (DESIGN CHOICE, log 144). -/
def beatPath (l : Nat) (sub : Nat) : Option Nat :=
  if sub = 0 ∧ l < 4 then some l else if sub = 1 ∧ l = 4 then some 4 else if sub = 2 ∧ l < 4 then some (5 + l) else none

/-- R139: a good beat on a path: the 320 us start again; beats for 1 ms with no gap above 120 us clear its fault. -/
def Hub.goodBeat (h : Hub) (p : Nat) (seq : BitVec 16) : Hub :=
  let r := h.path p
  let run := match r.runStart with
    | some t => if h.clock - r.lastBeat ≤ us 120 then t else h.clock
    | none => h.clock
  let on := decide (4 ≤ p) || h.bothNumbered p
  let h0 := h.setPath p { r with watched := on, lastBeat := h.clock, runStart := some run, heardSeq := seq }
  let h1 := if on then h0.arm (.path p) (us 320) else h0
  if h1.faulted p ∧ ms 1 ≤ h1.clock - run then h1.pathHeal p else h1

/-- TETHER_RX (R131, R138, R139): reserved kinds are counted. -/
def execTetherRx (l : Fin 5) (hdr : Header) (s : State) : Host.Outcome State Fault Refusal :=
  s.on (fun h =>
    if 4 ≤ hdr.sub.toNat then h.count Reg.MBR_CNT_CENBAD
    else match beatPath l.val hdr.sub.toNat with
      | some p => (h.heardBeatArg hdr).goodBeat p hdr.seq
      | none => h)

/-- PATH_FAULT (R139). -/
def execPathFault (p : Fin 9) (s : State) : Host.Outcome State Fault Refusal :=
  s.on (fun h => h.onDue (.path p.val) (fun h => if (h.path p.val).watched then h.pathFail p.val else h))

end Sys2Proof.Machine
end

