-- ==== Sys2Proof/Machine/XactOps.lean ====
section
/-! DEFINITION. Transactions as other blocks use them: routes, completions, notices, BUSY answers (R180 to R203). -/

namespace Sys2Proof.Machine

/-! ### Routes -/

/-- The key of a learned distance (R185). -/
def routeKey (ring hub lane : Nat) : Nat := (ring * 256 + hub) * 8 + lane

/-- R185: a frame that arrived by a ring lane in UP tells the distance of its source. -/
def Hub.learnRoute (h : Hub) (l : Nat) (hdr : Header) : Hub :=
  if l < 4 ∧ hdr.shub ≠ 0 then
    let k := routeKey hdr.sring.toNat hdr.shub.toNat l
    { h with xact := { h.xact with routes := Assoc.put h.xact.routes k (hdr.hops.toNat + 1, h.clock) } }
  else h

/-- What has been learned of a hub by a lane: hops and instant. -/
def Hub.learned (h : Hub) (ring hub l : Nat) : Option (Nat × Nat) := Assoc.get h.xact.routes (routeKey ring hub l)

/-- R185: whether a direction is usable: its lane UP and its information at most 3 s old. -/
def Hub.usable (h : Hub) (ring hub l : Nat) : Option Nat :=
  match h.learned ring hub l with
  | some (n, t) => if h.laneUp l ∧ h.clock - t ≤ ms 3000 then some n else none
  | none => none

/-- The better of two lanes by hops, east on a tie (R185). -/
def Hub.better (h : Hub) (ring hub east west : Nat) : Option Nat :=
  match h.usable ring hub east, h.usable ring hub west with
  | some a, some b => some (if b < a then west else east)
  | some _, none => some east
  | none, some _ => some west
  | none, none => none

/-- R186: the lane of a guess among lanes in order of preference: of those that are UP the one by which the hub last learned of the
destination, the first where it has learned of it by none. -/
def Hub.guess (h : Hub) (ring hub : Nat) (lanes : List Nat) : Option Nat :=
  let up := lanes.filter h.laneUp
  let since (l : Nat) : Nat := ((h.learned ring hub l).map (fun e => e.2)).getD 0
  match up.filter (fun l => (h.learned ring hub l).isSome) with
  | [] => up.head?
  | l :: t => some (t.foldl (fun b x => if since b < since x then x else b) l)

/-- The pairs of lanes by which a ring of this hub is reached, in order of preference (Table 05.2, R185). -/
def Hub.ringPairs (h : Hub) (ring : Nat) : List (Nat × Nat) :=
  (if ring = h.ringOf false then (if h.pairB = 1 then [(0, 1), (2, 3)] else [(0, 1)]) else []) ++
  (if h.pairB = 2 ∧ ring = h.ringOf true then [(2, 3)] else [])

/-- R185 to R188: the lane for a C4-C7 frame, and whether it is a guess. -/
def Hub.routeLane (h : Hub) (ring hub : Nat) : Option (Nat × Bool) :=
  match h.ringPairs ring with
  | [] =>
    let l := h.get (Fld.XB_RTE_RT ring)
    if h.laneUp l then some (l, false) else none
  | ps =>
    match ps.findSome? (fun p => h.better ring hub p.1 p.2) with
    | some l => some (l, false)
    | none => (h.guess ring hub (ps.flatMap (fun p => [p.1, p.2]))).map (fun l => (l, true))

/-- The key of a stream towards a hub. -/
def destKey (stream ring hub : Nat) : Nat := ddKey ring hub stream

/-- R195: a posted write that takes another lane than the one before it is counted. -/
def Hub.rerouted (h : Hub) (key l : Nat) : Hub :=
  let h1 := match Assoc.get h.xact.lastLane key with
    | some m => if m ≠ l then (h.count Reg.XB_CNT_REROUTE).evt Fld.XB_EVT_REROUTE else h
    | none => h
  { h1 with xact := { h1.xact with lastLane := Assoc.put h1.xact.lastLane key l } }

/-- The key of a bridged stream of another hub towards a hub. -/
def transitKey (hdr : Header) : Nat :=
  0x1000000 * (1 + ddKey hdr.sring.toNat hdr.shub.toNat hdr.stream.toNat) + 0x100 * hdr.dring.toNat + hdr.dhub.toNat

/-- R186: a guess is counted. -/
def Hub.guessed (h : Hub) (g : Bool) : Hub := if g then (h.count Reg.XB_CNT_GUESS).evt Fld.XB_EVT_GUESS else h

/-- Whether a (ring, hub) names this hub. -/
def Hub.isSelf (h : Hub) (ring hub : Nat) : Bool :=
  (h.numbered false && decide (ring = h.ringOf false) && decide (hub = h.hubNo false)) ||
  (decide (h.pairB = 2) && h.numbered true && decide (ring = h.ringOf true) && decide (hub = h.hubNo true))

/-- The header of a transaction frame of this hub towards (ring, hub) by a lane (Table 07.1). -/
def Hub.xactHeader (h : Hub) (l typ cls sub : Nat) (world : Bool) (ring hub stream : Nat) (seq : BitVec 16)
    (tag : BitVec 10) (arg : BitVec 48) (len : Nat) : Header :=
  { h.opHeader l typ cls sub (BitVec.ofNat 8 hub) seq h.now.toFrame arg len with
    world := world, auth := h.authClass world cls, dring := BitVec.ofNat 4 ring, stream := BitVec.ofNat 12 stream, tag := tag }

/-- A transaction frame formed by port i leaves by its route. -/
def Hub.sendXact (h : Hub) (i typ cls sub : Nat) (world : Bool) (ring hub stream : Nat) (tag : BitVec 10)
    (arg : BitVec 48) (payload : List Byte) : Option Frame × Hub :=
  match h.routeLane ring hub with
  | none => (none, h)
  | some (l, g) =>
    let q := (h.guessed g).nextSeq stream
    let f : Frame := ⟨q.2.xactHeader l typ cls sub world ring hub stream q.1 tag arg payload.length, payload, 0⟩
    (some f, q.2.offer i f [l] false false)

/-! ### Completions -/

/-- Status codes of Table 07.3. -/
def stSC : Nat := 0
/-- Unsupported request. -/
def stUR : Nat := 1
/-- Completer abort. -/
def stCA : Nat := 2
/-- The request could not be queued at the target. -/
def stBUSY : Nat := 3
/-- Made by the requester only. -/
def stTIMEOUT : Nat := 4

/-- R183, R184: the completion of a request, on the completer stream; a READ that ends in any status but SC carries RDLEN
octets of 0xFF. -/
def Hub.complete (h : Hub) (hdr : Header) (rdlen status : Nat) (data : List Byte) : Hub :=
  let pay := if hdr.sub = 0 ∧ status ≠ stSC then List.replicate rdlen 0xFF else data
  let r := h.sendXact 9 7 6 status (h.portSecure 9) hdr.sring.toNat hdr.shub.toNat (h.get Fld.XB_CPLSTREAM_CPLSTR) hdr.tag
    hdr.arg pay
  match r.1 with
  | some _ => r.2
  | none => (h.count Reg.XB_CNT_NOROUTE).evt Fld.XB_EVT_NOROUTE

/-- R191: a non-posted request that the core refuses at its target is answered BUSY from a table of 16 entries; beyond it
the request is lost and counted. An entry is free again once the switch core has taken its answer from XB. -/
def Hub.busyAnswer (h : Hub) (hdr : Header) (rdlen : Nat) : Hub :=
  let waiting := (h.sw.offered.filter (fun o => o.inp = 9 ∧ o.frame.hdr.typ = 7 ∧ o.frame.hdr.sub = 3)).length
  if waiting < 16 then h.complete hdr rdlen stBUSY [] else h.count Reg.XB_CNT_BUSY

/-! ### Notices -/

/-- Causes of Table 07.6. -/
def causeDECODE : Nat := 0
/-- R91 refuses the write. -/
def causeWORLD : Nat := 1
/-- R94. -/
def causeSEALED : Nat := 2
/-- R163. -/
def causeQFULL : Nat := 3
/-- No enabled bridged host window. -/
def causeNOWIN : Nat := 4
/-- Bus Master Enable is clear. -/
def causeNOBM : Nat := 5
/-- The host link is down. -/
def causeLINKDOWN : Nat := 6
/-- R188. -/
def causeNOROUTE : Nat := 7
/-- R181. -/
def causeMALF : Nat := 8

/-- The content of a notice beside cause and address, as one number for the fault record: STAMP, LEN, port, WORLD, STREAM, SEQ. -/
def Notice.content (n : Notice) : Nat :=
  (n.stamp ++ n.len ++ n.port ++ (BitVec.ofBool n.world).setWidth 8 ++ n.stream ++ n.seq).toNat

/-- R202: a notice reaches this hub as the source of the failed write: FLT_POSTFAIL with its content; XB_PFQ, freshest, and
vector 10 for HP's stream; Ploia for MC's. -/
def Hub.noticeIn (h : Hub) (n : Notice) : Hub :=
  let h1 := (h.count Reg.XB_CNT_PFRECV).raise Flt.POSTFAIL 14 n.cause n.addr.toNat n.content
  if n.stream.toNat = h.get Fld.XB_STREAM_HPSTR then
    let x := h1.xact
    if x.pfq.length < 16 then (Hub.msix { h1 with xact := { x with pfq := x.pfq ++ [n] } } 10)
    else (Hub.evt { h1 with xact := { x with pfq := x.pfq.drop 1 ++ [n], pfqLost := min 127 (x.pfqLost + 1) } }
      Fld.XB_EVT_PFQLOST).msix 10
  else if n.stream.toNat = h.get Fld.XB_STREAM_MCSTR then
    h1.emit (.note 11 [n.cause, n.addr.toNat, n.stream.toNat, n.seq.toNat, if n.world then 1 else 0, n.port.toNat, n.len.toNat, n.stamp.toNat])
  else h1

/-- The notice of a failed posted write that was for a switch port, 0xFF where it was for none. -/
def noticeOf (hdr : Header) (port cause : Nat) (addr : BitVec 48) : Notice :=
  ⟨cause, addr, hdr.stream.setWidth 16, hdr.seq, hdr.world, BitVec.ofNat 8 port, hdr.len, hdr.stamp⟩

/-- The payload of a notice (Table 07.7). -/
def noticePayload (hdr : Header) (port : Nat) : List Byte :=
  beBytes 2 hdr.stream.toNat ++ beBytes 2 hdr.seq.toNat ++ [if hdr.world then 1 else 0, BitVec.ofNat 8 port] ++
  beBytes 2 hdr.len.toNat ++ beBytes 10 hdr.stamp.toNat ++ List.replicate 6 0

/-- R200, R201: a posted write that cannot be performed draws a notice to its source, at most RATE in each window of 1 ms;
beyond it XB_CNT_PFSUPP counts. -/
def Hub.notice (h : Hub) (hdr : Header) (port cause : Nat) (addr : BitVec 48) : Hub :=
  if h.isSelf hdr.sring.toNat hdr.shub.toNat ∨ hdr.shub = 0 then h.noticeIn (noticeOf hdr port cause addr)
  else
    let x := if ms 1 ≤ h.clock - h.xact.noteFrom then { h.xact with noteFrom := h.clock / ms 1 * ms 1, noteCount := 0 } else h.xact
    if x.noteCount < max 1 (h.get Fld.XB_PFCFG_RATE) then
      let h1 := { h with xact := { x with noteCount := x.noteCount + 1 } }
      let r := h1.sendXact 9 11 6 cause (h1.portSecure 9) hdr.sring.toNat hdr.shub.toNat (h1.get Fld.XB_CPLSTREAM_CPLSTR) 0 addr
        (noticePayload hdr port)
      match r.1 with
      | some _ => r.2.count Reg.XB_CNT_PFSENT
      | none => h1
    else Hub.count { h with xact := x } Reg.XB_CNT_PFSUPP

/-- R163, R191, R200: what a refused copy towards a target block means for its transaction: QFULL for a posted write, BUSY
for a non-posted request. -/
def Hub.refusedCopy (h : Hub) (o : Nat) (f : Frame) : Hub :=
  if o ≠ 9 ∧ o ≠ 10 then h
  else if f.hdr.typ = 5 then h.notice f.hdr o causeQFULL f.hdr.arg
  else if f.hdr.typ = 6 then h.busyAnswer f.hdr (ofBe (slice f.payload 0 2))
  else h

end Sys2Proof.Machine
end

