-- ==== Sys2Proof/Machine/Origin.lean ====
section
/-! DEFINITION. Frames that blocks of this hub originate, and where a consumed frame goes (R87, R132, R133, R155, R211,
R217, R238, R241, R262). -/

namespace Sys2Proof.Machine

/-! ### Guarded sources -/

/-- The register at a local address in EVB's copy of the GRD_ registers (R261). -/
def Hub.rdB (h : Hub) (a : Nat) : Word := Sparse.get regReset h.regsB a
/-- EVB's copy of a GRD_ register set. -/
def Hub.wrB (h : Hub) (a : Nat) (v : Word) : Hub := { h with regsB := Sparse.put regReset h.regsB a v }
/-- A field in EVB's copy. -/
def Hub.getB (h : Hub) (f : Field) : Nat := f.of (h.rdB f.reg)

/-- R262: whether a TYPE 3 frame matches a source named by its identity and line words; SHUB 0 means this hub. -/
def Hub.sourceIs (h : Hub) (hdr : Header) (src line : Word) : Bool :=
  let shub := (src.extractLsb' 20 7).toNat
  line.getLsbD 31 && decide (hdr.typ = 3) && (hdr.sub == 1 || hdr.sub == 2) &&
  decide (hdr.stream = src.extractLsb' 0 12) && decide (hdr.arg.extractLsb' 32 16 = line.extractLsb' 0 16) &&
  (if shub = 0 then hdr.shub == 0 || h.isSelf hdr.sring.toNat hdr.shub.toNat
   else decide (hdr.shub.toNat = shub) && decide (hdr.sring = src.extractLsb' 28 4))

/-- The ARM source of channel n, in EVA's copy. -/
def Hub.armIs (h : Hub) (n : Nat) (hdr : Header) : Bool := h.sourceIs hdr (h.rd (Reg.GRD_ARMSRC n)) (h.rd (Reg.GRD_ARMLINE n))
/-- The FIRE source of channel n, in EVA's copy. -/
def Hub.fireIsA (h : Hub) (n : Nat) (hdr : Header) : Bool :=
  h.sourceIs hdr (h.rd (Reg.GRD_FIRESRC n)) (h.rd (Reg.GRD_FIRELINE n))
/-- The FIRE source of channel n, in EVB's copy. -/
def Hub.fireIs (h : Hub) (n : Nat) (hdr : Header) : Bool :=
  h.sourceIs hdr (h.rdB (Reg.GRD_FIRESRC n)) (h.rdB (Reg.GRD_FIRELINE n))

/-- R262: whether a frame names a source of any channel. -/
def Hub.anyGuard (h : Hub) (hdr : Header) : Bool :=
  (List.range 16).any (fun n => h.armIs n hdr || h.fireIsA n hdr || h.fireIs n hdr)

/-! ### Local consumers -/

/-- R219: whether a tunnel's SUB is a version 1.0 to 1.2. -/
def tunnelOk (sub : BitVec 6) : Bool := decide (sub.extractLsb' 3 3 = 1#3) && decide ((sub.extractLsb' 0 3).toNat ≤ 2)

/-- Octet k of a payload. -/
def Frame.oct (f : Frame) (k : Nat) : Byte := f.payload.getD k 0

/-- R217, R220, Tables 07.10 and 07.11: the far port of a tunnel, at octet k of its header; 0xFF before version 1.2. -/
def Frame.farPort (f : Frame) (k : Nat) : Nat := if (f.hdr.sub.extractLsb' 0 3).toNat < 2 then 0xFF else (f.oct k).toNat

/-- R218: the far port of an Ethernet tunnel; 0xFF by XB_TUNDEF. -/
def Hub.ethFar (h : Hub) (f : Frame) : Nat :=
  let p := f.farPort 14
  if p = 0xFF then h.get Fld.XB_TUNDEF_ETHPORT else p

/-- R219: a tunnel of another version is discarded. -/
def Hub.tunnelBad (h : Hub) (f : Frame) : Hub :=
  ((h.count Reg.XB_CNT_TUNVER).evt Fld.XB_EVT_TUNVER).raise Flt.TUNVER 14 0 f.hdr.sub.toNat 0

/-- R143: whether the hub answers management requests that frames bring: half of a mirror pair only while it drives PAIR_LEAD
(log 149). -/
def Hub.answersMgmt (h : Hub) : Bool := !h.is Fld.MBR_PAIRCFG_EN || decide (h.pair.lead = some true)

/-- The local outputs of a consumed frame, in ascending order, and what its discard counts (R155, R156, R211, R218, R219,
R241, R476; log 25 for side-band targets that Table 07.9 does not name). -/
def Hub.localOuts (h : Hub) (f : Frame) : List Nat × Hub :=
  let a := f.hdr.arg
  match f.hdr.typ.toNat with
  | 3 =>
    let p := (a.extractLsb' 27 5).toNat
    ((if p = 9 ∨ p = 10 then [p] else []) ++ (if h.anyGuard f.hdr then [20] else []), h)
  | 4 =>
    let p := (a.extractLsb' 30 5).toNat
    if f.hdr.sub ≠ 0 then
      ([], if 11 ≤ p ∧ p ≤ 18 then h.count (Reg.BRD_CNT_FILLLOST (p - 11) (a.extractLsb' 36 3).toNat) else h)
    else (if 9 ≤ p ∧ p ≤ 18 then [p] else [], h)
  | 5 => ([9], h)
  | 6 => ([9], h)
  | 7 => (if h.xact.out.any (fun o => o.tag == f.hdr.tag.toNat && o.req.mc) then [10] else [9], h)
  | 8 =>
    if !tunnelOk f.hdr.sub then ([], h.tunnelBad f)
    else
      let p := h.ethFar f
      if p ≤ 3 then ([5 + p], h) else if p = 9 ∨ p = 10 then ([p], h) else ([], h.count Reg.XB_CNT_TUNDROP)
  | 9 => if tunnelOk f.hdr.sub then ([19], h) else ([], h.tunnelBad f)
  | 10 =>
    let p := (a.extractLsb' 43 5).toNat
    let ok := match f.hdr.sub.toNat with
      | 0 => decide (p = 9)
      | 1 => decide (p = 9 ∨ p = 10)
      | 2 => decide (11 ≤ p ∧ p ≤ 19)
      | _ => decide (p = 9 ∨ p = 10)
    if ok then ([p], h) else ([], h.count Reg.XB_CNT_SBBAD)
  | 11 => (if ofBe (slice f.payload 0 2) = h.get Fld.XB_STREAM_MCSTR then [10] else [9], h)
  | 12 => (if h.answersMgmt then [10] else [], h)
  | 13 => (if f.hdr.sub.toNat ≤ 1 then [10] else [], h)
  | 14 => ([10], h)
  | _ => ([], h)

/-! ### Originating -/

/-- The ring on which this hub sends a frame for DRING: ring B where pair B is in bridge mode and ring B or BMASK has DRING,
else ring A (log 23). -/
def Hub.sourceRing (h : Hub) (dring : Nat) : Bool :=
  decide (h.pairB = 2) && (decide (dring = h.ringOf true) || (h.rd Reg.MBR_BRIDGE).getLsbD dring) && decide (dring ≠ h.ringOf false)

/-- The lanes of a frame that this hub originates (Table 05.2). -/
def Hub.sourceLanes (h : Hub) (b : Bool) : List Nat :=
  if b then [2, 3] else if h.pairB = 1 then [0, 1, 2, 3] else [0, 1]

/-- The header of a C0-C3 frame that the block of port p forms; WORLD of its port (R87), AUTH by R340. -/
def Hub.blockHeader (h : Hub) (p typ cls sub dring dhub stream : Nat) (seq : BitVec 16) (stamp : Stamp)
    (arg : BitVec 48) (len : Nat) : Header :=
  let b := h.sourceRing dring
  { h.opHeader 0 typ cls sub (BitVec.ofNat 8 dhub) seq stamp.toFrame arg len with
    world := h.portSecure p, auth := h.authClass (h.portSecure p) cls, sring := BitVec.ofNat 4 (h.ringOf b),
    shub := BitVec.ofNat 8 (h.self b), dring := BitVec.ofNat 4 dring, stream := BitVec.ofNat 12 stream }

/-- R262: a frame of EV for its own channels does not pass the switch core. -/
def Hub.innerCopy (h : Hub) (f : Frame) : Hub :=
  let q : QCopy := ⟨h.sw.nextId, h.sw.nextFid, 20, 20, f.hdr.cls.toNat, f, [], true, none, false, .release, false, 0, false, false, 0, 0, [], none⟩
  { h with sw := { h.sw with copies := h.sw.copies ++ [q], nextId := h.sw.nextId + 1 } }

/-- A C0-C3 frame of the block at port i: its copies go on every path of Table 05.2 whose lane is UP (R133), unless the hub
may not yet send (R132), and to the local consumers where its destination is this hub or everyone. -/
def Hub.sendEvent (h : Hub) (i : Nat) (f : Frame) : Hub :=
  let d := f.hdr.dhub.toNat
  let dr := f.hdr.dring.toNat
  let b := h.sourceRing dr
  let own := d = 0 ∨ h.isSelf dr d ∨ (d = 0xFE ∧ h.isMgr b)
  let early := ¬own ∧ !h.mayOriginate b
  let h1 := if early then h.count Reg.MBR_CNT_EARLY else h
  let lanes := if own ∨ early then [] else (h.sourceLanes b).filter h.laneUp
  let loc := if own ∨ d = 0xFF then h1.localOuts f else ([], h1)
  let inner := decide (i = 20) && loc.1.contains 20
  let outs := lanes ++ loc.1.filter (fun o => !(decide (i = 20) && decide (o = 20)))
  let h2 := if inner then loc.2.innerCopy f else loc.2
  if outs.isEmpty ∧ !inner then h2 else h2.offer i f outs false true

/-! ### Frames that local blocks have taken -/

/-- Whether a frame taken by a block is to be performed: on receipt where it was passed on at once with less than 16 ns left
(R68), where a jump has made it due (R49), or in C4-C7; else at its release time (R69, R245). -/
def Hub.actDue (h : Hub) (a : Act) : Bool :=
  h.time.forced.contains a.fid || decide (4 ≤ a.frame.hdr.cls.toNat) || decide (a.due ≤ h.now)

/-- The first element that satisfies p, and the list without it. -/
def takeFirst {α : Type} (p : α → Bool) : List α → Option (α × List α)
  | [] => none
  | a :: t => if p a then some (a, t) else match takeFirst p t with
    | none => none
    | some (b, r) => some (b, a :: r)

/-- The first frame taken at a port that satisfies p and is due is performed by f, and no longer waits. -/
def Hub.perform (h : Hub) (port : Nat) (p : Frame → Bool) (f : Act → Hub → Hub) : Hub :=
  match takeFirst (fun a => decide (a.port = port) && p a.frame && h.actDue a) h.acts with
  | none => h
  | some (a, rest) => f a { h with acts := rest }

end Sys2Proof.Machine
end

