-- ==== Sys2Proof/Machine/Bridle.lean ====
section
/-! DEFINITION. Engine clusters: lines, engine queues, the frame former, engine states, starts, edges, WIRE messages, PLL
(R224 to R248). -/

namespace Sys2Proof.Machine

/-! ### Engines and their registers -/

/-- The number of engine e of cluster c. -/
def engNo (c e : Nat) : Nat := 8 * c + e
/-- The unit of an engine. -/
def engUnit (c e : Nat) : UnitId := .engine (Fin.ofNat 8 c) (Fin.ofNat 8 e)
/-- The unit of a cluster. -/
def cluUnit (c : Nat) : UnitId := .cluster (Fin.ofNat 8 c)
/-- An engine's record. -/
def Hub.eng (h : Hub) (c e : Nat) : EngineRec := Sparse.get (fun _ => EngineRec.reset) h.engines (engNo c e)

/-- An engine's record replaced; BRD_EQLVL follows its queues (Table 08.12). -/
def Hub.setEng (h : Hub) (c e : Nat) (r : EngineRec) : Hub :=
  Hub.wr { h with engines := Sparse.put (fun _ => EngineRec.reset) h.engines (engNo c e) r }
    (Reg.BRD_EQLVL c e) (BitVec.ofNat 32 (0x10000 * r.rx.length + r.tx.length))

/-- The state of an engine. -/
def Hub.engState (h : Hub) (c e : Nat) : UState := (h.unit (engUnit c e)).state
/-- ARMED of an engine, DETAIL[11] (Table 08.8). -/
def Hub.engArmed (h : Hub) (c e : Nat) : Bool := (h.unit (engUnit c e)).detail.getLsbD 11
/-- Whether an engine is in RUN or STALL. -/
def Hub.engRuns (h : Hub) (c e : Nat) : Bool := h.engState c e == .run || h.engState c e == .stall
/-- The live stall reason, 0 none (BRD_EPC). -/
def Hub.stallReason (h : Hub) (c e : Nat) : Nat := h.get (Fld.BRD_EPC_STALL c e)

/-- The cluster's DETAIL: CDIV, and the engines in RUN or STALL (Table 08.8). -/
def Hub.cluDetail (h : Hub) (c : Nat) : Nat :=
  0x400 * h.get (Fld.BRD_CCFG_CDIV c) +
  (List.range 8).foldl (fun n e => if h.engRuns c e then n + 2 ^ e else n) 0

/-- The cluster takes a state. -/
def Hub.setClu (h : Hub) (c : Nat) (st : UState) : Hub := h.setUnit (cluUnit c) st (h.cluDetail c)

/-- An engine takes STATE with ARMED, fault cause and, in STALL, the stall reason (Table 08.8); the cluster's word
follows. -/
def Hub.setEngState (h : Hub) (c e : Nat) (st : UState) (armed : Bool) (cause : Nat) : Hub :=
  let d := (if armed then 0x800 else 0) + 0x10 * cause + (if st = .stall then h.stallReason c e else 0)
  let h1 := h.setUnit (engUnit c e) st d
  h1.setClu c (h1.unit (cluUnit c)).state

/-- The live stall reason; in STALL the state word follows. -/
def Hub.setReason (h : Hub) (c e r : Nat) : Hub :=
  let h1 := h.set (Fld.BRD_EPC_STALL c e) r
  if h1.engState c e = .stall ∧ r ≠ 0 then h1.setEngState c e .stall false 0 else h1

/-- One ECLK period in ps (R225). -/
def Hub.eclk (h : Hub) (c : Nat) : Nat := 4000 * 2 ^ h.get (Fld.BRD_CCFG_CDIV c)

/-- R229: the ECLK cycle of step k, floor(k D) with D = INT + FRAC / 256 and INT 0 meaning 65,536. -/
def Hub.stepCycle (h : Hub) (c e k : Nat) : Nat :=
  let i := h.get (Fld.BRD_EDIV_INT c e)
  k * ((if i = 0 then 65536 else i) * 256 + h.get (Fld.BRD_EDIV_FRAC c e)) / 256

/-- R251: whether an engine's configuration is valid. -/
def Hub.engValid (h : Hub) (c e : Nat) : Bool :=
  let len := h.get (Fld.BRD_EWIN_LEN c e)
  let tc := h.get (Fld.BRD_ESHIFT_TCOUNT c e)
  decide (1 ≤ len) && decide (len ≤ 64) && decide (h.get (Fld.BRD_EWIN_BASE c e) + len ≤ 512) &&
  decide (h.get (Fld.BRD_EWIN_WRAPB c e) ≤ h.get (Fld.BRD_EWIN_WRAPT c e)) &&
  decide (h.get (Fld.BRD_EWIN_WRAPT c e) < len) &&
  decide (tc ≤ (if h.is (Fld.BRD_ESHIFT_TAILOPT c e) then 3 else 4)) &&
  decide (h.get (Fld.BRD_EPINS_SETCNT c e) ≤ 12) && decide (h.get (Fld.BRD_EPINS_OUTCNT c e) ≤ 32)

/-! ### Lines -/

/-- A bit of a word set to a level. -/
def setLine (w : Word) (k : Nat) (b : Bool) : Word :=
  if b then w ||| (1#32 <<< (k % 32)) else w &&& ~~~(1#32 <<< (k % 32))

/-- R227: whether a line is owned by an engine. -/
def Hub.owns (h : Hub) (c e k : Nat) : Bool := h.is (Fld.BRD_LINEOWN_EN c k) && decide (h.get (Fld.BRD_LINEOWN_ENG c k) = e)

/-- R227: an engine writes the level or the direction of a line; the write of an engine that does not own it is ignored. -/
def Hub.driveLine (h : Hub) (c e k : Nat) (dir b : Bool) : Hub :=
  if h.owns c e (k % 32) then
    let a := if dir then Reg.BRD_LINEOE c else Reg.BRD_LINEOUT c
    h.wr a (setLine (h.rd a) k b)
  else h

/-- n lines from a base, wrapping modulo 32, take the low bits of a word (Table 08.4). -/
def Hub.driveRange (h : Hub) (c e base : Nat) (dir : Bool) (v : Word) : Nat → Hub
  | 0 => h
  | n + 1 => (Hub.driveRange h c e base dir v n).driveLine c e (base + n) dir (v.getLsbD n)

/-- n lines from a base as the low bits of a word, from the synchronized levels (R228). -/
def Hub.linesFrom (h : Hub) (c base n : Nat) : Word :=
  (List.range n).foldl (fun w k => if (h.rd (Reg.BRD_LINEIN c)).getLsbD ((base + k) % 32) then setLine w k true else w) 0

/-- The lines an engine owns become inputs (RELEASE). -/
def Hub.releaseLines (h : Hub) (c e : Nat) : Hub :=
  (List.range 32).foldl (fun (g : Hub) k => g.driveLine c e k true false) h

/-! ### Queues and the frame former -/

/-- JOIN; 3 is taken as 0 (Table 08.11). -/
def Hub.join (h : Hub) (c e : Nat) : Nat := let j := h.get (Fld.BRD_ESHIFT_JOIN c e); if j = 3 then 0 else j
/-- Words the TX queue holds (R235). -/
def Hub.txCap (h : Hub) (c e : Nat) : Nat := match h.join c e with | 1 => 16 | 2 => 0 | _ => 8
/-- Words the RX queue holds (R235). -/
def Hub.rxCap (h : Hub) (c e : Nat) : Nat := match h.join c e with | 2 => 16 | 1 => 0 | _ => 8
/-- DRAINTH or FILLTH; 0 is taken as 32 (Table 08.11). -/
def threshold (v : Nat) : Nat := if v = 0 then 32 else v
/-- DRAINTH in force. -/
def Hub.drainTh (h : Hub) (c e : Nat) : Nat := threshold (h.get (Fld.BRD_ESHIFT_DRAINTH c e))
/-- FILLTH in force. -/
def Hub.fillTh (h : Hub) (c e : Nat) : Nat := threshold (h.get (Fld.BRD_ESHIFT_FILLTH c e))

/-- Closed buffers of an engine that wait for the switch core (R240). -/
def Hub.closedBuffers (h : Hub) (c e : Nat) : Nat :=
  (h.sw.offered.filter (fun o => decide (o.inp = 11 + c) && decide (o.frame.hdr.typ = 4) &&
    decide ((o.frame.hdr.arg.extractLsb' 40 3).toNat = e))).length

/-- R241, STREAM_FRAME_CLOSE: the open buffer becomes one TYPE 4 frame with the given stamp. -/
def Hub.closeBuffer (h : Hub) (c e : Nat) (stamp : Stamp) : Hub :=
  let r := h.eng c e
  if r.buffer.isEmpty then h
  else
    let port := h.get (Fld.BRD_ESTR_PORT c e)
    let arg : BitVec 48 := BitVec.ofNat 48 (c * 2 ^ 44 + e * 2 ^ 40 + h.get (Fld.BRD_ESTR_TENG c e) * 2 ^ 36 + port * 2 ^ 30 +
      r.buffer.length)
    let stream := h.get (Fld.BRD_ESTR_STREAM c e)
    let q := (h.setEng c e { r with buffer := [] }).nextSeq stream
    let pay := r.buffer.flatMap (fun w => beBytes 4 w.toNat)
    let hdr := q.2.blockHeader (11 + c) 4 1 0 (h.get (Fld.BRD_ESTR_DRING c e)) (h.get (Fld.BRD_ESTR_DHUB c e)) stream q.1 stamp
      arg pay.length
    (q.2.sendEvent (11 + c) ⟨hdr, pay, 0⟩).count (Reg.BRD_CNT_FRAMES c e)

/-- R240: the frame former takes words from the RX queue of an engine with DRAIN set, while a buffer is open; the 64th
word closes a buffer with SR as its stamp. -/
def Hub.former (h : Hub) (c e : Nat) : Nat → Hub
  | 0 => h
  | n + 1 =>
    let r := h.eng c e
    match r.rx with
    | [] => h
    | w :: t =>
      if h.is (Fld.BRD_ESHIFT_DRAIN c e) ∧ h.closedBuffers c e < 2 then
        let h1 := h.setEng c e { r with rx := t, buffer := r.buffer ++ [w] }
        Hub.former (if 64 ≤ r.buffer.length + 1 then h1.closeBuffer c e r.sr else h1) c e n
      else h

/-- Words enter the RX queue, and the former takes what it may. -/
def Hub.rxPush (h : Hub) (c e : Nat) (ws : List Word) : Hub :=
  let r := h.eng c e
  (h.setEng c e { r with rx := r.rx ++ ws }).former c e 16

/-- The stamp of this cycle (R237). -/
def Hub.cycleStamp (h : Hub) : Stamp := h.now

/-! ### Engine states (Table 08.5) -/

/-- What stops with an engine's instruction. -/
def Hub.abandon (h : Hub) (c e : Nat) : Hub :=
  let h1 := ((h.set (Fld.BRD_EPC_STALL c e) 0).disarm (.engStall (engNo c e)))
  h1.setEng c e { h1.eng c e with irqWait := false }

/-- Registers, queues, counts and edge registers cleared; PC 0. -/
def Hub.engClear (h : Hub) (c e : Nat) : Hub :=
  ((((h.abandon c e).setEng c e EngineRec.reset).wr (Reg.BRD_EPC c e) 0).wr (Reg.BRD_EX c e) 0).wr (Reg.BRD_EY c e) 0

/-- R235: a queue that JOIN removes holds nothing, and one that JOIN makes shorter keeps its oldest words (DESIGN CHOICE, log 138). -/
def Hub.joined (h : Hub) (c e : Nat) : Hub :=
  let r := h.eng c e
  h.setEng c e { r with tx := r.tx.take (h.txCap c e), rx := r.rx.take (h.rxCap c e) }

/-! ### Flags -/

/-- R245: the ECLK cycle of a cluster in which the hub stands, its edges at whole periods of the model's clock (DESIGN CHOICE, log 139). -/
def Hub.eclkCycle (h : Hub) (c : Nat) : Nat := h.clock / h.eclk c

/-- R245: bit k of BRD_FLAGS is set. -/
def Hub.flagSet (h : Hub) (c k : Nat) : Hub :=
  Hub.wr { h with flagSets := Assoc.put h.flagSets (32 * c + k) (h.eclkCycle c) } (Reg.BRD_FLAGS c) (setLine (h.rd (Reg.BRD_FLAGS c)) k true)

/-- R245: bit k of BRD_FLAGS is cleared, unless it was set in the same ECLK cycle: then it ends set. -/
def Hub.flagClear (h : Hub) (c k : Nat) : Hub :=
  if Assoc.get h.flagSets (32 * c + k) = some (h.eclkCycle c) then h
  else h.wr (Reg.BRD_FLAGS c) (setLine (h.rd (Reg.BRD_FLAGS c)) k false)

/-- The flags of a mask are set, or cleared. -/
def Hub.flagMask (h : Hub) (c : Nat) (mask : BitVec 8) (b : Bool) : Hub :=
  (List.range 8).foldl (fun (g : Hub) k => if mask.getLsbD k then (if b then g.flagSet c k else g.flagClear c k) else g) h

/-- A start on a freshly restarted divider: step 0 falls now; edge registers cleared (R229, R237). -/
def Hub.engStart (h : Hub) (c e : Nat) (pc : Option Nat) : Hub :=
  let h1 := match pc with
    | some a => h.set (Fld.BRD_EPC_PC c e) a
    | none => h
  let r := h1.eng c e
  ((h1.setEng c e { r with rise := (0, false), fall := (0, false), started := h1.clock, step := 0, irqWait := false }).testCancel
    (engUnit c e)).setEngState c e .run false 0

/-- STOP (Tables 08.5, 08.6): RUN and STALL go to IDLE; registers and queues are kept. -/
def Hub.engStop (h : Hub) (c e : Nat) : Hub :=
  if h.engRuns c e then (h.abandon c e).setEngState c e .idle false 0 else h

/-- An engine's cluster leaves RUN: OFF, its lines hold (Table 08.5). -/
def Hub.engOff (h : Hub) (c e : Nat) : Hub :=
  if h.engState c e = .off then h else (h.abandon c e).setEngState c e .off false 0

/-- R232: the engine meets an instruction it cannot execute: FAULT, its lines hold, FLT_ENGFAULT. -/
def Hub.engFault (h : Hub) (c e cause : Nat) : Hub :=
  let f : Field := ⟨Reg.BRD_EVT c, 8 + e, 1⟩
  (((h.abandon c e).setEngState c e .fault false cause).evt f).raise Flt.ENGFAULT (15 + c) e cause 0

/-- Engines that a start finds not ready: STARTMISS (R243, R245). -/
def Hub.startMiss (h : Hub) (c : Nat) : Hub := (h.count (Reg.BRD_CNT_STARTMISS c)).evt (Fld.BRD_EVT_STARTMISS c)

/-- R243, R245: the engines of a mask that are IDLE and not armed start at their PC, where their configuration is valid;
every other one is missed. -/
def Hub.maskStart (h : Hub) (c : Nat) (mask : BitVec 8) : Hub :=
  (List.range 8).foldl (fun (g : Hub) e =>
    if mask.getLsbD e then
      if g.engState c e = .idle ∧ !g.engArmed c e then (if g.engValid c e then g.engStart c e none else g)
      else g.startMiss c
    else g) h

/-- The engines of a mask stop. -/
def Hub.maskStop (h : Hub) (c : Nat) (mask : BitVec 8) : Hub :=
  (List.range 8).foldl (fun (g : Hub) e => if mask.getLsbD e then g.engStop c e else g) h

/-! ### Engine commands (Table 08.6) -/

/-- START. -/
def Hub.engStartCmd (h : Hub) (c e : Nat) (arg : Nat) : CmdResult × Hub :=
  if h.engState c e = .idle ∧ !h.engArmed c e ∧ h.engValid c e then (.done, h.engStart c e (some (arg % 64))) else (.badcmd, h)

/-- STOP. -/
def Hub.engStopCmd (h : Hub) (c e : Nat) : CmdResult × Hub := (.done, h.engStop c e)

/-- RESTART; an armed engine stays armed, since no row of Table 08.5 disarms it. -/
def Hub.engRestart (h : Hub) (c e : Nat) : CmdResult × Hub :=
  if h.engRuns c e then (.badcmd, h)
  else if h.engState c e = .idle ∨ h.engState c e = .fault then
    (.done, (h.engClear c e).setEngState c e .idle (h.engArmed c e) 0)
  else (.done, h)

/-- RELEASE. -/
def Hub.engRelease (h : Hub) (c e : Nat) : CmdResult × Hub :=
  if h.engRuns c e then (.done, (h.engStop c e).releaseLines c e) else (.done, h)

/-- ENGINE_START (R246). -/
def execEngineStart (req : Req) (c e : Fin 8) (expect : BitVec 8) (pc : BitVec 6) (s : State) :
    Host.Outcome State Fault Refusal :=
  s.on (fun h => h.command (.engine c e) req 1 pc.toNat expect (fun g => g.engStartCmd c.val e.val pc.toNat))

/-- ENGINE_STOP (R246). -/
def execEngineStop (req : Req) (c e : Fin 8) (expect : BitVec 8) (s : State) : Host.Outcome State Fault Refusal :=
  s.on (fun h => h.command (.engine c e) req 2 0 expect (fun g => g.engStopCmd c.val e.val))

/-- ENGINE_RESTART (R246). -/
def execEngineRestart (req : Req) (c e : Fin 8) (expect : BitVec 8) (s : State) : Host.Outcome State Fault Refusal :=
  s.on (fun h => h.command (.engine c e) req 3 0 expect (fun g => g.engRestart c.val e.val))

/-- ENGINE_RELEASE (R246). -/
def execEngineRelease (req : Req) (c e : Fin 8) (expect : BitVec 8) (s : State) : Host.Outcome State Fault Refusal :=
  s.on (fun h => h.command (.engine c e) req 5 0 expect (fun g => g.engRelease c.val e.val))

/-- ENGINE_STALL_TIMEOUT (R246). -/
def execEngineStallTimeout (c e : Fin 8) (s : State) : Host.Outcome State Fault Refusal :=
  s.on (fun h => h.onDue (.engStall (engNo c.val e.val)) (fun g =>
    if g.engState c.val e.val = .run ∧ g.stallReason c.val e.val ≠ 0 then g.setEngState c.val e.val .stall false 0 else g))

/-! ### Cluster commands (Table 08.7) -/

/-- SYNC (R243). -/
def Hub.cluSync (h : Hub) (c : Nat) (mask : BitVec 8) : CmdResult × Hub := (.done, h.maskStart c mask)

/-- T of a cluster. -/
def Hub.tmsT (h : Hub) (c : Nat) : Stamp :=
  Stamp.mk (h.get (Fld.BRD_TMS_HI_SEC_HI c) * 0x100000000 + (h.rd (Reg.BRD_TMS_SEC c)).toNat) (h.rd (Reg.BRD_TMS_NS c)).toNat 0

/-- ARM (R244): the T of the registers is taken when the command arms (log 27). -/
def Hub.cluArm (h : Hub) (c : Nat) (mask : BitVec 8) : CmdResult × Hub :=
  let t := h.tmsT c
  let bad := decide (t < h.now + nsec 2000) || (List.range 8).any (fun e => h.engArmed c e) ||
    (List.range 8).any (fun e => mask.getLsbD e && decide (h.engState c e ≠ .idle))
  if bad then (.badcmd, h)
  else
    (.done, (List.range 8).foldl (fun (g : Hub) e => if mask.getLsbD e then (g.testCancel (engUnit c e)).setEngState c e .idle true 0 else g)
      { h with armedAt := Sparse.put (fun _ => 0) h.armedAt c t })

/-- DISARM (R244). -/
def Hub.cluDisarm (h : Hub) (c : Nat) (mask : BitVec 8) : CmdResult × Hub :=
  (.done, (List.range 8).foldl (fun (g : Hub) e =>
    if mask.getLsbD e ∧ g.engArmed c e then g.setEngState c e .idle false 0 else g) h)

/-- STOP of a mask. -/
def Hub.cluStop (h : Hub) (c : Nat) (mask : BitVec 8) : CmdResult × Hub := (.done, h.maskStop c mask)

/-- CLUSTER_SYNC (R243). -/
def execClusterSync (req : Req) (c : Fin 8) (expect mask : BitVec 8) (s : State) : Host.Outcome State Fault Refusal :=
  s.on (fun h => h.command (.cluster c) req 1 mask.toNat expect (fun g => g.cluSync c.val mask))

/-- CLUSTER_ARM (R244). -/
def execClusterArm (req : Req) (c : Fin 8) (expect mask : BitVec 8) (s : State) : Host.Outcome State Fault Refusal :=
  s.on (fun h => h.command (.cluster c) req 2 mask.toNat expect (fun g => g.cluArm c.val mask))

/-- CLUSTER_DISARM (R244). -/
def execClusterDisarm (req : Req) (c : Fin 8) (expect mask : BitVec 8) (s : State) : Host.Outcome State Fault Refusal :=
  s.on (fun h => h.command (.cluster c) req 3 mask.toNat expect (fun g => g.cluDisarm c.val mask))

/-- CLUSTER_STOP (R246). -/
def execClusterStop (req : Req) (c : Fin 8) (expect mask : BitVec 8) (s : State) : Host.Outcome State Fault Refusal :=
  s.on (fun h => h.command (.cluster c) req 4 mask.toNat expect (fun g => g.cluStop c.val mask))

/-- R244, Table 08.5: the armed engines of a cluster start without a further condition; TMSUNLOCK where the lock state is not LOCKED, TMSSKIP where
a jump skipped T. -/
def Hub.startArmed (h : Hub) (c : Nat) (skip : Bool) : Hub :=
  let any := (List.range 8).any (fun e => h.engArmed c e)
  if !any then h
  else
    let h1 := (List.range 8).foldl (fun (g : Hub) e =>
      if g.engArmed c e then g.engStart c e none else g) h
    let h2 := if h1.get Fld.TIME_STATUS_LOCK = 1 then h1 else h1.evt (Fld.BRD_EVT_TMSUNLOCK c)
    if skip then h2.evt (Fld.BRD_EVT_TMSSKIP c) else h2

/-- The T that armed engines of a cluster wait for. -/
def Hub.armT (h : Hub) (c : Nat) : Stamp := Sparse.get (fun _ => 0) h.armedAt c

/-- ENGINE_TIMED_START (R244, R77): the ECLK edge nearest T has come, which lies at most 2c ns before it where CDIV is /c. -/
def execEngineTimedStart (c : Fin 8) (s : State) : Host.Outcome State Fault Refusal :=
  s.on (fun h => if h.armT c.val ≤ h.now + nsec (2 * 2 ^ h.get (Fld.BRD_CCFG_CDIV c.val)) then h.startArmed c.val false else h)

/-! ### Stream frames and WIRE messages -/

/-- STREAM_FILL (R242): at its release time the words of a frame enter the TX queue of the target engine, all or none. -/
def execStreamFill (c : Fin 8) (s : State) : Host.Outcome State Fault Refusal :=
  s.on (fun h => h.perform (11 + c.val) (fun f => f.hdr.typ == 4) (fun a g =>
    let e := (a.frame.hdr.arg.extractLsb' 36 3).toNat
    let n := (a.frame.hdr.arg.extractLsb' 0 8).toNat
    let ws := (List.range n).map (fun k => BitVec.ofNat 32 (ofBe (slice a.frame.payload (4 * k) 4)))
    let r := g.eng c.val e
    if g.is (Fld.BRD_ESHIFT_FEED c.val e) ∧ r.tx.length + n ≤ g.txCap c.val e then g.setEng c.val e { r with tx := r.tx ++ ws }
    else (g.count (Reg.BRD_CNT_FILLLOST c.val e)).raise Flt.FILLLOST (15 + c.val) e n 0))

/-- The WIRE index of a message. -/
def wireIndex (f : Frame) : Nat := (f.hdr.arg.extractLsb' 0 16).toNat

/-- WIRE_FLAG_RX (R245): a wire flag takes the level; an index that R245 does not name is counted. -/
def execWireFlagRx (c : Fin 8) (s : State) : Host.Outcome State Fault Refusal :=
  s.on (fun h => h.perform (11 + c.val)
    (fun f => f.hdr.typ == 10 && !(decide (0x100 ≤ wireIndex f) && decide (wireIndex f ≤ 0x2FF)))
    (fun a g =>
      let k := wireIndex a.frame
      if k ≤ 15 then
        (if a.frame.hdr.arg.getLsbD 16 then g.flagSet c.val (8 + k) else g.flagClear c.val (8 + k))
      else g.count (Reg.BRD_CNT_WIREBAD c.val)))

/-- WIRE_START_RX (R245). -/
def execWireStartRx (c : Fin 8) (s : State) : Host.Outcome State Fault Refusal :=
  s.on (fun h => h.perform (11 + c.val)
    (fun f => f.hdr.typ == 10 && decide (0x100 ≤ wireIndex f) && decide (wireIndex f ≤ 0x1FF))
    (fun a g => g.maskStart c.val (a.frame.hdr.arg.extractLsb' 0 8)))

/-- WIRE_STOP_RX (R245). -/
def execWireStopRx (c : Fin 8) (s : State) : Host.Outcome State Fault Refusal :=
  s.on (fun h => h.perform (11 + c.val)
    (fun f => f.hdr.typ == 10 && decide (0x200 ≤ wireIndex f) && decide (wireIndex f ≤ 0x2FF))
    (fun a g => g.maskStop c.val (a.frame.hdr.arg.extractLsb' 0 8)))

/-! ### Line edges -/

/-- A line's record. -/
def Hub.line (h : Hub) (c k : Nat) : LineRec := Sparse.get (fun _ => LineRec.reset) h.lines (32 * c + k)
/-- A line's record replaced. -/
def Hub.setLineRec (h : Hub) (c k : Nat) (r : LineRec) : Hub :=
  { h with lines := Sparse.put (fun _ => LineRec.reset) h.lines (32 * c + k) r }

/-- R238, EDGE_EVENT: the event of an edge; GAP starts. -/
def Hub.edgeEvent (h : Hub) (c k : Nat) (stamp : Stamp) (level : Bool) : Hub :=
  let r := h.line c k
  let stream := h.get (Fld.BRD_EDGESTR_STREAM c)
  let q := h.nextSeq stream
  let arg : BitVec 48 := BitVec.ofNat 48 ((32 * c + k) * 2 ^ 32 + h.get (Fld.BRD_EDGESTR_PORT c) * 2 ^ 27 + (if level then 1 else 0))
  let pay := beBytes 10 stamp.toFrame.toNat ++ beBytes 2 r.missed ++ [0, 0, 0, 0]
  let hdr := q.2.blockHeader (11 + c) 3 (if h.is (Fld.BRD_EDGESTR_C0 c) then 0 else 1) 2 (h.get (Fld.BRD_EDGESTR_DRING c))
    (h.get (Fld.BRD_EDGESTR_DHUB c)) stream q.1 stamp arg 16
  let h1 := (q.2.sendEvent (11 + c) ⟨hdr, pay, 0⟩).count (Reg.BRD_CNT_EDGEEVT c)
  (h1.setLineRec c k ⟨level, none, 0⟩).arm (.edgeGap (32 * c + k)) (1000 * h.get (Fld.BRD_EDGEFLT_GAP c))

/-- An edge of a line produced no event (R238). -/
def LineRec.miss (r : LineRec) : LineRec := { r with missed := min 0xFFFF (r.missed + 1) }

/-- R237: the edge registers of the engines whose JPIN is the line. -/
def Hub.edgeRegs (h : Hub) (c k : Nat) (stamp : Stamp) (level : Bool) : Hub :=
  (List.range 8).foldl (fun (g : Hub) e =>
    if g.get (Fld.BRD_EPINS_JPIN c e) = k then
      let r := g.eng c e
      let g1 := if (if level then r.rise.2 else r.fall.2) then
          (g.count (Reg.BRD_CNT_EDGEOVR c)).evt (Fld.BRD_EVT_EDGEOVR c)
        else g
      g1.setEng c e (if level then { r with rise := (stamp, true) } else { r with fall := (stamp, true) })
    else g) h

/-- SEL of BRD_EDGECFG: whether an edge of this polarity is selected. -/
def Hub.edgeSelected (h : Hub) (c k : Nat) (level : Bool) : Bool :=
  (h.rd (Reg.BRD_EDGECFG c (k / 16))).getLsbD (2 * (k % 16) + (if level then 0 else 1))

/-- LINE_EDGE (R236 to R239): a transition whose new level has held until now; one that has not held for FILT is no edge. Its stamp is
converted by R53 and corrected by the input pad delay (R52). While the cluster is not in RUN no line is judged. -/
def Hub.lineEdge (h : Hub) (c k : Nat) (level : Bool) (raw : Sample) : Hub :=
  let stamp := h.sampled raw - h.get (Fld.BRD_LAT_IN_LAT c) * 65536 / 1000
  let h1 := h.wr (Reg.BRD_LINEIN c) (setLine (h.rd (Reg.BRD_LINEIN c)) k level)
  if (h.unit (cluUnit c)).state ≠ .run ∨ h.now < h.sampled raw + nsec (h.get (Fld.BRD_EDGEFLT_FILT c)) then h1
  else
    let h2 := h1.edgeRegs c k stamp level
    let r := h2.line c k
    if h2.armed (.edgeGap (32 * c + k)) then
      (h2.setLineRec c k { r.miss with latest := some (stamp, level) }).count (Reg.BRD_CNT_EDGESUP c)
    else if h2.edgeSelected c k level then h2.edgeEvent c k stamp level
    else h2.setLineRec c k r.miss

/-- LINE_EDGE (R236). -/
def execLineEdge (c : Fin 8) (k : Fin 32) (level : Bool) (raw : Sample) (s : State) : Host.Outcome State Fault Refusal :=
  s.on (fun h => h.lineEdge c.val k.val level raw)

/-- EDGE_GAP_END (R239): where the level differs from the level last reported, the latest edge is sent; it no longer counts
among those without an event. -/
def execEdgeGapEnd (c : Fin 8) (k : Fin 32) (s : State) : Host.Outcome State Fault Refusal :=
  s.on (fun h => h.onDue (.edgeGap (32 * c.val + k.val)) (fun g =>
    let r := g.line c.val k.val
    match r.latest with
    | some (stamp, level) =>
      if level ≠ r.reported then
        (g.setLineRec c.val k.val { r with missed := r.missed - 1 }).edgeEvent c.val k.val stamp level
      else g.setLineRec c.val k.val { r with latest := none }
    | none => g))

/-! ### Host queues -/

/-- TXQ_PUSH (R235): a write of BRD_TXQ. -/
def Hub.txqPush (h : Hub) (c e : Nat) (w : Word) : Hub :=
  let r := h.eng c e
  if h.is (Fld.BRD_ESHIFT_FEED c e) ∨ h.txCap c e ≤ r.tx.length then h.evt ⟨Reg.BRD_EVT c, 16 + e, 1⟩
  else h.setEng c e { r with tx := r.tx ++ [w] }

/-- TXQ_PUSH (R235). -/
def execTxqPush (req : Req) (c e : Fin 8) (w : Word) (s : State) : Host.Outcome State Fault Refusal :=
  s.on (fun h => h.writing req (Reg.BRD_TXQ c.val e.val) (fun g => g.txqPush c.val e.val w))

/-- RXQ_POP (R235): a read of BRD_RXQ. -/
def Hub.rxqPop (h : Hub) (c e : Nat) : Word × Hub :=
  let r := h.eng c e
  if h.is (Fld.BRD_ESHIFT_DRAIN c e) then (0, h)
  else match r.rx with
    | [] => (0, h)
    | w :: t => (w, h.setEng c e { r with rx := t })

/-- RXQ_POP (R235). -/
def execRxqPop (req : Req) (c e : Fin 8) (s : State) : Host.Outcome State Fault Refusal :=
  s.on (fun h => h.reading req (Reg.BRD_RXQ c.val e.val) (fun g => g.rxqPop c.val e.val))

/-! ### Clusters -/

/-- A cluster reaches RUN: its engines go to IDLE, cleared (Table 08.5); its lines count from 0 (R238). -/
def Hub.cluRun (h : Hub) (c : Nat) : Hub :=
  let h1 := (List.range 32).foldl (fun (g : Hub) k =>
    (g.setLineRec c k { LineRec.reset with reported := (g.rd (Reg.BRD_LINEIN c)).getLsbD k }).disarm (.edgeGap (32 * c + k))) h
  let h2 := h1.setClu c .run
  (List.range 8).foldl (fun (g : Hub) e => (g.engClear c e).setEngState c e .idle false 0) h2

/-- R226: the bank voltage that VSEL asks for, as the detector of VIOc gives it (0 absent, 1 1.8 V, 2 3.3 V); where it
agrees the cluster runs, else it stays OFF with FLT_BANKV. A cluster not in use is OFF, its lines inputs (R227). -/
def Hub.cluApply (h : Hub) (c : Nat) (vio : Nat) : Hub :=
  let h0 := h.wr (Reg.BRD_LINEOE c) 0
  if h0.is (Fld.BRD_CCFG_EN c) then
    if vio = 1 + h0.get (Fld.BRD_CCFG_VSEL c) then h0.cluRun c
    else ((h0.setClu c .off).raise Flt.BANKV (15 + c) c vio 0)
  else h0.setClu c .off

/-- CLUSTER_PLL_LOSS (R226). -/
def execClusterPllLoss (c : Fin 8) (s : State) : Host.Outcome State Fault Refusal :=
  s.on (fun h =>
    if (h.unit (.cluster c)).state = .run then
      let h0 := { h with clocksOff := (15 + c.val) :: h.clocksOff.erase (15 + c.val) }
      let h1 := (List.range 8).foldl (fun (g : Hub) e => g.engOff c.val e) h0
      ((h1.setClu c.val .fault).evt (Fld.BRD_EVT_CLPLL c.val)).raise Flt.CLPLL (15 + c.val) c.val 0 0
    else h)

/-- CLUSTER_PLL_RELOCK (R226): the cluster returns to RUN with its engines in IDLE; the SCLK offset is measured again. -/
def execClusterPllRelock (c : Fin 8) (s : State) : Host.Outcome State Fault Refusal :=
  s.on (fun h => 
    if (h.unit (.cluster c)).state = .fault then Hub.cluRun { h with clocksOff := h.clocksOff.erase (15 + c.val) } c.val else h)

end Sys2Proof.Machine
end

