-- ==== Sys2Proof/Machine/Engine.lean ====
section
/-! DEFINITION. The bridle engine instruction set (R229 to R241, Tables 08.2 to 08.4). -/

namespace Sys2Proof.Machine

/-! ### Fetch, steps, outcomes -/

/-- What an instruction comes to: it completes, with a jump or without; it stalls for a reason of Table 08.8; or it cannot be
executed, with a cause of Table 08.8 (R232). -/
inductive EngOut where
  | next (pc : Option Nat)
  | stall (reason : Nat)
  | fault (cause : Nat)
deriving DecidableEq, Repr

/-- Causes of Table 08.8. -/
def causeILLOP : Nat := 1
/-- BITS of 0 or above 32. -/
def causeBADCODE : Nat := 2
/-- An address at or beyond LEN. -/
def causeBADJMP : Nat := 3
/-- A queue that JOIN removes, or EMIT without DRAIN. -/
def causeILLQ : Nat := 4

/-- PC of an engine. -/
def Hub.engPc (h : Hub) (c e : Nat) : Nat := h.get (Fld.BRD_EPC_PC c e)

/-- The instruction at PC, relative to the engine's window. -/
def Hub.engWord (h : Hub) (c e : Nat) : Word := h.rd (Reg.BRD_PROG c ((h.get (Fld.BRD_EWIN_BASE c e) + h.engPc c e) % 512))

/-- OP of an instruction word (Table 08.2). -/
def opOf (w : Word) : Nat := (w.extractLsb' 28 4).toNat
/-- A field of the operand. -/
def opnd (w : Word) (lo n : Nat) : Nat := (w.extractLsb' lo n).toNat

/-- The operand bits that Table 08.3 names for an OP; a set bit beside them is a reserved code (log 26). -/
def namedBits : Nat → Word
  | 0 => 0xF83F | 1 => 0xF01F | 2 => 0xE03F | 3 => 0xE03F | 4 => 0xC000 | 5 => 0xC000 | 6 => 0xFF00 | 7 => 0xEFFF
  | 8 => 0xC007 | 9 => 0xF000 | 10 => 0x8000 | _ => 0

/-- R232: whether an instruction holds a reserved OP or a reserved code (Tables 08.3 and 08.4). -/
def reservedCode (w : Word) : Bool :=
  let d := opnd w 13 3
  decide (11 ≤ opOf w) || decide ((w &&& 0xFFFF#32) &&& ~~~(namedBits (opOf w)) ≠ 0) ||
  match opOf w with
  | 0 => decide (14 ≤ opnd w 12 4)
  | 1 => decide (5 ≤ opnd w 12 3) || (decide (opnd w 12 3 = 4) && decide (opnd w 0 5 ≠ 0))
  | 2 => decide (6 ≤ d)
  | 3 => decide (d = 7)
  | 6 => decide (d = 3 ∨ d = 4) || decide (opnd w 11 2 = 3)
  | 7 => decide (d = 3 ∨ 5 ≤ d)
  | _ => false

/-- The next PC where no jump is taken (R230). -/
def Hub.engNext (h : Hub) (c e : Nat) : Nat :=
  if h.engPc c e = h.get (Fld.BRD_EWIN_WRAPT c e) then h.get (Fld.BRD_EWIN_WRAPB c e) else (h.engPc c e + 1) % 64

/-- R231: the tail of an instruction. -/
def Hub.engTail (h : Hub) (c e : Nat) (w : Word) : Hub :=
  let tail := w.extractLsb' 24 4
  let opt := h.is (Fld.BRD_ESHIFT_TAILOPT c e)
  let n := min (if opt then 3 else 4) (h.get (Fld.BRD_ESHIFT_TCOUNT c e))
  if opt ∧ !tail.getLsbD 3 then h
  else h.driveRange c e (h.get (Fld.BRD_ESHIFT_TAILBASE c e)) (h.is (Fld.BRD_ESHIFT_TAILDIR c e)) (tail.setWidth 32) n

/-- The instruction is done or stalls: its tail is driven, the next step set (R229, R230), STALL left when it completes
(R246). -/
def Hub.engFinish (h : Hub) (c e : Nat) (w : Word) (o : EngOut × Hub) : Hub :=
  match o.1 with
  | .fault k => h.engFault c e k
  | .stall r =>
    let h1 := o.2.engTail c e w
    let h2 := if h1.stallReason c e = 0 then h1.arm (.engStall (engNo c e)) (ms 1) else h1
    let h3 := h2.setReason c e r
    h3.setEng c e { h3.eng c e with step := (h3.eng c e).step + 1 }
  | .next j =>
    let h1 := o.2.engTail c e w
    let h2 := h1.abandon c e
    let h3 := if h2.engState c e = .stall then h2.setEngState c e .run false 0 else h2
    let h4 := h3.set (Fld.BRD_EPC_PC c e) (j.getD (h.engNext c e))
    h4.setEng c e { h4.eng c e with step := (h4.eng c e).step + 1 + opnd w 16 8 }

/-- Whether the step at which the next instruction begins has come (R229). -/
def Hub.engDue (h : Hub) (c e : Nat) : Bool :=
  let r := h.eng c e
  h.engRuns c e && decide (r.started + h.stepCycle c e r.step * h.eclk c ≤ h.clock)

/-- The instruction at PC of a running engine is executed by f, where it is one of the operation given. -/
def Hub.engDo (h : Hub) (c e : Nat) (p : Nat → Bool) (f : Hub → Word → EngOut × Hub) : Hub :=
  let w := h.engWord c e
  if h.engDue c e && p (opOf w) then h.engFinish c e w (if reservedCode w then (.fault causeILLOP, h) else f h w) else h

/-- The levels that the two-cycle synchronizers of R228 show in this step. -/
def Hub.pinsSeen (h : Hub) (c : Nat) (pins : Word) : Hub := h.wr (Reg.BRD_LINEIN c) pins

/-! ### The operations -/

/-- X. -/
def Hub.engX (h : Hub) (c e : Nat) : Word := h.rd (Reg.BRD_EX c e)
/-- Y. -/
def Hub.engY (h : Hub) (c e : Nat) : Word := h.rd (Reg.BRD_EY c e)

/-- The tests of JMP that only read state (Table 08.4). -/
def Hub.engTest (h : Hub) (c e t : Nat) : Bool :=
  let r := h.eng c e
  match t with
  | 0 => true
  | 1 => (h.rd (Reg.BRD_LINEIN c)).getLsbD (h.get (Fld.BRD_EPINS_JPIN c e))
  | 2 => h.engX c e == 0
  | 3 => h.engY c e == 0
  | 4 => h.engX c e == h.engY c e
  | 7 => r.rise.2
  | 8 => r.fall.2
  | 9 => decide (h.fillTh c e ≤ r.osrCount)
  | 10 => decide (h.drainTh c e ≤ r.isrCount)
  | 11 => decide (h.txCap c e = 0) || r.tx.isEmpty
  | 12 => decide (h.rxCap c e ≠ 0) && decide (h.rxCap c e ≤ r.rx.length)
  | _ => (h.rd (Reg.BRD_FLAGS c)).getLsbD 0

/-- JMP (Table 08.3): XLOOP and YLOOP decrement their register in every case. -/
def Hub.opJmp (h : Hub) (c e : Nat) (w : Word) : EngOut × Hub :=
  let addr := opnd w 0 6
  if h.get (Fld.BRD_EWIN_LEN c e) ≤ addr then (.fault causeBADJMP, h)
  else
    let t := opnd w 12 4
    let h1 := if t = 5 then h.wr (Reg.BRD_EX c e) (h.engX c e - 1) else if t = 6 then h.wr (Reg.BRD_EY c e) (h.engY c e - 1) else h
    let ok := if t = 5 then h1.engX c e != 0 else if t = 6 then h1.engY c e != 0 else h.engTest c e t
    (.next (if ok != w.getLsbD 11 then some addr else none), h1)

/-- Whether the source of a WAIT has reached its level (Table 08.4). -/
def Hub.waitHolds (h : Hub) (c e : Nat) (w : Word) : Bool :=
  let pol := w.getLsbD 15
  let i := opnd w 0 5
  let lines := h.rd (Reg.BRD_LINEIN c)
  match opnd w 12 3 with
  | 0 => lines.getLsbD i == pol
  | 1 => lines.getLsbD ((h.get (Fld.BRD_EPINS_INBASE c e) + i) % 32) == pol
  | 2 => (h.rd (Reg.BRD_FLAGS c)).getLsbD (i % 8) == pol
  | 3 => (h.rd (Reg.BRD_FLAGS c)).getLsbD (8 + i % 16) == pol
  | _ => if pol then (h.eng c e).rise.2 else (h.eng c e).fall.2

/-- WAIT (Table 08.3). -/
def Hub.opWait (h : Hub) (c e : Nat) (w : Word) : EngOut × Hub := if h.waitHolds c e w then (.next none, h) else (.stall 1, h)

/-- A source of IN as a word. -/
def Hub.inSource (h : Hub) (c e s n : Nat) : Word :=
  let r := h.eng c e
  match s with
  | 0 => h.linesFrom c (h.get (Fld.BRD_EPINS_INBASE c e)) n
  | 1 => h.engX c e
  | 2 => h.engY c e
  | 4 => r.isr
  | 5 => r.osr
  | _ => 0

/-- The low n bits of a word. -/
def lowBits (w : Word) (n : Nat) : Word := if 32 ≤ n then w else w &&& BitVec.ofNat 32 (2 ^ n - 1)

/-- IN (R233, R234). -/
def Hub.opIn (h : Hub) (c e : Nat) (w : Word) : EngOut × Hub :=
  let n := opnd w 0 6
  if n = 0 ∨ 32 < n then (.fault causeBADCODE, h)
  else
    let r := h.eng c e
    let bits := lowBits (h.inSource c e (opnd w 13 3) n) n
    let isr := if h.is (Fld.BRD_ESHIFT_ISHR c e) then (r.isr >>> n) ||| (bits <<< (32 - n)) else (r.isr <<< n) ||| bits
    let cnt := min 32 (r.isrCount + n)
    if h.is (Fld.BRD_ESHIFT_DRAINEN c e) ∧ h.drainTh c e ≤ cnt then
      if h.join c e = 1 then (.fault causeILLQ, h)
      else if h.rxCap c e ≤ r.rx.length then (.stall 3, h)
      else (.next none, (h.setEng c e { r with isr := 0, isrCount := 0 }).rxPush c e [isr])
    else (.next none, h.setEng c e { r with isr := isr, isrCount := cnt })

/-- BITS bits out of an OSR: the bits and what is left (R233). -/
def Hub.osrTake (h : Hub) (c e : Nat) (osr : Word) (n : Nat) : Word × Word :=
  if h.is (Fld.BRD_ESHIFT_OSHR c e) then (lowBits osr n, osr >>> n) else (osr >>> (32 - n), osr <<< n)

/-- OUT (R233, R234); the ISR count after OUT ISR is a free value (log 7). -/
def Hub.opOut (h : Hub) (c e : Nat) (w : Word) : EngOut × Hub :=
  let n := opnd w 0 6
  if n = 0 ∨ 32 < n then (.fault causeBADCODE, h)
  else
    let r := h.eng c e
    let fill := decide (h.is (Fld.BRD_ESHIFT_FILLEN c e)) && decide (h.fillTh c e ≤ r.osrCount)
    match (if fill then (match r.tx with | [] => none | x :: t => some (x, 0, t)) else some (r.osr, r.osrCount, r.tx)) with
    | none => (.stall 2, h)
    | some (osr, cnt, tx) =>
      let t := h.osrTake c e osr n
      let r1 := { r with osr := t.2, osrCount := min 32 (cnt + n), tx := tx }
      let h1 := h.setEng c e r1
      let base := h.get (Fld.BRD_EPINS_OUTBASE c e)
      let k := min n (h.get (Fld.BRD_EPINS_OUTCNT c e))
      match opnd w 13 3 with
      | 0 => (.next none, h1.driveRange c e base false t.1 k)
      | 1 => (.next none, h1.wr (Reg.BRD_EX c e) t.1)
      | 2 => (.next none, h1.wr (Reg.BRD_EY c e) t.1)
      | 4 => (.next none, h1.driveRange c e base true t.1 k)
      | 5 =>
        let a := opnd t.1 0 6
        if h.get (Fld.BRD_EWIN_LEN c e) ≤ a then (.fault causeBADJMP, h) else (.next (some a), h1)
      | 6 => (.next none, Hub.draw (h1.setEng c e { r1 with isr := t.1, isrCount := (Config.freeWord h.draws).toNat % 33 }))
      | _ => (.next none, h1)

/-- PUSH (Table 08.3, R233). -/
def Hub.opPush (h : Hub) (c e : Nat) (w : Word) : EngOut × Hub :=
  let r := h.eng c e
  if h.join c e = 1 then (.fault causeILLQ, h)
  else if w.getLsbD 15 ∧ r.isrCount < h.drainTh c e then (.next none, h)
  else
    let h1 := h.setEng c e { r with isr := 0, isrCount := 0 }
    if h.rxCap c e ≤ r.rx.length then
      if w.getLsbD 14 then (.stall 3, h) else (.next none, h1.count (Reg.BRD_CNT_RXLOST c e))
    else (.next none, h1.rxPush c e [r.isr])

/-- PULL (Table 08.3, R233): a non-blocking PULL from an empty queue copies X. -/
def Hub.opPull (h : Hub) (c e : Nat) (w : Word) : EngOut × Hub :=
  let r := h.eng c e
  if h.join c e = 2 then (.fault causeILLQ, h)
  else if w.getLsbD 15 ∧ r.osrCount < h.fillTh c e then (.next none, h)
  else match r.tx with
    | [] => if w.getLsbD 14 then (.stall 2, h) else (.next none, h.setEng c e { r with osr := h.engX c e, osrCount := 0 })
    | x :: t => (.next none, h.setEng c e { r with osr := x, osrCount := 0, tx := t })

/-- A source of MOV (Table 08.4). -/
def Hub.movSource (h : Hub) (c e s : Nat) : Word :=
  let r := h.eng c e
  match s with
  | 0 => h.linesFrom c (h.get (Fld.BRD_EPINS_INBASE c e)) 32
  | 1 => h.engX c e
  | 2 => h.engY c e
  | 4 => BitVec.ofNat 32 r.tx.length
  | 5 => r.isr
  | 6 => r.osr
  | 7 => BitVec.ofNat 32 (Stamp.ns r.sr)
  | _ => 0

/-- MOV (Table 08.3); MOV PINS writes the lines of OUT PINS (log 28). -/
def Hub.opMov (h : Hub) (c e : Nat) (w : Word) : EngOut × Hub :=
  let x := h.movSource c e (opnd w 8 3)
  let v := match opnd w 11 2 with
    | 1 => ~~~x
    | 2 => x.reverse
    | _ => x
  let r := h.eng c e
  match opnd w 13 3 with
  | 0 => (.next none, h.driveRange c e (h.get (Fld.BRD_EPINS_OUTBASE c e)) false v (h.get (Fld.BRD_EPINS_OUTCNT c e)))
  | 1 => (.next none, h.wr (Reg.BRD_EX c e) v)
  | 2 => (.next none, h.wr (Reg.BRD_EY c e) v)
  | 5 => if h.get (Fld.BRD_EWIN_LEN c e) ≤ opnd v 0 6 then (.fault causeBADJMP, h) else (.next (some (opnd v 0 6)), h)
  | 6 => (.next none, h.setEng c e { r with isr := v, isrCount := 0 })
  | _ => (.next none, h.setEng c e { r with osr := v, osrCount := 0 })

/-- SET (Table 08.3). -/
def Hub.opSet (h : Hub) (c e : Nat) (w : Word) : EngOut × Hub :=
  let v := BitVec.ofNat 32 (opnd w 0 12)
  let base := h.get (Fld.BRD_EPINS_SETBASE c e)
  let n := h.get (Fld.BRD_EPINS_SETCNT c e)
  match opnd w 13 3 with
  | 0 => (.next none, h.driveRange c e base false v n)
  | 1 => (.next none, h.wr (Reg.BRD_EX c e) v)
  | 2 => (.next none, h.wr (Reg.BRD_EY c e) v)
  | _ => (.next none, h.driveRange c e base true v n)

/-- IRQ (Table 08.3): with WAIT and set, it sets the flag once and waits until another clears it. -/
def Hub.opIrq (h : Hub) (c e : Nat) (w : Word) : EngOut × Hub :=
  let k := opnd w 0 3
  let flags := h.rd (Reg.BRD_FLAGS c)
  let r := h.eng c e
  if w.getLsbD 15 then (.next none, h.flagClear c k)
  else if !w.getLsbD 14 then (.next none, h.flagSet c k)
  else if !r.irqWait then (.stall 4, (h.flagSet c k).setEng c e { r with irqWait := true })
  else if flags.getLsbD k then (.stall 4, h)
  else (.next none, h)

/-- The three words of SR that STMP pushes (R237). -/
def srWords (s : Stamp) : List Word :=
  [BitVec.ofNat 32 s.ns, BitVec.ofNat 32 s.sec, BitVec.ofNat 32 (s.frac * 0x10000 + s.sec / 0x100000000 % 0x10000)]

/-- STMP (R237). -/
def Hub.opStmp (h : Hub) (c e : Nat) (w : Word) : EngOut × Hub :=
  let r := h.eng c e
  let push := w.getLsbD 14
  let pol := w.getLsbD 13
  let keep := w.getLsbD 12
  let edge := w.getLsbD 15 && !keep
  let reg := if pol then r.rise else r.fall
  if push ∧ h.join c e = 1 then (.fault causeILLQ, h)
  else if edge ∧ !reg.2 then (.stall 5, h)
  else if push ∧ h.rxCap c e < r.rx.length + 3 then (.stall 3, h)
  else
    let sr := if keep then r.sr else if edge then reg.1 else h.cycleStamp
    let r1 := { r with sr := sr }
    let r2 := if edge then (if pol then { r1 with rise := (reg.1, false) } else { r1 with fall := (reg.1, false) }) else r1
    let h1 := h.setEng c e r2
    (.next none, if push then h1.rxPush c e (srWords sr) else h1)

/-- EMIT (R240, R241). -/
def Hub.opEmit (h : Hub) (c e : Nat) (w : Word) : EngOut × Hub :=
  if !h.is (Fld.BRD_ESHIFT_DRAIN c e) then (.fault causeILLQ, h)
  else if 2 ≤ h.closedBuffers c e then (.stall 6, h)
  else (.next none, h.closeBuffer c e (if w.getLsbD 15 then (h.eng c e).sr else h.cycleStamp))

/-- The operation of an instruction word; OP 11 to 15 never reach it (R232). -/
def Hub.engOp (h : Hub) (c e : Nat) (w : Word) : EngOut × Hub :=
  match opOf w with
  | 0 => h.opJmp c e w | 1 => h.opWait c e w | 2 => h.opIn c e w | 3 => h.opOut c e w | 4 => h.opPush c e w
  | 5 => h.opPull c e w | 6 => h.opMov c e w | 7 => h.opSet c e w | 8 => h.opIrq c e w | 9 => h.opStmp c e w
  | _ => h.opEmit c e w

/-! ### The steps of a running engine -/

/-- ENGINE_JMP (R231); a reserved OP is met here as well (R232). -/
def execEngineJmp (c e : Fin 8) (pins : Word) (s : State) : Host.Outcome State Fault Refusal :=
  s.on (fun h => (h.pinsSeen c.val pins).engDo c.val e.val (fun op => op == 0 || decide (11 ≤ op)) (fun g w => g.opJmp c.val e.val w))

/-- ENGINE_WAIT (R230). -/
def execEngineWait (c e : Fin 8) (pins : Word) (s : State) : Host.Outcome State Fault Refusal :=
  s.on (fun h => (h.pinsSeen c.val pins).engDo c.val e.val (fun op => op == 1) (fun g w => g.opWait c.val e.val w))

/-- ENGINE_IN (R233). -/
def execEngineIn (c e : Fin 8) (pins : Word) (s : State) : Host.Outcome State Fault Refusal :=
  s.on (fun h => (h.pinsSeen c.val pins).engDo c.val e.val (fun op => op == 2) (fun g w => g.opIn c.val e.val w))

/-- ENGINE_OUT (R233). -/
def execEngineOut (c e : Fin 8) (s : State) : Host.Outcome State Fault Refusal :=
  s.on (fun h => h.engDo c.val e.val (fun op => op == 3) (fun g w => g.opOut c.val e.val w))

/-- ENGINE_PUSH (R233). -/
def execEnginePush (c e : Fin 8) (s : State) : Host.Outcome State Fault Refusal :=
  s.on (fun h => h.engDo c.val e.val (fun op => op == 4) (fun g w => g.opPush c.val e.val w))

/-- ENGINE_PULL (R233). -/
def execEnginePull (c e : Fin 8) (s : State) : Host.Outcome State Fault Refusal :=
  s.on (fun h => h.engDo c.val e.val (fun op => op == 5) (fun g w => g.opPull c.val e.val w))

/-- ENGINE_MOV (R231). -/
def execEngineMov (c e : Fin 8) (pins : Word) (s : State) : Host.Outcome State Fault Refusal :=
  s.on (fun h => (h.pinsSeen c.val pins).engDo c.val e.val (fun op => op == 6) (fun g w => g.opMov c.val e.val w))

/-- ENGINE_SET (R231). -/
def execEngineSet (c e : Fin 8) (s : State) : Host.Outcome State Fault Refusal :=
  s.on (fun h => h.engDo c.val e.val (fun op => op == 7) (fun g w => g.opSet c.val e.val w))

/-- ENGINE_IRQ (R231). -/
def execEngineIrq (c e : Fin 8) (s : State) : Host.Outcome State Fault Refusal :=
  s.on (fun h => h.engDo c.val e.val (fun op => op == 8) (fun g w => g.opIrq c.val e.val w))

/-- ENGINE_STMP (R237). -/
def execEngineStmp (c e : Fin 8) (s : State) : Host.Outcome State Fault Refusal :=
  s.on (fun h => h.engDo c.val e.val (fun op => op == 9) (fun g w => g.opStmp c.val e.val w))

/-- ENGINE_EMIT (R240). -/
def execEngineEmit (c e : Fin 8) (s : State) : Host.Outcome State Fault Refusal :=
  s.on (fun h => h.engDo c.val e.val (fun op => op == 10) (fun g w => g.opEmit c.val e.val w))

/-- STEP (Table 08.6): one instruction while stopped; one that would stall does nothing. -/
def Hub.engStep (h : Hub) (c e : Nat) : CmdResult × Hub :=
  if h.engState c e = .idle ∧ !h.engArmed c e then
    let w := h.engWord c e
    let o := if reservedCode w then (.fault causeILLOP, h) else h.engOp c e w
    match o.1 with
    | .fault k => (.done, h.engFault c e k)
    | .stall _ => (.done, h)
    | .next j => (.done, (o.2.engTail c e w).set (Fld.BRD_EPC_PC c e) (j.getD (h.engNext c e)))
  else (.badcmd, h)

/-- ENGINE_STEP (R246). -/
def execEngineStep (req : Req) (c e : Fin 8) (expect : BitVec 8) (pins : Word) (s : State) :
    Host.Outcome State Fault Refusal :=
  s.on (fun h => h.command (.engine c e) req 4 0 expect (fun g => ((g.testCancel (engUnit c.val e.val)).pinsSeen c.val pins).engStep c.val e.val))

end Sys2Proof.Machine
end

