-- ==== Sys2Proof/Machine/Guard.lean ====
section
/-! DEFINITION. Guarded outputs (R261 to R268). -/

namespace Sys2Proof.Machine

/-- A channel's record. -/
def Hub.grd (h : Hub) (n : Nat) : GuardRec := Sparse.get (fun _ => GuardRec.reset) h.guards n
/-- A channel's record replaced. -/
def Hub.setGrd (h : Hub) (n : Nat) (r : GuardRec) : Hub := { h with guards := Sparse.put (fun _ => GuardRec.reset) h.guards n r }
/-- The unit of a channel. -/
def grdUnit (n : Nat) : UnitId := .guarded (Fin.ofNat 16 n)
/-- The state of a channel. -/
def Hub.grdState (h : Hub) (n : Nat) : UState := (h.unit (grdUnit n)).state
/-- The MAXON hold, DETAIL[8] (R268). -/
def Hub.grdHeld (h : Hub) (n : Nat) : Bool := (h.unit (grdUnit n)).detail.getLsbD 8
/-- The fault cause, DETAIL[7:4]. -/
def Hub.grdCause (h : Hub) (n : Nat) : Nat := ((h.unit (grdUnit n)).detail.extractLsb' 4 4).toNat
/-- A channel takes STATE, MAXON hold and fault cause (R268); a change may fail ALIVE condition 4 (R362). -/
def Hub.setGrdState (h : Hub) (n : Nat) (st : UState) (hold : Bool) (cause : Nat) : Hub :=
  (h.setUnit (grdUnit n) st ((if hold then 0x100 else 0) + 0x10 * cause)).aliveCheck

/-- R261: whether the two islands' copies of a channel agree: GRD_CFG, GRD_TIME and the source registers. -/
def Hub.grdAgree (h : Hub) (n : Nat) : Bool :=
  [Reg.GRD_CFG n, Reg.GRD_ARMSRC n, Reg.GRD_ARMLINE n, Reg.GRD_FIRESRC n, Reg.GRD_FIRELINE n, Reg.GRD_TIME n].all
    (fun a => decide (h.rd a = h.rdB a))

/-! ### Readback -/

/-- R266: the expected level: ARM driven and FIRE driven. -/
def Hub.grdExpected (h : Hub) (n : Nat) : Bool := h.is (Fld.GRD_STAT_ARM n) && h.is (Fld.GRD_STAT_FIRE n)

/-- R266: the settle time starts again; a mismatch in RUN counts when it has lasted. -/
def Hub.rbRestart (h : Hub) (n : Nat) : Hub :=
  if h.grdState n = .run ∧ h.grdExpected n ≠ h.is (Fld.GRD_STAT_SENSE n) then
    h.arm (.rbSettle n) (us (h.get (Fld.GRD_RB_RBSETTLE n)))
  else h.disarm (.rbSettle n)

/-- The pins are driven at new levels; a change of the expected level restarts the settle time. -/
def Hub.grdPins (h : Hub) (n : Nat) (arm fire : Bool) : Hub :=
  let h1 := (h.flag (Fld.GRD_STAT_ARM n) arm).flag (Fld.GRD_STAT_FIRE n) fire
  if h1.grdExpected n = h.grdExpected n then h1 else h1.rbRestart n

/-! ### ARM and FIRE -/

/-- R263: ARM by ARMMODE, while the channel is in RUN. -/
def Hub.armLevel (h : Hub) (n : Nat) : Bool :=
  match h.get (Fld.GRD_CFG_ARMMODE n) with
  | 1 => true
  | 2 => (h.grd n).arm == some true
  | 3 => (h.grd n).fireA == some true
  | _ => false

/-- ARM follows R263. -/
def Hub.grdArm (h : Hub) (n : Nat) : Hub :=
  if h.grdState n = .run then h.grdPins n (h.armLevel n) (h.is (Fld.GRD_STAT_FIRE n)) else h

/-- R264: whether a level 0 of the FIRE source of channel n is due at EVB and not yet applied, with no MINON in its way. -/
def Hub.lowDue (h : Hub) (n : Nat) : Bool :=
  !(h.armed (.minon n) && !h.due (.minon n)) &&
  h.acts.any (fun a => decide (a.port = 20) && h.actDue a && !a.evb && h.fireIs n a.frame.hdr && !a.frame.hdr.arg.getLsbD 0)

/-- R264, Table 15.2: FIRE becomes active; MINON and MAXON start. -/
def Hub.fireOn (h : Hub) (n : Nat) : Hub :=
  let h1 := ((h.grdPins n (h.is (Fld.GRD_STAT_ARM n)) true).count (Reg.GRD_CNT_FIRE n)).logCount (192 + n) 1
  let h2 := h1.setGrd n { h1.grd n with lowWaits := false }
  let on := h2.getB (Fld.GRD_TIME_MINON n)
  let h3 := if on = 0 then h2 else h2.arm (.minon n) (ms on)
  h3.arm (.maxon n) (ms (max 1 (h3.getB (Fld.GRD_TIME_MAXON n))))

/-- FIRE becomes inactive. -/
def Hub.fireOff (h : Hub) (n : Nat) : Hub :=
  let h1 := ((h.grdPins n (h.is (Fld.GRD_STAT_ARM n)) false).disarm (.minon n)).disarm (.maxon n)
  h1.setGrd n { h1.grd n with lowWaits := false }

/-- R263, R264: a released level of the FIRE source, as EVB acts on it. -/
def Hub.fireLevel (h : Hub) (n : Nat) (b : Bool) : Hub :=
  let h1 := h.setGrd n { h.grd n with fire := some b }
  let held := h1.grdHeld n
  let h2 := if held ∧ !b then h1.setGrdState n (h1.grdState n) false (h1.grdCause n) else h1
  if h2.grdState n ≠ .run then h2
  else if b then
    let h3 := h2.setGrd n { h2.grd n with lowWaits := false }
    if held ∨ h3.is (Fld.GRD_STAT_FIRE n) then h3 else h3.fireOn n
  else if h2.is (Fld.GRD_STAT_FIRE n) then
    if h2.armed (.minon n) ∧ !h2.due (.minon n) then h2.setGrd n { h2.grd n with lowWaits := true } else h2.fireOff n
  else h2

/-- Whether a channel tracks released levels (R263). -/
def Hub.grdTracks (h : Hub) (n : Nat) : Bool := h.grdState n == .run || h.grdState n == .fault

/-- R263, R265: EVA's part of an event at one channel: the ARM source, and in its own copy the FIRE source. -/
def Hub.applyA (h : Hub) (a : Act) (n : Nat) : Hub :=
  let b := a.frame.hdr.arg.getLsbD 0
  let arm := h.armIs n a.frame.hdr
  let fire := h.fireIsA n a.frame.hdr
  if !h.grdTracks n ∨ !(arm || fire) then h
  else
    let r := h.grd n
    let h1 := h.setGrd n { r with arm := if arm then some b else r.arm, fireA := if fire then some b else r.fireA }
    let h2 := h1.grdArm n
    if a.late ∧ arm then h2.count (Reg.GRD_CNT_LATE n) else h2

/-- EVB's part of an event at one channel; a late event is counted once per channel (R265). -/
def Hub.applyB (h : Hub) (a : Act) (n : Nat) : Hub :=
  if !h.grdTracks n ∨ !h.fireIs n a.frame.hdr then h
  else
    let h1 := h.fireLevel n (a.frame.hdr.arg.getLsbD 0)
    if a.late ∧ !h.armIs n a.frame.hdr then h1.count (Reg.GRD_CNT_LATE n) else h1

/-- The first event that EV has taken, is due and that an island has not applied. -/
def Hub.evNext (h : Hub) (evb : Bool) : Option Act :=
  h.acts.find? (fun a => decide (a.port = 20) && h.actDue a && !(if evb then a.evb else a.eva))

/-- An event is marked as applied by an island, and leaves once both have. -/
def markAct (x : Act) (evb : Bool) (l : List Act) : List Act :=
  l.filterMap (fun a =>
    if a.port = 20 ∧ a.fid = x.fid ∧ a.inp = x.inp then
      let b : Act := if evb then { a with evb := true } else { a with eva := true }
      if b.eva ∧ b.evb then none else some b
    else some a)

/-- GRD_LEVEL_APPLY (R263, R265): at its release time an island applies the first event handed over to it, to every channel
that names its source. -/
def execGrdLevelApply (evb : Bool) (s : State) : Host.Outcome State Fault Refusal :=
  s.on (fun h => match h.evNext evb with
    | none => h
    | some a =>
      (List.range 16).foldl (fun (g : Hub) n => if evb then g.applyB a n else g.applyA a n)
        { h with acts := markAct a evb h.acts })

/-- MINON_END (R264): a level 0 that waits takes effect. -/
def execMinonEnd (n : Fin 16) (s : State) : Host.Outcome State Fault Refusal :=
  s.on (fun h => h.onDue (.minon n.val) (fun g => if (g.grd n.val).lowWaits then g.fireOff n.val else g))

/-- MAXON_EXPIRY (R264): FIRE goes inactive, the channel holds, FLT_GRDMAXON; where a level 0 is released at the same time, it takes
effect and nothing is raised. -/
def execMaxonExpiry (n : Fin 16) (s : State) : Host.Outcome State Fault Refusal :=
  s.on (fun h => h.onDue (.maxon n.val) (fun g => if g.lowDue n.val then g.fireOff n.val else
    let g1 := (g.fireOff n.val).setGrdState n.val (g.grdState n.val) true (g.grdCause n.val)
    (g1.evt ⟨Reg.GRD_EVT, 16 + n.val, 1⟩).raise Flt.GRDMAXON 25 n.val 0 0))

/-- R266: GRD_STAT.SENSE shows the comparator's output after EVB's RBPOL; a change of it restarts the settle time. -/
def Hub.rbShow (h : Hub) (n : Nat) : Hub :=
  let s := (h.grd n).rb != decide (h.getB (Fld.GRD_CFG_RBPOL n) = 1)
  if h.is (Fld.GRD_STAT_SENSE n) = s then h else (h.flag (Fld.GRD_STAT_SENSE n) s).rbRestart n

/-- RB_SENSE_CHANGE (R266): the readback comparator turns to a level. -/
def execRbSenseChange (n : Fin 16) (level : Bool) (s : State) : Host.Outcome State Fault Refusal :=
  s.on (fun h => (h.setGrd n.val { h.grd n.val with rb := level }).rbShow n.val)

/-! ### Channel states (R268) -/

/-- The timers of a channel stop. -/
def Hub.grdTimersOff (h : Hub) (n : Nat) : Hub := ((h.disarm (.minon n)).disarm (.maxon n)).disarm (.rbSettle n)

/-- Both pins inactive and the channel in FAULT (R267, R268); released levels and the hold are kept. -/
def Hub.grdFault (h : Hub) (n cause : Nat) : Hub :=
  let h1 := (h.flag (Fld.GRD_STAT_ARM n) false).flag (Fld.GRD_STAT_FIRE n) false
  ((h1.setGrd n { h1.grd n with lowWaits := false }).grdTimersOff n).setGrdState n .fault (h.grdHeld n) cause

/-- RUN is entered: the pins take the levels of R263 and R264 from what has been released. -/
def Hub.grdRun (h : Hub) (n : Nat) (hold : Bool) : Hub :=
  let h1 := (h.testCancel (grdUnit n)).setGrdState n .run hold 0
  let h2 := h1.grdArm n
  let h3 := if (h2.grd n).fire = some true ∧ !hold then h2.fireOn n else h2
  h3.rbRestart n

/-- OFF is entered: both pins inactive and high-impedance; timers, hold and released levels cleared. -/
def Hub.grdOff (h : Hub) (n cause : Nat) : Hub :=
  let h1 := (h.flag (Fld.GRD_STAT_ARM n) false).flag (Fld.GRD_STAT_FIRE n) false
  ((h1.setGrd n { GuardRec.reset with rb := (h1.grd n).rb }).grdTimersOff n).setGrdState n .off false cause

/-- Differing copies in OFF: cause COPY and FLT_GRDCOPY. -/
def Hub.grdCopyOff (h : Hub) (n : Nat) : Hub := (h.grdOff n 3).raise Flt.GRDCOPY 25 n 0 0

/-- Seal (R261, R268): a channel whose copies differ stays OFF with cause COPY, one with EN = 1 runs. -/
def Hub.grdSeal (h : Hub) (n : Nat) : Hub :=
  if h.grdState n ≠ .off then h
  else if !h.grdAgree n then h.grdCopyOff n
  else if h.is (Fld.GRD_CFG_EN n) then h.grdRun n false else h

/-- GRD_COPY_CHECK (R261): the audit finds differing copies in RUN. -/
def Hub.grdAudit (h : Hub) (n : Nat) : Hub :=
  if h.grdState n = .run ∧ !h.grdAgree n then (h.grdFault n 3).raise Flt.GRDCOPY 25 n 0 0 else h

/-- DISABLE. -/
def Hub.grdDisable (h : Hub) (n : Nat) : CmdResult × Hub := if h.grdTracks n then (.done, h.grdOff n 0) else (.done, h)

/-- ENABLE; where the copies agree, without EN it does not apply (log 30). -/
def Hub.grdEnable (h : Hub) (n : Nat) : CmdResult × Hub :=
  if h.grdState n ≠ .off then (.done, h)
  else if !h.grdAgree n then (.badcmd, h.grdCopyOff n)
  else if h.is (Fld.GRD_CFG_EN n) then (.done, h.grdRun n false) else (.done, h)

/-- CLEAR: MINON and MAXON restart; the hold is kept. -/
def Hub.grdClear (h : Hub) (n : Nat) : CmdResult × Hub :=
  if h.grdState n ≠ .fault then (.done, h)
  else if h.grdAgree n then (.done, h.grdRun n (h.grdHeld n)) else (.badcmd, h)

/-- GRD_DISABLE (R268). -/
def execGrdDisable (req : Req) (n : Fin 16) (expect : BitVec 8) (s : State) : Host.Outcome State Fault Refusal :=
  s.on (fun h => h.command (.guarded n) req 1 0 expect (fun g => g.grdDisable n.val))

/-- GRD_ENABLE (R268). -/
def execGrdEnable (req : Req) (n : Fin 16) (expect : BitVec 8) (s : State) : Host.Outcome State Fault Refusal :=
  s.on (fun h => h.command (.guarded n) req 2 0 expect (fun g => g.grdEnable n.val))

/-- GRD_CLEAR (R268). -/
def execGrdClear (req : Req) (n : Fin 16) (expect : BitVec 8) (s : State) : Host.Outcome State Fault Refusal :=
  s.on (fun h => h.command (.guarded n) req 3 0 expect (fun g => g.grdClear n.val))

/-- R266, R267: what a mismatch that has lasted does: PAIRDIFF where PAIRWIRE explains it by the partner, else FLT_GRDRB, and
with RBACT the channel blocks. -/
def Hub.rbMismatch (h : Hub) (n : Nat) : Hub :=
  let exp := h.grdExpected n
  let wire := h.getB (Fld.GRD_CFG_PAIRWIRE n)
  if (wire = 1 ∧ !exp) ∨ (wire = 2 ∧ exp) then
    (h.evt ⟨Reg.GRD_PAIRDIFF, n, 1⟩).raise Flt.PAIRDIFF 25 n (if exp then 1 else 0) 0
  else
    let cause := if exp then 1 else 2
    let h1 := (h.evt ⟨Reg.GRD_EVT, n, 1⟩).raise Flt.GRDRB 25 n cause 0
    if h.getB (Fld.GRD_CFG_RBACT n) = 1 then h1.grdFault n cause else h1

/-- RB_MISMATCH (R267). -/
def execRbMismatch (n : Fin 16) (s : State) : Host.Outcome State Fault Refusal :=
  s.on (fun h => h.onDue (.rbSettle n.val) (fun g =>
    if g.grdState n.val = .run ∧ g.grdExpected n.val ≠ g.is (Fld.GRD_STAT_SENSE n.val) then g.rbMismatch n.val else g))

end Sys2Proof.Machine
end

