-- ==== Sys2Proof/Machine/RegWrite.lean ====
section
/-! DEFINITION. How a write reaches the fields of a register (R11, R12, R93, R94, Tables 03.10 and 03.11). -/

namespace Sys2Proof.Machine

/-- The pages of Table 03.3 whose world is assigned, by register m of CHIP_PAGEWLD; the other bits ignore writes. -/
def pageWorldMask (m : Nat) : Word :=
  if m = 0 then 0x07FF01FE#32 else if m = 1 then 0x000000F6#32 else 0#32

/-- The bits of a register that RWS fields hold. -/
def rwsBits (a : Nat) : Word :=
  match regRow a with
  | none => 0#32
  | some r =>
    if Reg.CHIP_PAGEWLD 0 ≤ a ∧ a ≤ Reg.CHIP_PAGEWLD 7 then pageWorldMask ((a - Reg.CHIP_PAGEWLD 0) / 4)
    else if a = Reg.CHIP_PORTWLD then BitVec.ofNat 32 r.rws &&& 0x1FFBFF#32
    else BitVec.ofNat 32 r.rws

/-- The bits that RW fields hold. -/
def rwBits (a : Nat) : Word := match regRow a with | none => 0#32 | some r => BitVec.ofNat 32 r.rw
/-- The bits that RW1C fields hold. -/
def w1cBits (a : Nat) : Word := match regRow a with | none => 0#32 | some r => BitVec.ofNat 32 r.w1c
/-- The bits that RC fields hold. -/
def rcBits (a : Nat) : Word := match regRow a with | none => 0#32 | some r => BitVec.ofNat 32 r.rc
/-- The bits that WO fields hold. -/
def woBits (a : Nat) : Word := match regRow a with | none => 0#32 | some r => BitVec.ofNat 32 r.wo

/-- R94: whether a write of v under an octet mask m would change a sealed field. -/
def Hub.breaksSeal (h : Hub) (a : Nat) (v m : Word) : Bool :=
  h.sealed_ && decide ((h.rd a ^^^ v) &&& rwsBits a &&& m ≠ 0#32)

/-- The word that a register holds after a write of v, where w are the bits that take it: RW1C bits written 1 are cleared, but those
(k) that the hub sets in the same tick (R13). -/
def mergedWord (a : Nat) (old v m w k : Word) : Word :=
  ((old &&& ~~~(w &&& m)) ||| (v &&& w &&& m)) &&& ~~~(v &&& m &&& w1cBits a &&& ~~~k)

/-- R12, R94: a write reaches the fields that its access codes open: RW and RW1C always, RWS before seal; after seal a write
that would change an RWS bit leaves every RWS field as it is and raises FLT_SEALWR. -/
def Hub.fieldWrite (h : Hub) (a : Nat) (v m : Word) : Hub :=
  let w := if h.sealed_ then rwBits a else rwBits a ||| rwsBits a
  let h1 := h.wr a (mergedWord a (h.rd a) v m w (h.kept a))
  if h.breaksSeal a v m then h1.raise Flt.SEALWR 3 0 a v.toNat else h1

end Sys2Proof.Machine
end

