-- ==== Sys2Proof/Machine/Pb.lean ====
section
/-! DEFINITION. Priority-bus controllers (R271 to R291). -/

namespace Sys2Proof.Machine

/-! ### Configuration and frames -/

/-- R272: whether a controller's bit timing is valid. -/
def Hub.busValid (h : Hub) (b : Nat) : Bool :=
  let nom := (h.get (Fld.PB_NBT_NBRP b) + 1) * (3 + h.get (Fld.PB_NBT_NTSEG1 b) + h.get (Fld.PB_NBT_NTSEG2 b))
  let dat := (h.get (Fld.PB_DBT_DBRP b) + 1) * (3 + h.get (Fld.PB_DBT_DTSEG1 b) + h.get (Fld.PB_DBT_DTSEG2 b))
  decide (80 ≤ nom) && (!h.is (Fld.PB_CFG_FD b) || (decide (10 ≤ dat) && decide (2 ≤ h.get (Fld.PB_DBT_DTSEG2 b) + 1)))

/-- Data octets by format and DLC (Table 10.1). -/
def dlcOctets (fdf rtr : Bool) (dlc : Nat) : Nat :=
  if rtr then 0 else if fdf then [0, 1, 2, 3, 4, 5, 6, 7, 8, 12, 16, 20, 24, 32, 48, 64].getD dlc 0 else min 8 dlc

/-- R287: whether a frame may not be sent on a bus: FDF while FD is 0, RTR with FDF, data against DLC, or an identifier wider
than IDE allows. -/
def Hub.busBad (h : Hub) (b : Nat) (f : BusFrame) : Bool :=
  (f.fdf && !h.is (Fld.PB_CFG_FD b)) || (f.rtr && f.fdf) || decide (f.data.length ≠ dlcOctets f.fdf f.rtr f.dlc.toNat) ||
  (!f.ide && decide (2048 ≤ f.ident.toNat))

/-- R274: the level that PBn_STB drives: none before the sheets and in reset. -/
def Hub.busStb (h : Hub) (b : Nat) : Option Bool :=
  let r := h.bus b
  if (h.unit (busUnit b)).state = .reset then none
  else
    let standby := r.st == .off || (r.st == .sleep && !h.is (Fld.PB_WAKECFG_WAKEMODE b))
    some (standby != h.is (Fld.PB_CFG_STBPOL b))

/-- R273: the level of PBn_TX outside a frame that the controller sends: recessive (true); none before the sheets and in reset. -/
def Hub.busTx (h : Hub) (b : Nat) : Option Bool := if (h.unit (busUnit b)).state = .reset then none else some true

/-- R290: whether a controller is in bus monitoring. -/
def Hub.busMonitors (h : Hub) (b : Nat) : Bool := h.busFenced b || decide ((h.bus b).st = .sleep)

/-! ### States (Table 10.3) -/

/-- A controller takes a state. -/
def Hub.busTo (h : Hub) (b : Nat) (st : BusState) : Hub := (h.setBus b { h.bus b with st := st, sleepWaits := false }).busWord b

/-- TEC, REC and the error state set to 0. -/
def Hub.busErrClear (h : Hub) (b : Nat) : Hub := h.wr (Reg.PB_ERRCNT b) 0

/-- OFF is left, where the configuration is valid; else FLT_PBCFG. -/
def Hub.busLeaveOff (h : Hub) (b : Nat) : CmdResult × Hub :=
  if h.busValid b then (.done, (((h.testCancel (busUnit b)).busErrClear b).busTo b .integrate).busFence b)
  else (.badcmd, (h.evt (Fld.PB_EVT_CFGERR b)).raise Flt.PBCFG 23 b 0 0)

/-- Seal with EN = 1. -/
def Hub.busSeal (h : Hub) (b : Nat) : Hub :=
  if (h.bus b).st = .off ∧ h.is (Fld.PB_CFG_EN b) then (h.busLeaveOff b).2 else h

/-- SLEEP is left: WAKE set (R288). -/
def Hub.busWake (h : Hub) (b : Nat) : Hub :=
  if (h.bus b).st = .sleep then ((h.testCancel (busUnit b)).busTo b .integrate).evt (Fld.PB_EVT_WAKE b) else h

/-! ### The error counters (R283, log 31) -/

/-- TEC and REC take values; the error state follows, with PASSIVE, and bus-off beyond 255. -/
def Hub.busErr (h : Hub) (b tec rec : Nat) : Hub :=
  let old := h.get (Fld.PB_ERRCNT_ESTATE b)
  let st := if 255 < tec then 2 else if 127 < tec ∨ 127 < rec then 1 else 0
  let h1 := ((h.set (Fld.PB_ERRCNT_TEC b) (min 256 tec)).set (Fld.PB_ERRCNT_REC b) (min 255 rec)).set (Fld.PB_ERRCNT_ESTATE b) st
  let h2 := if st = 1 ∧ old = 0 then (h1.evt (Fld.PB_EVT_PASSIVE b)).raise Flt.PBPASSIVE 23 b tec rec else h1
  if st = 2 then
    let h3 := (((h2.evt (Fld.PB_EVT_BUSOFF b)).count (Reg.PB_CNT_BUSOFF b)).logCount (288 + b) 1).raise Flt.PBBUSOFF 23 b tec 0
    (h3.setBus b { h3.bus b with sending := false, abortWaits := false }).busTo b .busoff
  else h2.busWord b

/-- A successful transmission lowers TEC by 1. -/
def Hub.busSentErr (h : Hub) (b : Nat) : Hub := h.busErr b (h.get (Fld.PB_ERRCNT_TEC b) - 1) (h.get (Fld.PB_ERRCNT_REC b))

/-- A successful reception lowers REC by 1, and from above 127 to a value between 119 and 127, which ISO 11898-1 leaves
open (log 7). -/
def Hub.busRcvdErr (h : Hub) (b : Nat) : Hub :=
  let r := h.get (Fld.PB_ERRCNT_REC b)
  if 127 < r then (h.busErr b (h.get (Fld.PB_ERRCNT_TEC b)) (119 + (Config.freeWord h.draws).toNat % 9)).draw
  else h.busErr b (h.get (Fld.PB_ERRCNT_TEC b)) (r - 1)

/-- TEC rises by 8, n times, until the controller is bus-off. -/
def Hub.busTecUp (h : Hub) (b : Nat) : Nat → Hub
  | 0 => h
  | n + 1 =>
    if h.get (Fld.PB_ERRCNT_ESTATE b) = 2 then h
    else Hub.busTecUp (h.busErr b (h.get (Fld.PB_ERRCNT_TEC b) + 8) (h.get (Fld.PB_ERRCNT_REC b))) b n

/-- A transmitter's error raises TEC by 8, but for an ACK error of an error-passive controller that saw no dominant bit in
its error flag, and a stuff error during arbitration; each further bit error in its flag, and each run of dominant bits too long after
it, by 8 more. -/
def Hub.busTxErr (h : Hub) (b kind phase : Nat) (dominant : Bool) (more : Nat) : Hub :=
  let exempt := (decide (kind = 5) && decide (h.get (Fld.PB_ERRCNT_ESTATE b) = 1) && !dominant) || (decide (kind = 2) && decide (phase = 0))
  h.busTecUp b ((if exempt then 0 else 1) + more)

/-- PB_LASTERR. -/
def Hub.busLastErr (h : Hub) (b kind phase : Nat) (tx : Bool) : Hub :=
  ((h.set (Fld.PB_LASTERR_KIND b) kind).set (Fld.PB_LASTERR_PHASE b) phase).flag (Fld.PB_LASTERR_TXDIR b) tx

/-! ### The spool -/

/-- R280: an entry that cannot start at its instant. -/
def Hub.busLate (h : Hub) (b : Nat) : Hub := (h.count (Reg.PB_CNT_TTLATE b)).evt (Fld.PB_EVT_TTLATE b)

/-- R276, R277, R280, R288: an entry reaches the spool. at_ is the instant at which it is to start where it has one, idle tells that the
bus is idle; a full spool refuses it. -/
def Hub.spoolEnter (h : Hub) (b : Nat) (f : BusFrame) (oneShot : Bool) (at_ : Option Stamp) (idle : Bool) : Hub :=
  let r := h.bus b
  if 32 ≤ r.spool.length then
    ((h.count (Reg.PB_CNT_SPOOLFULL b)).evt (Fld.PB_EVT_SPOOLFULL b)).raise Flt.PBSPOOL 23 b 0 0
  else
    let onTime := r.spool.isEmpty && idle && decide (r.st = .run) && !r.sleepWaits && !h.busFenced b
    let e : BusEntry := ⟨r.nextId, f, oneShot, if onTime then at_ else none, h.clock⟩
    let h1 := h.setBus b { r with spool := r.spool ++ [e], nextId := r.nextId + 1 }
    let h2 := if at_.isSome ∧ !onTime then h1.busLate b else h1
    if r.st = .sleep ∧ h.is (Fld.PB_CFG_AUTOWAKE b) then h2.busWake b else h2

/-- The head retires. -/
def Hub.busRetire (h : Hub) (b : Nat) : Hub :=
  h.setBus b { h.bus b with spool := (h.bus b).spool.drop 1, sending := false, abortWaits := false }

/-! ### Commands (Table 10.4) -/

/-- DISABLE: a frame in progress is abandoned; spool and timed list are kept, but for a head that an ABORT or FLUSH has asked to
retire, whose attempt this ends (R279). -/
def Hub.busDisable (h : Hub) (b : Nat) : CmdResult × Hub :=
  if (h.bus b).st = .off then (.done, h)
  else
    let h1 := if (h.bus b).sending ∧ (h.bus b).abortWaits then (h.busRetire b).count (Reg.PB_CNT_ABORT b) else h
    (.done, (h1.setBus b { h1.bus b with sending := false, abortWaits := false }).busTo b .off)

/-- ENABLE. -/
def Hub.busEnable (h : Hub) (b : Nat) : CmdResult × Hub :=
  if !h.is (Fld.PB_CFG_EN b) then (.denied, h)
  else if (h.bus b).st ≠ .off then (.done, h) else h.busLeaveOff b

/-- RECOVER. -/
def Hub.busRecover (h : Hub) (b : Nat) : CmdResult × Hub :=
  if (h.bus b).st = .busoff then (.done, h.busTo b .recover) else (.badcmd, h)

/-- SLEEP: taken once the bus is idle and the frame in progress has ended. -/
def Hub.busSleep (h : Hub) (b : Nat) : CmdResult × Hub :=
  if (h.bus b).st = .run then (.done, h.setBus b { h.bus b with sleepWaits := true }) else (.badcmd, h)

/-- WAKE. -/
def Hub.busWakeCmd (h : Hub) (b : Nat) : CmdResult × Hub := (.done, h.busWake b)

/-- ABORT (R279): a head that is being transmitted retires at the end of the attempt. -/
def Hub.busAbort (h : Hub) (b : Nat) : CmdResult × Hub :=
  let r := h.bus b
  if r.spool.isEmpty then (.done, h)
  else if r.sending then (.done, h.setBus b { r with abortWaits := true })
  else (.done, (h.busRetire b).count (Reg.PB_CNT_ABORT b))

/-- FLUSH (R279): but for entries that have entered in the cycle of the FLUSH (R13); a head that is being transmitted retires at the end
of the attempt. -/
def Hub.busFlush (h : Hub) (b : Nat) : CmdResult × Hub :=
  let r := h.bus b
  let head := if r.sending then r.spool.take 1 else []
  let rest := if r.sending then r.spool.drop 1 else r.spool
  let old := rest.filter (fun e => decide (e.entered < h.clock))
  (.done, (h.setBus b { r with
    spool := head ++ rest.filter (fun e => !decide (e.entered < h.clock))
    abortWaits := r.abortWaits || head.any (fun e => decide (e.entered < h.clock)) }).countBy (Reg.PB_CNT_ABORT b) old.length)

/-- PB_DISABLE (R273). -/
def execPbDisable (req : Req) (b : Fin 16) (expect : BitVec 8) (s : State) : Host.Outcome State Fault Refusal :=
  s.on (fun h => h.command (.bus b) req 1 0 expect (fun g => g.busDisable b.val))

/-- PB_ENABLE (R273). -/
def execPbEnable (req : Req) (b : Fin 16) (expect : BitVec 8) (s : State) : Host.Outcome State Fault Refusal :=
  s.on (fun h => h.command (.bus b) req 2 0 expect (fun g => g.busEnable b.val))

/-- PB_RECOVER (R283). -/
def execPbRecover (req : Req) (b : Fin 16) (expect : BitVec 8) (s : State) : Host.Outcome State Fault Refusal :=
  s.on (fun h => h.command (.bus b) req 3 0 expect (fun g => g.busRecover b.val))

/-- PB_SLEEP (R273). -/
def execPbSleep (req : Req) (b : Fin 16) (expect : BitVec 8) (s : State) : Host.Outcome State Fault Refusal :=
  s.on (fun h => h.command (.bus b) req 4 0 expect (fun g => g.busSleep b.val))

/-- PB_WAKE (R288). -/
def execPbWake (req : Req) (b : Fin 16) (expect : BitVec 8) (s : State) : Host.Outcome State Fault Refusal :=
  s.on (fun h => h.command (.bus b) req 5 0 expect (fun g => g.busWakeCmd b.val))

/-- PB_ABORT (R279). -/
def execPbAbort (req : Req) (b : Fin 16) (expect : BitVec 8) (s : State) : Host.Outcome State Fault Refusal :=
  s.on (fun h => h.command (.bus b) req 6 0 expect (fun g => g.busAbort b.val))

/-- PB_FLUSH (R279). -/
def execPbFlush (req : Req) (b : Fin 16) (expect : BitVec 8) (s : State) : Host.Outcome State Fault Refusal :=
  s.on (fun h => h.command (.bus b) req 7 0 expect (fun g => g.busFlush b.val))

/-! ### Bus events that change the state -/

/-- PB_INTEGRATE_DONE (R273). -/
def execPbIntegrateDone (b : Fin 16) (s : State) : Host.Outcome State Fault Refusal :=
  s.on (fun h => if (h.bus b.val).st = .integrate then h.busTo b.val .run else h)

/-- PB_RECOVERY_DONE (R273, R283). -/
def execPbRecoveryDone (b : Fin 16) (s : State) : Host.Outcome State Fault Refusal :=
  s.on (fun h => if (h.bus b.val).st = .recover then ((h.busErrClear b.val).busTo b.val .run).evt (Fld.PB_EVT_RECOVERED b.val) else h)

/-- PB_SLEEP_ENTER (R273). -/
def execPbSleepEnter (b : Fin 16) (s : State) : Host.Outcome State Fault Refusal :=
  s.on (fun h =>
    let r := h.bus b.val
    if r.st = .run ∧ r.sleepWaits ∧ !r.sending then h.busTo b.val .sleep else h)

/-- PB_WAKE_EDGE (R288): PBn_RX has been dominant for this many ps; in EDGE mode a level that lasts WAKEFILT wakes, and the frame that
carried it is lost. -/
def execPbWakeEdge (lv : BusLevel) (s : State) : Host.Outcome State Fault Refusal :=
  s.on (fun h =>
    if (h.bus lv.bus.val).st = .sleep ∧ !h.is (Fld.PB_WAKECFG_WAKEMODE lv.bus.val) ∧ us (max 1 (h.get (Fld.PB_WAKECFG_WAKEFILT lv.bus.val))) ≤ lv.held then
      (h.count (Reg.PB_CNT_WAKELOST lv.bus.val)).busWake lv.bus.val
    else h)

/-- R283: a receiver's error: REC rises by 1, by 8 more where the first bit after its error flag is dominant, and by 8 for each further
bit error in its active error flag and each run of dominant bits too long after it. -/
def Hub.busRxError (h : Hub) (b kind phase : Nat) (dominant : Bool) (more : Nat) : Hub :=
  if (h.bus b).st ≠ .run ∨ h.busMonitors b then h
  else
    let h1 := (h.busLastErr b kind phase false).count (Reg.PB_CNT_ERRF b)
    h1.busErr b (h1.get (Fld.PB_ERRCNT_TEC b)) (h1.get (Fld.PB_ERRCNT_REC b) + 1 + (if dominant then 8 else 0) + 8 * more)

/-- PB_RX_ERROR (R283). -/
def execPbRxError (b : Fin 16) (kind phase : Fin 8) (af : AfterFlag) (s : State) : Host.Outcome State Fault Refusal :=
  s.on (fun h => h.busRxError b.val kind.val phase.val af.dominant af.more)

/-- PB_PROTOCOL_EXCEPTION (R271): to bus integration without an error frame; with PXHD 0 the bit is a form error. -/
def execPbProtocolException (b : Fin 16) (s : State) : Host.Outcome State Fault Refusal :=
  s.on (fun h =>
    if h.is (Fld.PB_CFG_PXHD b.val) then (if (h.bus b.val).st = .run then h.busTo b.val .integrate else h)
    else h.busRxError b.val 4 1 false 0)

/-! ### Entries (R276, R281) -/

/-- The bus frame that a bus tunnel carries (Table 07.11). -/
def tunnelBusFrame (f : Frame) : BusFrame :=
  let fl := f.oct 1
  ⟨fl.getLsbD 3, fl.getLsbD 0, fl.getLsbD 1, fl.getLsbD 2, fl.getLsbD 4, (f.oct 2).extractLsb' 0 4,
   BitVec.ofNat 29 (ofBe (slice f.payload 4 4)), slice f.payload 24 (f.oct 3).toNat⟩

/-- R287: whether a bus tunnel's identifier is wider than the 29 bits that IDE allows at most. -/
def tunnelWide (f : Frame) : Bool := decide (2 ^ 29 ≤ ofBe (slice f.payload 4 4))

/-- R220, R276, R277, R287: the first bus tunnel that is due enters the spool of its far bus. -/
def Hub.tunnelEntry (h : Hub) (idle : Bool) : Hub :=
  h.perform 19 (fun f => f.hdr.typ == 9) (fun a g =>
    let far := a.frame.farPort 18
    let b := if far = 0xFF then g.get Fld.XB_TUNDEF_BUSPORT else far
    let f := tunnelBusFrame a.frame
    if 16 ≤ b then g
    else if g.busBad b f || tunnelWide a.frame then (g.count (Reg.PB_CNT_TUNREJ b)).evt (Fld.PB_EVT_TUNREJ b)
    else g.spoolEnter b f false (some a.due) (idle && !a.late))

/-- R276: tunnels that are due enter before host frames that enter in the same cycle, in the total order of R67. -/
def Hub.tunnelsFirst (h : Hub) (idle : Bool) : Hub := h.acts.foldl (fun (g : Hub) _ => g.tunnelEntry idle) h

/-- PB_TUNNEL_ENTRY (R220, R276, R277, R287): at its release time a bus tunnel enters the spool of its far bus. -/
def execPbTunnelEntry (idle : Bool) (s : State) : Host.Outcome State Fault Refusal := s.on (fun h => h.tunnelEntry idle)

/-- The staged frame of a bus (Table 10.7). -/
def Hub.busStage (h : Hub) (b : Nat) : BusFrame :=
  let fdf := h.is (Fld.PB_TXCTL_FDF b)
  let rtr := h.is (Fld.PB_TXCTL_RTR b)
  let dlc := h.get (Fld.PB_TXCTL_DLC b)
  let all := (List.range 16).flatMap (fun k => leBytes 4 (h.rd (Reg.PB_TXDATA b k)).toNat)
  ⟨h.is (Fld.PB_TXID_IDE b), fdf, h.is (Fld.PB_TXCTL_BRS b), false, rtr, BitVec.ofNat 4 dlc,
   BitVec.ofNat 29 (h.get (Fld.PB_TXID_ID b)), all.take (dlcOctets fdf rtr dlc)⟩

/-- RESULT of PB_TXSTAT. -/
def Hub.busResult (h : Hub) (b r : Nat) : Hub := h.set (Fld.PB_TXSTAT_RESULT b) r

/-- Where an entry stands in a timed list: in order of T. -/
def timedInsert (t : Stamp) (e : BusEntry) : List (Stamp × BusEntry) → List (Stamp × BusEntry)
  | [] => [(t, e)]
  | x :: l => if t < x.1 then (t, e) :: x :: l else x :: timedInsert t e l

/-- The first timed host frame of a bus enters its spool. -/
def Hub.timedEnter (h : Hub) (b : Nat) (idle : Bool) : Hub :=
  match (h.bus b).timed with
  | [] => h
  | (at_, e) :: t => (h.setBus b { h.bus b with timed := t }).spoolEnter b e.frame e.oneShot (some at_) idle

/-- R276: timed host frames whose T has come enter behind the tunnels that are due, in the order of T. -/
def Hub.timedFirst (h : Hub) (b : Nat) (idle : Bool) : Hub :=
  ((h.bus b).timed.takeWhile (fun x => decide (x.1 ≤ h.now))).foldl (fun (g : Hub) _ => g.timedEnter b idle) (h.tunnelsFirst idle)

/-- A write of PB_TXGO with GO 1 (R276, R277), behind the tunnels and timed host frames that are due. -/
def Hub.txGoNow (h0 : Hub) (b : Nat) : Hub :=
  let h := h0.timedFirst b false
  let f := h.busStage b
  if h.busBad b f then h.busResult b 3
  else if 32 ≤ (h.bus b).spool.length then h.busResult b 2
  else (h.spoolEnter b f (h.is (Fld.PB_TXCTL_ONESHOT b)) none true).busResult b 1

/-- A write of PB_TXGO with GO 2 (R276, R281). -/
def Hub.txGoTimed (h : Hub) (b : Nat) : Hub :=
  let f := h.busStage b
  let r := h.bus b
  let t := Stamp.mk (h.get (Fld.PB_TXAT_HI_SEC_HI b) * 0x100000000 + (h.rd (Reg.PB_TXAT_SEC b)).toNat) (h.rd (Reg.PB_TXAT_NS b)).toNat 0
  if h.busBad b f then h.busResult b 3
  else if t < h.now + nsec 2000 then h.busResult b 4
  else if 8 ≤ r.timed.length then h.busResult b 5
  else
    let e : BusEntry := ⟨r.nextId, f, h.is (Fld.PB_TXCTL_ONESHOT b), some t, h.clock⟩
    (h.setBus b { r with timed := timedInsert t e r.timed, nextId := r.nextId + 1 }).busResult b 1

/-- A write of PB_TXGO; GO 0 and 3 are ignored. -/
def Hub.txGo (h : Hub) (b : Nat) (v : Word) : Hub :=
  match (v.extractLsb' 0 2).toNat with
  | 1 => h.txGoNow b
  | 2 => h.txGoTimed b
  | _ => h

/-- PB_TXGO_NOW (R276). -/
def execPbTxgoNow (req : Req) (b : Fin 16) (s : State) : Host.Outcome State Fault Refusal :=
  s.on (fun h => h.writing req (Reg.PB_TXGO b.val) (fun g => g.txGoNow b.val))

/-- PB_TXGO_TIMED (R281). -/
def execPbTxgoTimed (req : Req) (b : Fin 16) (s : State) : Host.Outcome State Fault Refusal :=
  s.on (fun h => h.writing req (Reg.PB_TXGO b.val) (fun g => g.txGoTimed b.val))

/-- PB_TIMED_ENTRY (R276). -/
def execPbTimedEntry (b : Fin 16) (idle : Bool) (s : State) : Host.Outcome State Fault Refusal :=
  s.on (fun h => match (h.bus b.val).timed with
    | (t, _) :: _ => if t ≤ h.now then (h.tunnelsFirst idle).timedEnter b.val idle else h
    | [] => h)

/-- R281: a forward jump moves the entries whose T it skips into their spools, on the tick of the jump. -/
def Hub.busJump (h : Hub) (b : Nat) : Nat → Hub
  | 0 => h
  | n + 1 => match (h.bus b).timed with
    | (t, _) :: _ => if t ≤ h.now then Hub.busJump (h.timedEnter b false) b n else h
    | [] => h

/-! ### Sending -/

/-- R271, R287: the frame of an entry as the controller puts it on the bus: ESI of an FD frame from its own error state. -/
def Hub.busOnWire (h : Hub) (b : Nat) (f : BusFrame) : BusFrame :=
  { f with esi := f.fdf && decide (h.get (Fld.PB_ERRCNT_ESTATE b) = 1), brs := f.fdf && f.brs }

/-- R280: the head starts its SOF: at its instant less TX_DLY where it has one and starts within the PB cycle of its entry, which lasts
12.5 ns; one that does not is late. -/
def Hub.busStart (h : Hub) (b : Nat) (e : BusEntry) (rest : List BusEntry) : Hub :=
  let sof := if h.clock ≤ e.entered + 12500 then e.at_.map (fun t => t - nsec (h.get (Fld.PB_XCVR_TX_DLY b))) else none
  let h1 := if e.at_.isSome ∧ sof.isNone then h.busLate b else h
  let e1 : BusEntry := if sof.isNone then { e with at_ := none } else e
  (h1.setBus b { h1.bus b with spool := e1 :: rest, sending := true }).emit (.busStart b (h.busOnWire b e.frame) sof)

/-- PB_TX_START (R275, R280, R290): at bus idle the head is offered for arbitration, in RUN, unless the fence withholds it or
SLEEP waits. -/
def execPbTxStart (b : Fin 16) (s : State) : Host.Outcome State Fault Refusal :=
  s.on (fun h =>
    let r := h.bus b.val
    match r.spool with
    | e :: rest => if r.st = .run ∧ !r.sleepWaits ∧ !r.sending ∧ !h.busFenced b.val then h.busStart b.val e rest else h
    | [] => h)

/-- R284: an attempt of the head ended in an ACK error; gone says that the head has already retired. -/
def Hub.busAlone (h : Hub) (b : Nat) (gone : Bool) : Hub :=
  let n := (h.bus b).alone + 1
  let h1 := h.setBus b { h.bus b with alone := n }
  if n = max 1 (h.get (Fld.PB_CFG_ALONECNT b)) then
    let h2 := (h1.evt (Fld.PB_EVT_ALONE b)).raise Flt.PBALONE 23 b n 0
    if h2.is (Fld.PB_CFG_ALONEDROP b) ∧ !gone ∧ !(h2.bus b).spool.isEmpty then
      let h3 := (h2.busRetire b).count (Reg.PB_CNT_ALONEDROP b)
      h3.setBus b { h3.bus b with alone := 0 }
    else h2
  else h1

/-- R278, R279, R280: an attempt that did not succeed: a timed entry that lost arbitration has missed its instant; an abort or one-shot
entry retires. The answer says whether it did. -/
def Hub.attemptFailed (h : Hub) (b : Nat) (e : BusEntry) (lost : Bool) : Bool × Hub :=
  let r := h.bus b
  let h0 := if e.at_.isSome ∧ lost then h.busLate b else h
  if r.abortWaits then (true, (h0.busRetire b).count (Reg.PB_CNT_ABORT b))
  else if e.oneShot ∨ h.is (Fld.PB_CFG_ONESHOT b) then (true, (h0.busRetire b).count (Reg.PB_CNT_OSDROP b))
  else (false, h0.setBus b { r with sending := false, spool := { e with at_ := none } :: r.spool.drop 1 })

/-- R278: the attempt under way ends. -/
def Hub.busTxEnd (h : Hub) (b : Nat) (e : BusEntry) : BusEnd → Hub
  | .sent =>
    let h1 := ((h.busRetire b).count (Reg.PB_CNT_TXF b)).logCount (272 + b) 1
    (h1.setBus b { h1.bus b with alone := 0 }).busSentErr b
  | .lost => ((h.setBus b { h.bus b with alone := 0 }).attemptFailed b e true).2
  | .error kind phase dominant more =>
    let h1 := (h.busLastErr b kind.val phase.val true).count (Reg.PB_CNT_ERRF b)
    let ack := decide (kind.val = 5)
    let h2 := if ack then h1.count (Reg.PB_CNT_ACKERR b) else h1.setBus b { h1.bus b with alone := 0 }
    let h3 := h2.attemptFailed b e false
    let h4 := if ack then h3.2.busAlone b h3.1 else h3.2
    h4.busTxErr b kind.val phase.val dominant more

/-- PB_TX_END (R278). -/
def execPbTxEnd (b : Fin 16) (e : BusEnd) (s : State) : Host.Outcome State Fault Refusal :=
  s.on (fun h =>
    let r := h.bus b.val
    match r.spool with
    | x :: _ => if r.sending then h.busTxEnd b.val x e else h
    | [] => h)

/-! ### Receiving -/

/-- R286: whether filter k of a bus matches a frame. -/
def Hub.filterMatches (h : Hub) (b k : Nat) (f : BusFrame) (self : Bool) : Bool :=
  let mask := BitVec.ofNat 29 (h.get (Fld.PB_FLT_MASK_MASK b k))
  h.is (Fld.PB_FLT_ROUTE_EN b k) && decide (f.ident &&& mask = BitVec.ofNat 29 (h.get (Fld.PB_FLT_ID_ID b k)) &&& mask) &&
  (!h.is (Fld.PB_FLT_MASK_IDEM b k) || decide (f.ide = h.is (Fld.PB_FLT_ID_IDE b k))) &&
  (!self || h.is (Fld.PB_FLT_ROUTE_SELF b k))

/-- The first filter that matches (R286). -/
def Hub.filterOf (h : Hub) (b : Nat) (f : BusFrame) (self : Bool) : Option Nat :=
  (List.range 64).find? (fun k => h.filterMatches b k f self)

/-- The payload of a bus tunnel (Table 07.11). -/
def busPayload (b minor far : Nat) (f : BusFrame) (start : Stamp) : List Byte :=
  let bit (x : Bool) (n : Nat) : Nat := if x then n else 0
  [BitVec.ofNat 8 b, BitVec.ofNat 8 (bit f.fdf 1 + bit f.brs 2 + bit f.esi 4 + bit f.ide 8 + bit f.rtr 16), f.dlc.setWidth 8,
   BitVec.ofNat 8 f.data.length] ++ beBytes 4 f.ident.toNat ++ beBytes 10 start.toFrame.toNat ++
  [if minor < 2 then 0 else BitVec.ofNat 8 far, 0, 0, 0, 0, 0] ++ f.data

/-- R286, R287: a frame is routed by a ROUTE and a DEST word; HP and MC take the versions that the hub accepts (R219, R220). -/
def Hub.busRoute (h : Hub) (b : Nat) (f : BusFrame) (route dest : Word) (start order : Stamp) : Hub :=
  let act := (route.extractLsb' 29 2).toNat
  let minor := (route.extractLsb' 24 3).toNat
  let stream := (route.extractLsb' 0 12).toNat
  let dhub7 := (dest.extractLsb' 20 7).toNat
  let far4 := (dest.extractLsb' 16 4).toNat
  if act = 0 then h
  else
    let dhub := if 2 ≤ act then 0 else if dhub7 = 0x7F then 0xFF else dhub7
    let pay := busPayload b minor (if far4 = 15 then 0xFF else far4) f start
    let q := h.nextSeq stream
    let hdr := q.2.blockHeader 19 9 2 (8 + minor) (dest.extractLsb' 28 4).toNat dhub stream q.1 order 0 pay.length
    if act = 1 then q.2.sendEvent 19 ⟨hdr, pay, 0⟩
    else if tunnelOk hdr.sub then q.2.offer 19 ⟨hdr, pay, 0⟩ [if act = 2 then 9 else 10] false true
    else q.2.tunnelBad ⟨hdr, pay, 0⟩

/-- R290: whether a spool entry equals a frame of the bus. -/
def BusEntry.equals (e : BusEntry) (f : BusFrame) : Bool :=
  decide (e.frame.ident = f.ident) && e.frame.ide == f.ide && e.frame.fdf == f.fdf && e.frame.brs == f.brs &&
  decide (e.frame.dlc = f.dlc) && decide (e.frame.data = f.data)

/-- PB_FOLLOWER_RETIRE (R290): the oldest equal entry retires. -/
def Hub.followerRetire (h : Hub) (b : Nat) (f : BusFrame) : Hub :=
  let r := h.bus b
  match takeFirst (fun e => e.equals f && !(r.sending && decide (some e.id = r.spool.head?.map (·.id)))) r.spool with
  | some (_, rest) => h.setBus b { r with spool := rest }
  | none => h

/-- PB_FRAME_RX (R285 to R288, R290): a valid frame, with the stamps of its SOF edge and of the sample point of the
last-but-one bit of EOF. -/
def Hub.busFrameRx (h : Hub) (b : Nat) (f : BusFrame) (self : Bool) (sof eof : Stamp) : Hub :=
  let r := h.bus b
  let frameWake := decide (r.st = .sleep) && h.is (Fld.PB_WAKECFG_WAKEMODE b)
  let k := h.filterOf b f self
  let wakes := match k with
    | some k => h.is (Fld.PB_FLT_ROUTE_WAKE b k)
    | none => false
  if !(decide (r.st = .run) || (frameWake && wakes)) ∨ (f.fdf ∧ !h.is (Fld.PB_CFG_FD b)) then h
  else
    let dly := nsec (h.get (Fld.PB_XCVR_RX_DLY b))
    let h1 := (h.count (Reg.PB_CNT_RXF b)).setBus b { r with alone := 0 }
    let h2 := if self ∨ h.busMonitors b then h1 else h1.busRcvdErr b
    let h3 := if h.busFenced b ∧ !self then h2.followerRetire b f else h2
    let h4 := if frameWake then h3.busWake b else h3
    match k with
    | some k => h4.busRoute b f (h4.rd (Reg.PB_FLT_ROUTE b k)) (h4.rd (Reg.PB_FLT_DEST b k)) (sof - dly) (eof - dly)
    | none =>
      let h5 := h4.count (Reg.PB_CNT_NOFILT b)
      if self ∧ !h5.is (Fld.PB_DEFROUTE_SELF b) then h5
      else h5.busRoute b f (h5.rd (Reg.PB_DEFROUTE b)) (h5.rd (Reg.PB_DEFDEST b)) (sof - dly) (eof - dly)

/-- PB_FRAME_RX (R286). -/
def execPbFrameRx (b : Fin 16) (f : BusFrame) (self : Bool) (sof eof : Sample) (s : State) : Host.Outcome State Fault Refusal :=
  s.on (fun h => h.busFrameRx b.val f self (h.sampled sof) (h.sampled eof))

/-- PB_FOLAGE_EXPIRY (R290): the oldest entry that has waited FOLAGE while the controller was fenced retires. -/
def execPbFolageExpiry (b : Fin 16) (s : State) : Host.Outcome State Fault Refusal :=
  s.on (fun h =>
    let r := h.bus b.val
    match r.fencedAt, r.spool with
    | some t, e :: rest =>
      if max t e.entered + ms (max 1 (h.get (Fld.PB_SHCFG_FOLAGE b.val))) ≤ h.clock ∧ !r.sending then
        ((h.setBus b.val { r with spool := rest }).count (Reg.PB_CNT_FOLAGE b.val)).evt (Fld.PB_EVT_FOLAGE b.val)
      else h
    | _, _ => h)

/-! ### Messages (R289) -/

/-- A WIRE message to PB whose index lies in a group of 16 acts on its bus. -/
def Hub.busWire (h : Hub) (p : Nat → Bool) (f : Nat → Hub → Hub) : Hub :=
  h.perform 19 (fun x => x.hdr.typ == 10 && p (x.hdr.arg.extractLsb' 0 16).toNat)
    (fun a g => f (a.frame.hdr.arg.extractLsb' 0 16).toNat g)

/-- WIRE_PB_WAKE_RX (R289); an index that the rule does not name is counted here. -/
def execWirePbWakeRx (s : State) : Host.Outcome State Fault Refusal :=
  s.on (fun h => h.busWire (fun i => !(i / 16 == 0x20) && !(i / 16 == 0x30))
    (fun i g => if i / 16 = 0x10 then g.busWake (i % 16) else g.count (Reg.PB_CNT_WIREBAD 0)))

/-- WIRE_PB_SLEEP_RX (R289). -/
def execWirePbSleepRx (s : State) : Host.Outcome State Fault Refusal :=
  s.on (fun h => h.busWire (fun i => i / 16 == 0x20) (fun i g => (g.busSleep (i % 16)).2))

/-- WIRE_PB_ABORT_RX (R289). -/
def execWirePbAbortRx (s : State) : Host.Outcome State Fault Refusal :=
  s.on (fun h => h.busWire (fun i => i / 16 == 0x30) (fun i g => (g.busAbort (i % 16)).2))

end Sys2Proof.Machine
end

