-- ==== Sys2Proof/Machine/RingLink.lean ====
section
/-! DEFINITION. Ring lanes: bring-up and negotiation, link health, equaliser and transmit FIR (R98 to R106, R116 to
R119), and the Test frames (R476). -/

namespace Sys2Proof.Machine

/-- LSTATE of RING_LINK (Table 04.11). -/
inductive LState where
  | off | train | lock | offer | confirm | up | holddown | refused
deriving DecidableEq, Repr

/-- The coding of LSTATE. -/
def LState.code : LState → Nat
  | .off => 0 | .train => 1 | .lock => 2 | .offer => 3 | .confirm => 4 | .up => 5 | .holddown => 6 | .refused => 7

/-- The state that a code names. -/
def LState.ofCode : Nat → LState
  | 1 => .train | 2 => .lock | 3 => .offer | 4 => .confirm | 5 => .up | 6 => .holddown | 7 => .refused | _ => .off

/-- R106: STATE of the lane's unit state word. -/
def LState.unitState : LState → UState
  | .off => .off | .up => .run | .refused => .fault | _ => .idle

/-- The state of a lane. -/
def Hub.lstate (h : Hub) (l : Nat) : LState := LState.ofCode (h.get (Fld.RING_LINK_LSTATE l))

/-- The unit of a lane. -/
def laneUnit (l : Nat) : UnitId := .lane (Fin.ofNat 5 l)

/-- The timers of a lane's present state stop. -/
def Hub.laneTimersOff (h : Hub) (l : Nat) : Hub :=
  ((((((h.disarm (.kr l)).disarm (.blockLock l)).disarm (.tLock l)).disarm (.tNeg l)).disarm (.resend l)).disarm
    (.holddown l)).disarm (.refused l)

/-- The version in force as two nibbles, 0 when not UP (R106). -/
def Hub.laneVersion (h : Hub) (l : Nat) : Nat := 16 * h.get (Fld.RING_LINK_AG_MAJ l) + h.get (Fld.RING_LINK_AG_MIN l)

/-- A lane takes a state of Table 04.4: LSTATE, TXDIS high in OFF alone (R100), version and features in force only in UP,
the unit state word of R106. -/
def Hub.laneTo (h : Hub) (l : Nat) (st : LState) : Hub :=
  let h1 := h.set (Fld.RING_LINK_LSTATE l) st.code
  let h2 := if st = .up then h1
    else ((h1.set (Fld.RING_LINK_AG_MAJ l) 0).set (Fld.RING_LINK_AG_MIN l) 0).set (Fld.RING_LINK_AG_FEAT l) 0
  let h3 := h2.setLane l { h2.lane l with txdis := decide (st = .off) }
  h3.setUnit (laneUnit l) st.unitState (256 * st.code + h3.laneVersion l)

/-- The window of R117, in ps. -/
def Hub.errWin (h : Hub) : Nat := ms (max 1 (h.get Fld.RING_ERRCFG_ERRWIN))

/-- R117: where the error window of a lane has ended, the window that holds this instant is open, with no error yet: each starts where
the last one ended. -/
def Hub.errRoll (h : Hub) (l : Nat) : Hub :=
  if h.due (.errWindow l) then
    let d := h.dueAt (.errWindow l)
    (h.setLane l { h.lane l with errs := 0 }).armAt (.errWindow l) (d + ((h.clock - d) / h.errWin + 1) * h.errWin)
  else h

/-- R117: an HCRC or FCS error of a lane; the one that makes its window reach ERRMAX sets ERRRATE and raises FLT_LINKERR.
Nothing is counted while the lane is not UP. -/
def Hub.laneError (h : Hub) (l : Nat) : Hub :=
  let h0 := (h.logCount (309 + l) 1).errRoll l
  if h0.laneUp l then
    let n := (h0.lane l).errs + 1
    let h1 := h0.setLane l { h0.lane l with errs := n }
    if n = max 1 (h.get Fld.RING_ERRCFG_ERRMAX) then (h1.evt (Fld.RING_EVT_ERRRATE l)).raise Flt.LINKERR (4 + l) l n 0 else h1
  else h0

/-- R114: a frame that is arriving when its lane leaves UP breaks off: its error is counted, and what is cut through of it is ended with
its FCS inverted. -/
def Hub.rxBreak (h : Hub) (l : Nat) : Hub :=
  if (h.lane l).rx.isSome then
    Hub.rxFailed (((h.count (Reg.RING_CNT_FCS l)).laneError l).setLane l { (h.laneError l).lane l with rx := none }) l [] 0
  else h

/-- A lane that is UP leaves it: LINKDN, FLT_LINK where the row names it, the frame that was arriving broken
off (R114), its queued frames discarded (R104), its path faulted (R139), its open error window discarded (R117). -/
def Hub.leaveUp (h : Hub) (l : Nat) (fault : Bool) : Hub :=
  if h.laneUp l then
    let h1 := h.evt (Fld.RING_EVT_LINKDN l)
    let h2 := if fault then h1.raise Flt.LINK (4 + l) l 0 0 else h1
    let h3 := ((h2.rxBreak l).set (Fld.RING_LINK_LSTATE l) 6).flushLane l
    let h4 := (h3.setLane l { h3.lane l with errs := 0 }).disarm (.errWindow l)
    h4.laneDownPaths l
  else h

/-- Entry into LOCK: T_LOCK of 50 ms starts, and the 1 ms of block lock counts from here where it is held (R104). -/
def Hub.enterLock (h : Hub) (l : Nat) : Hub :=
  let h1 := ((h.laneTimersOff l).laneTo l .lock).arm (.tLock l) (ms 50)
  if h1.is (Fld.RING_LINK_BLOCKLOCK l) ∧ !h1.is (Fld.RING_LINK_HIBER l) then h1.arm (.blockLock l) (ms 1) else h1

/-- Entry into TRAIN or LOCK, by the mode in use (Table 04.4). -/
def Hub.laneStart (h : Hub) (l : Nat) : Hub :=
  if (h.lane l).kr then ((h.laneTimersOff l).laneTo l .train).arm (.kr l) (ms 500) else h.enterLock l

/-- Entry into HOLDDOWN for 10 ms. -/
def Hub.enterHolddown (h : Hub) (l : Nat) : Hub := ((h.laneTimersOff l).laneTo l .holddown).arm (.holddown l) (ms 10)

/-- Reasons of LINK_CLOSE (Table 04.2). -/
def closeAdmin : Nat := 0
/-- Reason VERSION. -/
def closeVersion : Nat := 1
/-- Reason FEATURE. -/
def closeFeature : Nat := 2
/-- Reason RESTART. -/
def closeRestart : Nat := 3

/-! ### Versions and features -/

/-- R102: the versions the hub implements, highest first. Table 00.4 names 2.1 and 1.0 to 1.3 for the Maelak link and leaves 2.0 out,
which R102 and Table 04.3 (LONG from 2.0) name: the model follows R102 (DEDUCED, log 141). -/
def linkVersions : List (Nat × Nat) := [(2, 1), (2, 0), (1, 3), (1, 2), (1, 1), (1, 0)]

/-- Whether a version is at most another. -/
def verLe (a b : Nat × Nat) : Bool := decide (a.1 < b.1) || (a.1 == b.1 && decide (a.2 ≤ b.2))

/-- R102: the highest version implemented within an offered range. -/
def chooseVersion (o : LinkOffer) : Option (Nat × Nat) :=
  linkVersions.find? (fun v => verLe (o.loMaj.toNat, o.loMin.toNat) v && verLe v (o.hiMaj.toNat, o.hiMin.toNat))

/-- Table 04.3: the features that a version defines: AUTH from 1.1, LONG from 2.0, INCARN from 1.3, LADDER from 1.2. -/
def featuresOf (v : Nat × Nat) : BitVec 4 :=
  (if verLe (1, 2) v then 8#4 else 0#4) ||| (if verLe (1, 3) v then 4#4 else 0#4) |||
  (if verLe (2, 0) v then 2#4 else 0#4) ||| (if verLe (1, 1) v then 1#4 else 0#4)

/-- The features that both offers carry (R103): those of FEAT_OFFER among the partner's. -/
def Hub.bothFeatures (h : Hub) (l : Nat) (o : LinkOffer) : BitVec 4 :=
  BitVec.ofNat 4 (h.get (Fld.RING_CTL_FEAT_OFFER l)) &&& o.features.extractLsb' 0 4

/-- The LINK_OFFER of this hub (Table 04.2); a hub without a ream states no ring. -/
def Hub.ownOffer (h : Hub) (l : Nat) : LinkOffer where
  hiMaj := 2
  hiMin := 1
  loMaj := 1
  loMin := 0
  features := BitVec.ofNat 32 (h.get (Fld.RING_CTL_FEAT_OFFER l))
  serial := h.serial
  ring := if h.is Fld.REAM_STATUS_BYPASS then 0xFF else BitVec.ofNat 8 (h.ringOf (h.laneRing l))
  hub := BitVec.ofNat 8 (h.self (h.laneRing l))
  lane := BitVec.ofNat 8 l
  mode := if (h.lane l).kr then 1 else 0

/-- The LINK_ACCEPT for the version this hub chose and the offer it accepted (R103). -/
def Hub.ownAccept (h : Hub) (l : Nat) (o : LinkOffer) (v : Nat × Nat) : LinkAccept :=
  ⟨BitVec.ofNat 8 v.1, BitVec.ofNat 8 v.2, (h.bothFeatures l o &&& featuresOf v).setWidth 32, o.serial⟩

/-! ### Negotiation frames -/

/-- Table 04.2: the payload of a LINK_OFFER (R477). -/
def LinkOffer.payload (o : LinkOffer) : List Byte :=
  [o.hiMaj, o.hiMin, o.loMaj, o.loMin] ++ beBytes 4 o.features.toNat ++ beBytes 8 o.serial.toNat ++ [o.ring, o.hub, o.lane, o.mode, 0, 0, 0, 0]
/-- Table 04.2: the payload of a LINK_ACCEPT. -/
def LinkAccept.payload (a : LinkAccept) : List Byte :=
  [a.maj, a.min, 0, 0] ++ beBytes 4 a.features.toNat ++ beBytes 8 a.serial.toNat ++ List.replicate 8 0
/-- Table 04.2: the payload of a LINK_CLOSE. -/
def closePayload (reason : Nat) (serial : BitVec 64) : List Byte :=
  beBytes 2 reason ++ List.replicate 6 0 ++ beBytes 8 serial.toNat ++ List.replicate 8 0

/-- R101, R476: a negotiation frame of subtype sub: VER 1, C7, destination hub 0, HOPS 0, the sender's ring and number; STREAM and SEQ
are 0 and STAMP is the counter (DESIGN CHOICE, log 142). -/
def Hub.negFrame (h : Hub) (l sub : Nat) (payload : List Byte) : Frame :=
  ⟨{ h.opHeader l 12 7 sub 0 0 h.now.toFrame 0 24 with ver := 1 }, payload, 0⟩

/-- The frame of this hub's LINK_OFFER. -/
def Hub.offerFrame (h : Hub) (l : Nat) : Frame := h.negFrame l 0 (h.ownOffer l).payload
/-- The frame of a LINK_ACCEPT. -/
def Hub.acceptFrame (h : Hub) (l : Nat) (a : LinkAccept) : Frame := h.negFrame l 1 a.payload
/-- The frame of a LINK_CLOSE. -/
def Hub.closeFrame (h : Hub) (l reason : Nat) : Frame := h.negFrame l 2 (closePayload reason h.serial)

/-- A negotiation frame is sent: it is the one frame that leaves by a lane that is not UP, to which the core makes no copies (R104), so it
is put on the lane beside the core (DESIGN CHOICE, log 142). -/
def Hub.sendNeg (h : Hub) (l : Nat) (f : Frame) : Hub := (h.emit (.laneFrame l f false)).count (Reg.RING_CNT_TXF l)

/-- A LINK_OFFER is sent. -/
def Hub.sendOffer (h : Hub) (l : Nat) : Hub := h.sendNeg l (h.offerFrame l)
/-- A LINK_ACCEPT is sent. -/
def Hub.sendAccept (h : Hub) (l : Nat) (a : LinkAccept) : Hub := h.sendNeg l (h.acceptFrame l a)
/-- A LINK_CLOSE is sent. -/
def Hub.sendClose (h : Hub) (l reason : Nat) : Hub := h.sendNeg l (h.closeFrame l reason)

/-- Entry into REFUSED: LINK_CLOSE, VERREF and FLT_LINKVER; 1 s (Table 04.4). -/
def Hub.enterRefused (h : Hub) (l reason : Nat) : Hub :=
  let h1 := ((h.sendClose l reason).evt (Fld.RING_EVT_VERREF l)).raise Flt.LINKVER (4 + l) l reason 0
  ((h1.laneTimersOff l).laneTo l .refused).arm (.refused l) (ms 1000)

/-- The partner identity that an offer states (Table 04.11). -/
def Hub.notePartner (h : Hub) (l : Nat) (o : LinkOffer) : Hub :=
  let v : Nat := 0x80000000 + (if o.ring = 0xFF#8 then 0 else 0x40000000 + (o.ring.toNat % 16) * 0x1000000) +
    o.hub.toNat * 0x10000 + (o.lane.toNat % 8) * 0x100 + (o.mode.toNat % 2) * 0x80
  ((h.wr (Reg.RING_PARTNER l) (BitVec.ofNat 32 v)).wr (Reg.RING_PSERIAL_LO l) (o.serial.setWidth 32)).wr
    (Reg.RING_PSERIAL_HI l) (o.serial.extractLsb' 32 32)

/-- R103: the features of a version among those both offers carry, compared with the partner's accept. -/
def Hub.featuresAgree (h : Hub) (l : Nat) (o : LinkOffer) (a : LinkAccept) (v : Nat × Nat) : Bool :=
  decide (h.bothFeatures l o &&& featuresOf v = a.features.extractLsb' 0 4 &&& featuresOf v)

/-- Whether a ladder lane lacks the LADDER feature (Table 04.3, R133). -/
def Hub.ladderLacks (h : Hub) (l : Nat) : Bool :=
  decide (h.pairB = 1) && (l == 2 || l == 3) && !(h.rd (Reg.RING_LINK l)).getLsbD 19

/-- Entry into UP: LINKUP, version and features in force, the count of entries, the error window of R117, the watched
path of R139, the census request of R128, and MBR_EVT.LADDERX on a ladder lane without LADDER. -/
def Hub.enterUp (h : Hub) (l : Nat) (v : Nat × Nat) (f : BitVec 4) : Hub :=
  let h1 := ((((h.laneTimersOff l).set (Fld.RING_LINK_AG_MAJ l) v.1).set (Fld.RING_LINK_AG_MIN l) v.2).set
    (Fld.RING_LINK_AG_FEAT l) f.toNat).laneTo l .up
  let h2 := (h1.evt (Fld.RING_EVT_LINKUP l)).logCount (304 + l) 1
  let h3 := (h2.setLane l { h2.lane l with errs := 0 }).arm (.errWindow l) h.errWin
  let h4 := h3.laneUpPaths l
  let h5 := if h4.ladderLacks l then h4.evt Fld.MBR_EVT_LADDERX else h4
  if l < 4 then h5.memberLaneUp l else h5

/-- CONFIRM judges a LINK_ACCEPT (Table 04.4): UP, or REFUSED with the reason that applies first. -/
def Hub.judgeAccept (h : Hub) (l : Nat) (a : LinkAccept) : Hub :=
  let r := h.lane l
  match r.offer with
  | none => h
  | some o =>
    let p := (a.maj.toNat, a.min.toNat)
    let v := if verLe r.ownVer p then r.ownVer else p
    if a.serial ≠ h.serial then h.enterRefused l closeRestart
    else if !linkVersions.contains v then h.enterRefused l closeVersion
    else if !h.featuresAgree l o a v then h.enterRefused l closeFeature
    else h.enterUp l v (h.bothFeatures l o &&& featuresOf v)

/-- CONFIRM is entered, or entered again, with an offer and the version chosen: a LINK_ACCEPT is sent and repeated every
ms. -/
def Hub.enterConfirm (h : Hub) (l : Nat) (o : LinkOffer) (v : Nat × Nat) : Hub :=
  let h1 := h.setLane l { h.lane l with offer := some o, ownVer := v }
  ((h1.laneTo l .confirm).sendAccept l (h1.ownAccept l o v)).arm (.resend l) (ms 1)

/-! ### Lane commands -/

/-- RING_TXFIR as a FIR (R119). -/
def Hub.firReg (h : Hub) (l : Nat) : Nat × Nat × Nat :=
  (h.get (Fld.RING_TXFIR_PRE l), h.get (Fld.RING_TXFIR_MAIN l), h.get (Fld.RING_TXFIR_POST l))

/-- DISABLE of Table 04.12. -/
def Hub.laneDisable (h : Hub) (l : Nat) : CmdResult × Hub :=
  if !h.is (Fld.RING_CTL_EN l) then (.denied, h)
  else if h.lstate l = .off then (.done, h)
  else
    let h1 := if h.lstate l = .up ∨ h.lstate l = .confirm then h.sendClose l closeAdmin else h
    let h2 := ((h1.leaveUp l false).laneTimersOff l).laneTo l .off
    (.done, h2.set (Fld.RING_PARTNER_PVALID l) 0)

/-- A lane leaves OFF in the mode of RING_CTL, its FIR at RING_TXFIR (Table 04.4). -/
def Hub.laneLeave (h : Hub) (l : Nat) : Hub :=
  (h.setLane l { h.lane l with kr := h.is (Fld.RING_CTL_MODE l), fir := h.firReg l }).laneStart l

/-- ENABLE of Table 04.12. -/
def Hub.laneEnable (h : Hub) (l : Nat) : CmdResult × Hub :=
  if !h.is (Fld.RING_CTL_EN l) then (.denied, h)
  else if h.lstate l = .off then
    (.done, (h.testCancel (laneUnit l)).laneLeave l)
  else (.done, h)

/-- RETRAIN of Table 04.12. -/
def Hub.laneRetrain (h : Hub) (l : Nat) : CmdResult × Hub :=
  if !h.is (Fld.RING_CTL_EN l) ∨ h.lstate l = .off then (.denied, h)
  else
    let h1 := if h.lstate l = .up then h.sendClose l closeRestart else h
    (.done, (h1.leaveUp l true).enterHolddown l)

/-- RING_DISABLE (Tables 04.4 and 04.12). -/
def execRingDisable (req : Req) (l : Fin 5) (expect : BitVec 8) (s : State) : Host.Outcome State Fault Refusal :=
  s.on (fun h => h.command (.lane l) req 1 0 expect (fun h => h.laneDisable l.val))

/-- RING_ENABLE (Tables 04.4 and 04.12). -/
def execRingEnable (req : Req) (l : Fin 5) (expect : BitVec 8) (s : State) : Host.Outcome State Fault Refusal :=
  s.on (fun h => h.command (.lane l) req 2 0 expect (fun h => h.laneEnable l.val))

/-- RING_RETRAIN (Tables 04.4 and 04.12). -/
def execRingRetrain (req : Req) (l : Fin 5) (expect : BitVec 8) (s : State) : Host.Outcome State Fault Refusal :=
  s.on (fun h => h.command (.lane l) req 3 0 expect (fun h => h.laneRetrain l.val))

/-! ### Training, lock, negotiation -/

/-- TRAINING_DONE (Table 04.4). -/
def execTrainingDone (l : Fin 5) (s : State) : Host.Outcome State Fault Refusal :=
  s.on (fun h => if h.lstate l.val = .train then h.enterLock l.val else h)

/-- TRAINING_TIMEOUT (Table 04.4). -/
def execTrainingTimeout (l : Fin 5) (s : State) : Host.Outcome State Fault Refusal :=
  s.on (fun h => h.onDue (.kr l.val) (fun h =>
    if h.lstate l.val = .train then (h.evt (Fld.RING_EVT_TRAINFAIL l.val)).enterHolddown l.val else h))

/-- R100: MODABS (pins bit 1) and LOS (bit 0) are shown in RING_LINK; the table has no row of their own for a change of them, so the
commands of block lock tell their levels (DESIGN CHOICE, log 143). -/
def Hub.lanePins (h : Hub) (l : Nat) (pins : BitVec 2) : Hub :=
  (h.flag (Fld.RING_LINK_MODABS l) (pins.getLsbD 1)).flag (Fld.RING_LINK_LOS l) (pins.getLsbD 0)

/-- BLOCK_LOCK_ACQUIRED (R104): the receiver reaches block lock without hi_ber; in LOCK the 1 ms starts. -/
def execBlockLockAcquired (k : LaneLock) (s : State) : Host.Outcome State Fault Refusal :=
  s.on (fun h0 =>
    let h := (h0.lanePins k.lane.val k.pins).setLane k.lane.val { h0.lane k.lane.val with berFrom := h0.clock, berCount := 0 }
    let h1 := (h.set (Fld.RING_LINK_BLOCKLOCK k.lane.val) 1).set (Fld.RING_LINK_HIBER k.lane.val) 0
    if h.lstate k.lane.val = .lock then h1.arm (.blockLock k.lane.val) (ms 1) else h1)

/-- BLOCK_LOCK_HELD (Table 04.4): block lock has held for 1 ms within LOCK. -/
def execBlockLockHeld (l : Fin 5) (s : State) : Host.Outcome State Fault Refusal :=
  s.on (fun h => h.onDue (.blockLock l.val) (fun h =>
    if h.lstate l.val = .lock then
      let h1 := ((h.laneTimersOff l.val).laneTo l.val .offer).arm (.tNeg l.val) (ms 20)
      let h2 := h1.setLane l.val { h1.lane l.val with offer := none, held := none }
      (h2.sendOffer l.val).arm (.resend l.val) (ms 1)
    else h))

/-- T_LOCK_EXPIRY (Table 04.4). -/
def execTLockExpiry (l : Fin 5) (s : State) : Host.Outcome State Fault Refusal :=
  s.on (fun h => h.onDue (.tLock l.val) (fun h =>
    if h.lstate l.val = .lock then (h.evt (Fld.RING_EVT_NEGTO l.val)).enterHolddown l.val else h))

/-- T_NEG_EXPIRY (Table 04.4). -/
def execTNegExpiry (l : Fin 5) (s : State) : Host.Outcome State Fault Refusal :=
  s.on (fun h => h.onDue (.tNeg l.val) (fun h =>
    if h.lstate l.val = .offer ∨ h.lstate l.val = .confirm then
      (h.evt (Fld.RING_EVT_NEGTO l.val)).enterHolddown l.val
    else h))

/-- NEG_RESEND (R104): the current negotiation frame, every 1 ms in OFFER and CONFIRM. -/
def execNegResend (l : Fin 5) (s : State) : Host.Outcome State Fault Refusal :=
  s.on (fun h => h.onDue (.resend l.val) (fun h =>
    if h.lstate l.val = .offer then (h.sendOffer l.val).arm (.resend l.val) (ms 1)
    else if h.lstate l.val = .confirm then
      match (h.lane l.val).offer with
      | some o => (h.sendAccept l.val (h.ownAccept l.val o (h.lane l.val).ownVer)).arm (.resend l.val) (ms 1)
      | none => h
    else h))

/-- R101: an offer that reaches a lane in OFF is accepted and its partner noted; PVALID stays 0, since the lane has not left OFF
(Table 04.11, log 77). -/
def Hub.offerInOff (h : Hub) (l : Nat) (o : LinkOffer) : Hub := (h.notePartner l o).set (Fld.RING_PARTNER_PVALID l) 0

/-- LINK_OFFER_RX (R101, R102, Table 04.4), counted as a good frame. A LINK_ACCEPT held from OFFER is judged on entry to CONFIRM (R104). -/
def execLinkOfferRx (l : Fin 5) (o : LinkOffer) (s : State) : Host.Outcome State Fault Refusal :=
  s.on (fun g =>
    let h := g.count (Reg.RING_CNT_RXF l.val)
    if h.lstate l.val = .off then h.offerInOff l.val o
    else
      let same := decide ((h.lane l.val).offer = some o)
      let h0 := h.notePartner l.val o
      match h.lstate l.val, chooseVersion o with
      | .offer, some v =>
        let h1 := h0.enterConfirm l.val o v
        match (h0.lane l.val).held with
        | some a => (h1.setLane l.val { h1.lane l.val with held := none }).judgeAccept l.val a
        | none => h1
      | .offer, none => h0.enterRefused l.val closeVersion
      | .confirm, some v =>
        if same then h0
        else (h0.setLane l.val { h0.lane l.val with held := none }).enterConfirm l.val o v
      | .confirm, none => h0.enterRefused l.val closeVersion
      | .up, some v => ((h0.leaveUp l.val true).enterConfirm l.val o v).arm (.tNeg l.val) (ms 20)
      | .up, none => (h0.leaveUp l.val true).enterRefused l.val closeVersion
      | _, _ => h0)

/-- LINK_ACCEPT_RX (R101, R103, Table 04.4): counted as a good frame; kept in OFFER, judged in CONFIRM. -/
def execLinkAcceptRx (l : Fin 5) (a : LinkAccept) (s : State) : Host.Outcome State Fault Refusal :=
  s.on (fun g =>
    let h := g.count (Reg.RING_CNT_RXF l.val)
    match h.lstate l.val with
    | .offer => h.setLane l.val { h.lane l.val with held := some a }
    | .confirm => h.judgeAccept l.val a
    | _ => h)

/-- LINK_CLOSE_RX (R101, Table 04.4): counted as a good frame; it acts in UP. -/
def execLinkCloseRx (l : Fin 5) (s : State) : Host.Outcome State Fault Refusal :=
  s.on (fun g => let h := g.count (Reg.RING_CNT_RXF l.val)
    if h.lstate l.val = .up then
      ((h.leaveUp l.val true).evt (Fld.RING_EVT_PCLOSE l.val)).enterHolddown l.val
    else h)

/-- R116: the BER monitor counts invalid sync headers in windows of 125 us; 16 in one set hi_ber. RING_CNT_BLK counts them all (Table
04.14). -/
def Hub.berSeen (h : Hub) (l n : Nat) : Hub :=
  let r := h.lane l
  let same := decide (h.clock < r.berFrom + us 125)
  let k := (if same then r.berCount else 0) + n
  let h1 := (h.countBy (Reg.RING_CNT_BLK l) n).setLane l { r with berFrom := if same then r.berFrom else h.clock, berCount := k }
  if 16 ≤ k then h1.set (Fld.RING_LINK_HIBER l) 1 else h1

/-- BLOCK_LOCK_LOSS (R116, Table 04.4): the receiver meets invalid sync headers; lost tells whether it loses block lock. The lane leaves
its state where block lock is lost or hi_ber is set. -/
def execBlockLockLoss (l : Fin 5) (lost : Bool) (sg : LaneSigns) (s : State) : Host.Outcome State Fault Refusal :=
  s.on (fun h =>
    let h0 := (h.lanePins l.val sg.pins).berSeen l.val sg.invalid.toNat
    let h1 := if lost then h0.set (Fld.RING_LINK_BLOCKLOCK l.val) 0 else h0
    if lost ∨ h1.is (Fld.RING_LINK_HIBER l.val) then
      match h1.lstate l.val with
      | .train | .lock | .offer | .confirm | .up => (h1.leaveUp l.val true).enterHolddown l.val
      | _ => h1
    else h1)

/-- A lane takes the other mode, which bypass forwarding tries in turn (R147); in SFI its FIR holds RING_TXFIR (R119). -/
def Hub.laneTurn (h : Hub) (l : Nat) : Hub :=
  let r := h.lane l
  h.setLane l { r with kr := !r.kr, fir := if r.kr then h.firReg l else r.fir }

/-- HOLDDOWN_EXPIRY (Table 04.4); in bypass forwarding the lane takes KR and SFI in turn (R147). -/
def execHolddownExpiry (l : Fin 5) (s : State) : Host.Outcome State Fault Refusal :=
  s.on (fun h => h.onDue (.holddown l.val) (fun h =>
    if h.lstate l.val = .holddown then
      let h1 := if h.is Fld.REAM_STATUS_BYPASS then h.laneTurn l.val else h
      h1.laneStart l.val
    else h))

/-- REFUSED_EXPIRY (Table 04.4). -/
def execRefusedExpiry (l : Fin 5) (s : State) : Host.Outcome State Fault Refusal :=
  s.on (fun h => h.onDue (.refused l.val) (fun h => if h.lstate l.val = .refused then h.enterLock l.val else h))

/-! ### Error rate -/

/-- ERR_WINDOW_END (R117). -/
def execErrWindowEnd (l : Fin 5) (s : State) : Host.Outcome State Fault Refusal := s.on (fun h => h.errRoll l.val)

/-! ### Equaliser and transmit FIR -/

/-- A register field as a two's complement number. -/
def Hub.getS (h : Hub) (f : Field) : Int :=
  let v := h.get f
  if 2 ^ (f.width - 1) ≤ v then (v : Int) - 2 ^ f.width else v

/-- A register field set to a two's complement number. -/
def Hub.setS (h : Hub) (f : Field) (v : Int) : Hub := h.set f (v % 2 ^ f.width).toNat

/-- The equaliser quantities of a lane: field, low bound, high bound; CTLE, then TAP1 to TAP5 (R118). -/
def Hub.eqQuantities (h : Hub) (l : Nat) : List (Field × Int × Int) :=
  let sym (f b : Field) : Field × Int × Int := (f, -(h.get b : Int), (h.get b : Int))
  [(Fld.RING_EQ_NOW0_CTLE l, h.get (Fld.RING_EQ_BND0_CTLE_MIN l), h.get (Fld.RING_EQ_BND0_CTLE_MAX l)),
   (Fld.RING_EQ_NOW0_TAP1 l, h.getS (Fld.RING_EQ_BND0_TAP1_MIN l), h.getS (Fld.RING_EQ_BND0_TAP1_MAX l)),
   sym (Fld.RING_EQ_NOW1_TAP2 l) (Fld.RING_EQ_BND1_TAP2_MAX l), sym (Fld.RING_EQ_NOW1_TAP3 l) (Fld.RING_EQ_BND1_TAP3_MAX l),
   sym (Fld.RING_EQ_NOW1_TAP4 l) (Fld.RING_EQ_BND1_TAP4_MAX l), sym (Fld.RING_EQ_NOW1_TAP5 l) (Fld.RING_EQ_BND1_TAP5_MAX l)]

/-- A quantity as it stands: CTLE unsigned, the taps signed. -/
def Hub.eqNow (h : Hub) (f : Field) : Int := if f.width = 5 then h.get f else h.getS f

/-- One quantity moves by the sign its LMS update gives, held within its bounds (R30, R118). -/
def Hub.eqMove (h : Hub) (q : Field × Int × Int) (sign : Int) : Hub :=
  h.setS q.1 (max q.2.1 (min q.2.2 (h.eqNow q.1 + sign.sign)))

/-- Whether a quantity stands at a bound; bounds that are equal fix it and hold no saturation (R32). -/
def Hub.eqAtBound (h : Hub) (q : Field × Int × Int) : Bool :=
  decide (q.2.1 ≠ q.2.2) && (h.eqNow q.1 == q.2.1 || h.eqNow q.1 == q.2.2)

/-- SAT of RING_EQ_STAT: bit k for quantity k. -/
def Hub.eqSat (h : Hub) (l : Nat) : Nat :=
  (h.eqQuantities l).zipIdx.foldl (fun n q => if h.eqAtBound q.1 then n + 2 ^ q.2 else n) 0

/-- R31, R118: SAT follows the quantities; a quantity that enters a bound raises FLT_EQSAT, once per entry; 100 ms inside
every bound clear the source. -/
def Hub.eqJudge (h : Hub) (l : Nat) : Hub :=
  let sat := h.eqSat l
  let h1 := h.set (Fld.RING_EQ_STAT_SAT l) sat
  if sat ≠ 0 then
    let h2 := h1.disarm (.eqsat l)
    if (h2.lane l).eqHeld then h2
    else (h2.setLane l { h2.lane l with eqHeld := true }).raise Flt.EQSAT (4 + l) l sat 0
  else if (h1.lane l).eqHeld ∧ !h1.armed (.eqsat l) then h1.arm (.eqsat l) (ms 100) else h1

/-- EQ_ADAPT (R118): one update of the quantities by the signs that the receiver's LMS gives them (CTLE, TAP1 to TAP5; 0
where a quantity is not updated), in TRAIN, LOCK, OFFER, CONFIRM and UP. -/
def execEqAdapt (l : Fin 5) (signs : List Int) (s : State) : Host.Outcome State Fault Refusal :=
  s.on (fun h => match h.lstate l.val with
    | .train | .lock | .offer | .confirm | .up =>
      (((h.eqQuantities l.val).zip signs).foldl (fun g q => g.eqMove q.1 q.2) h).eqJudge l.val
    | _ => h)

/-- EQSAT_RELEASE (R118). -/
def execEqsatRelease (l : Fin 5) (s : State) : Host.Outcome State Fault Refusal :=
  s.on (fun h => h.onDue (.eqsat l.val) (fun h => h.setLane l.val { h.lane l.val with eqHeld := false }))

/-- The transmit FIR clamped into RING_TXFIR_BND (R119): PRE, MAIN, POST. -/
def Hub.firClamp (h : Hub) (l : Nat) (f : Nat × Nat × Nat) : Nat × Nat × Nat :=
  (min (h.get (Fld.RING_TXFIR_BND_PRE_MAX l)) f.1, max (h.get (Fld.RING_TXFIR_BND_MAIN_MIN l)) (min 63 f.2.1),
   min (h.get (Fld.RING_TXFIR_BND_POST_MAX l)) f.2.2)

/-- R119: a coefficient moved one code within its own bound, and within the code sum of 63 where its code rises; none where the request
would pass one. c(-1) and c(+1) are held as magnitudes, so that an increment of the coefficient lowers the code (Table 04.13). -/
def Hub.firStep (h : Hub) (l : Nat) (f : Nat × Nat × Nat) (coeff : Fin 3) (inc : Bool) : Option (Nat × Nat × Nat) :=
  let room := decide (f.1 + f.2.1 + f.2.2 < 63)
  match coeff with
  | 0 =>
    if inc then (if f.1 = 0 then none else some (f.1 - 1, f.2))
    else if f.1 < h.get (Fld.RING_TXFIR_BND_PRE_MAX l) ∧ room then some (f.1 + 1, f.2) else none
  | 1 =>
    if inc then (if f.2.1 < 63 ∧ room then some (f.1, f.2.1 + 1, f.2.2) else none)
    else if h.get (Fld.RING_TXFIR_BND_MAIN_MIN l) < f.2.1 then some (f.1, f.2.1 - 1, f.2.2) else none
  | 2 =>
    if inc then (if f.2.2 = 0 then none else some (f.1, f.2.1, f.2.2 - 1))
    else if f.2.2 < h.get (Fld.RING_TXFIR_BND_POST_MAX l) ∧ room then some (f.1, f.2.1, f.2.2 + 1) else none

/-- Whether a lane runs Clause 72 now. -/
def Hub.inKr (h : Hub) (l : Nat) : Bool := (h.lane l).kr && decide (h.lstate l ≠ .off)

/-- CL72_COEFF_REQUEST (R119): coefficient 0 c(-1), 1 c(0), 2 c(+1). The answer is sent as status 1 updated, 2 minimum,
3 maximum. -/
def execCl72CoeffRequest (l : Fin 5) (coeff : Fin 3) (inc : Bool) (s : State) : Host.Outcome State Fault Refusal :=
  s.on (fun h =>
    if !h.inKr l.val then h
    else
      let r := h.lane l.val
      match h.firStep l.val r.fir coeff inc with
      | some f => (h.setLane l.val { r with fir := f }).emit (.note 72 [l.val, coeff.val, 1])
      | none => (h.evt (Fld.RING_EQ_STAT_TXLIM l.val)).emit (.note 72 [l.val, coeff.val, if inc then 3 else 2]))

/-- CL72_INITIALIZE (R119). -/
def execCl72Initialize (l : Fin 5) (s : State) : Host.Outcome State Fault Refusal :=
  s.on (fun h => if h.inKr l.val then h.setLane l.val { h.lane l.val with fir := h.firReg l.val } else h)

/-- CL72_PRESET (R119). -/
def execCl72Preset (l : Fin 5) (s : State) : Host.Outcome State Fault Refusal :=
  s.on (fun h => if h.inKr l.val then h.setLane l.val { h.lane l.val with fir := h.firClamp l.val (0, 63, 0) } else h)

/-! ### Test frames -/

/-- PING_RX (R476, Table 04.6): an ECHO with the same SEQ, ARG and payload. -/
def execPingRx (l : Fin 5) (hdr : Header) (payload : List Byte) (s : State) : Host.Outcome State Fault Refusal :=
  s.on (fun h =>
    if hdr.typ = 14 ∧ hdr.sub = 0 ∧ h.laneUp l.val then
      h.offerOp ⟨h.opHeader l.val 14 7 1 0 hdr.seq h.now.toFrame hdr.arg hdr.len.toNat, payload, 0⟩ l.val
    else h)

/-- ECHO_RX (R476): an ECHO answer enters the C7 consumer queue of MC, through the core. -/
def execEchoRx (l : Fin 5) (hdr : Header) (payload : List Byte) (s : State) : Host.Outcome State Fault Refusal :=
  s.on (fun h =>
    if hdr.typ = 14 ∧ hdr.sub = 1 ∧ h.laneUp l.val then h.present l.val ⟨hdr, payload, 0⟩ [10] false false none else h)

end Sys2Proof.Machine
end

