-- ==== Sys2Proof/Machine/Sense.lean ====
section
/-! DEFINITION. Sensed inputs: the threshold loop, debounce, chatter, events, group states (R252 to R260). -/

namespace Sys2Proof.Machine

/-! ### Records and registers -/

/-- A group's record. -/
def Hub.grp (h : Hub) (g : Nat) : GroupRec := Sparse.get (fun _ => GroupRec.reset) h.groups g
/-- A group's record replaced. -/
def Hub.setGrp (h : Hub) (g : Nat) (r : GroupRec) : Hub := { h with groups := Sparse.put (fun _ => GroupRec.reset) h.groups g r }
/-- A line's record. -/
def Hub.sns (h : Hub) (n : Nat) : SenseRec := Sparse.get (fun _ => SenseRec.reset) h.senses n
/-- A line's record replaced. -/
def Hub.setSns (h : Hub) (n : Nat) (r : SenseRec) : Hub := { h with senses := Sparse.put (fun _ => SenseRec.reset) h.senses n r }

/-- The unit of a group. -/
def grpUnit (g : Nat) : UnitId := .sensed (Fin.ofNat 8 g)
/-- The state of a group. -/
def Hub.grpState (h : Hub) (g : Nat) : UState := (h.unit (grpUnit g)).state

/-- A line's bit in a pair of registers. -/
def lineBit (r0 r1 n : Nat) : Field := ⟨if n < 32 then r0 else r1, n % 32, 1⟩
/-- The accepted level of a line (SEN_LEVELm). -/
def senLevel (n : Nat) : Field := lineBit Reg.SEN_LEVEL0 Reg.SEN_LEVEL1 n
/-- Whether a line is in chatter (SEN_CHATm). -/
def senChat (n : Nat) : Field := lineBit Reg.SEN_CHAT0 Reg.SEN_CHAT1 n
/-- Whether a line is in use. -/
def Hub.senEn (h : Hub) (n : Nat) : Bool := h.is (Fld.SEN_LCFG_EN (n / 8) (n % 8))
/-- The lines of a group. -/
def grpLines (g : Nat) : List Nat := (List.range 8).map (fun j => 8 * g + j)

/-- A group takes a state, with SAT, INIT events pending and the lines in chatter in DETAIL (R269). -/
def Hub.setGrpState (h : Hub) (g : Nat) (st : UState) : Hub :=
  let chat := (List.range 8).foldl (fun n j => if h.is (senChat (8 * g + j)) then n + 2 ^ j else n) 0
  h.setUnit (grpUnit g) st ((if h.is (Fld.SEN_GREF_SAT g) then 0x800 else 0) + (if (h.grp g).initLeft.isEmpty then 0 else 0x400) + chat)

/-- The group's DETAIL follows. -/
def Hub.grpWord (h : Hub) (g : Nat) : Hub := h.setGrpState g (h.grpState g)

/-- R255: the DAC code of a line: T while its comparator is low, T - HYST while high, never below 0. -/
def Hub.senDac (h : Hub) (n : Nat) : Nat :=
  let t := h.get (Fld.SEN_GREF_T (n / 8))
  if (h.sns n).comp then t - h.get (Fld.SEN_LCFG_HYST (n / 8) (n % 8)) else t

/-- DEBOUNCE of a line, in us. -/
def Hub.senDebounce (h : Hub) (n : Nat) : Nat := h.get (Fld.SEN_LCFG_DEBOUNCE (n / 8) (n % 8))

/-! ### Events (R258) -/

/-- The flags of a sensed event. -/
def flagINIT : Nat := 1
/-- CHATON. -/
def flagCHATON : Nat := 2
/-- CHATOFF. -/
def flagCHATOFF : Nat := 4
/-- OFF. -/
def flagOFF : Nat := 16

/-- SEN_EVENT (R258): a TYPE 3 frame of a line. -/
def Hub.senEvent (h : Hub) (n : Nat) (level : Bool) (start order : Stamp) (flags : Nat) : Hub :=
  let g := n / 8
  let r := h.sns n
  let stream := h.get (Fld.SEN_GSTR_STREAM g)
  let q := h.nextSeq stream
  let arg : BitVec 48 := BitVec.ofNat 48 (n * 2 ^ 32 + h.get (Fld.SEN_GSTR_PORT g) * 2 ^ 27 + (if level then 1 else 0))
  let fl := flags + (if h.is (Fld.SEN_GREF_SAT g) then 8 else 0)
  let pay := beBytes 10 start.toFrame.toNat ++ [BitVec.ofNat 8 fl, 0] ++ beBytes 2 (h.senDac n) ++ beBytes 2 r.missed
  let hdr := q.2.blockHeader 20 3 (if h.is (Fld.SEN_GSTR_C0 g) then 0 else 1) 1 (h.get (Fld.SEN_GSTR_DRING g))
    (h.get (Fld.SEN_GSTR_DHUB g)) stream q.1 order arg 16
  ((q.2.sendEvent 20 ⟨hdr, pay, 0⟩).setSns n { r with missed := 0 }).count Reg.SEN_CNT_EVT

/-- An accepted change produced no event (R258). -/
def Hub.senMiss (h : Hub) (n : Nat) : Hub := h.setSns n { h.sns n with missed := min 0xFFFF ((h.sns n).missed + 1) }

/-- R259: the INIT events of a group, once the release stage is open: of its enabled lines in line order, each once its first debounce
has ended, stamped with the later of that end and the opening. -/
def Hub.senInits (h : Hub) (g : Nat) : Nat → Hub
  | 0 => h
  | fuel + 1 =>
    match (h.grp g).initLeft with
    | [] => h
    | n :: t => match (h.sns n).firstEnd with
      | none => h
      | some e =>
        if h.is Fld.TIME_STATUS_OPEN then
          let at_ := max e h.time.opened
          let h1 := h.senEvent n (h.is (senLevel n)) at_ at_ flagINIT
          Hub.senInits ((h1.setGrp g { h1.grp g with initLeft := t }).grpWord g) g fuel
        else h

/-- SEN_INIT_EVENTS (R259): the release stage opens; every group in RUN sends, in line order. -/
def Hub.senOpened (h : Hub) : Hub :=
  (List.range 8).foldl (fun (k : Hub) g => if k.grpState g = .run then k.senInits g 8 else k) h

/-! ### The reference and the threshold loop -/

/-- R252: the ADC code of a pin voltage in microvolts: the nearest to 4,096 V / 1.2 V, a half rounded up, at most 4,095. -/
def adcCode (uv : Nat) : Nat := min 4095 ((2 * 4096 * uv + 1200000) / 2400000)

/-- SIREF_SAMPLE (R252, R253): every ms, while the group samples. -/
def execSirefSample (g : Fin 8) (uv : Nat) (s : State) : Host.Outcome State Fault Refusal :=
  s.on (fun h =>
    if h.grpState g.val = .idle ∨ h.grpState g.val = .run then
      h.onPeriod (.siref g.val) (ms 1) (fun k =>
        let xs := (adcCode uv :: (k.grp g.val).samples).take 16
        let k1 := k.setGrp g.val { k.grp g.val with samples := xs }
        if xs.length = 16 then k1.set (Fld.SEN_GREF_V g.val) (xs.foldl (· + ·) 0 / 16) else k1)
    else h)

/-- R253: the target code, round(K / 256 x V / 4) with V the exact mean of the 16 samples. -/
def Hub.senTarget (h : Hub) (g : Nat) : Nat :=
  (2 * h.get (Fld.SEN_GCFG_K g) * (h.grp g).samples.foldl (· + ·) 0 + 16384) / 32768

/-- R30: a code held within TMIN to TMAX. -/
def Hub.senClamp (h : Hub) (g t : Nat) : Nat := max (h.get (Fld.SEN_GBND_TMIN g)) (min (h.get (Fld.SEN_GBND_TMAX g)) t)

/-- R31, R32, R253: T is set; SAT shows it at a bound, except where the bounds are equal; FLT_SENSAT once per entry. -/
def Hub.senSetT (h : Hub) (g t : Nat) : Hub :=
  let lo := h.get (Fld.SEN_GBND_TMIN g)
  let hi := h.get (Fld.SEN_GBND_TMAX g)
  let sat := decide (lo ≠ hi) && (t == lo || t == hi)
  let h1 := (h.set (Fld.SEN_GREF_T g) t).flag (Fld.SEN_GREF_SAT g) sat
  let r := h1.grp g
  if sat then
    let h2 := h1.disarm (.sensat g)
    if r.satHeld then h2 else (h2.setGrp g { r with satHeld := true }).raise Flt.SENSAT 24 g t 0
  else if r.satHeld ∧ !h1.armed (.sensat g) then h1.arm (.sensat g) (ms 1000) else h1

/-- THRESHOLD_UPDATE (R253): every 16 ms T moves towards the target by at most SLEW. -/
def execThresholdUpdate (g : Fin 8) (s : State) : Host.Outcome State Fault Refusal :=
  s.on (fun h => if h.grpState g.val = .run then h.onDue (.threshold g.val) (fun k =>
      let t := k.get (Fld.SEN_GREF_T g.val)
      let w := k.senTarget g.val
      let slew := max 1 (k.get (Fld.SEN_GCFG_SLEW g.val))
      let t1 := if t ≤ w then min w (t + slew) else max w (t - slew)
      ((k.senSetT g.val (k.senClamp g.val t1)).grpWord g.val).armAt (.threshold g.val) (h.dueAt (.threshold g.val) + ms 16)) else h)

/-- SENSAT_RELEASE (R31, R253): 1 s strictly inside the bounds. -/
def execSensatRelease (g : Fin 8) (s : State) : Host.Outcome State Fault Refusal :=
  s.on (fun h => h.onDue (.sensat g.val) (fun k => k.setGrp g.val { k.grp g.val with satHeld := false }))

/-! ### Debounce and chatter -/

/-- A debounce of a line starts, from a stamp; of 0 us it ends when its timer is seen at once. -/
def Hub.senStart (h : Hub) (n : Nat) (stamp : Stamp) : Hub :=
  (h.setSns n { h.sns n with since := stamp }).arm (.debounce n) (us (h.senDebounce n))

/-- R257, Table 15.2: an accepted change in the window: its counts, and entry into chatter at CHATMAX with its CHATON event. -/
def Hub.senCount (h : Hub) (n : Nat) (level : Bool) (start order : Stamp) : Hub :=
  let r := h.sns n
  let h1 := (h.setSns n { r with lastStart := start, changes := r.changes + 1 }).logCount (208 + n) 1
  let cmax := h.get Fld.SEN_CHATCFG_CHATMAX
  let opened := h.is Fld.TIME_STATUS_OPEN
  if h.is (senChat n) then h1.senMiss n
  else if cmax ≠ 0 ∧ cmax ≤ r.changes + 1 then
    let h2 := ((h1.set (senChat n) 1).raise Flt.SENCHAT 24 n 0 0).count Reg.SEN_CNT_CHAT
    let h3 := h2.setSns n { h2.sns n with whole := false }
    (if opened then h3.senEvent n level start order flagCHATON else h3.senMiss n).grpWord (n / 8)
  else
    let sel := (h.get (Fld.SEN_LCFG_EDGE (n / 8) (n % 8))) / (if level then 1 else 2) % 2 = 1
    if sel ∧ opened then h1.senEvent n level start order 0 else h1.senMiss n

/-- R256: a debounce of a line ends: the first since RUN settles the level and lets the INIT events follow (R259, log 29); a later
one is an accepted change. -/
def Hub.senAccept (h : Hub) (n : Nat) : Hub :=
  let r := h.sns n
  let order := r.since + nsec (1000 * h.senDebounce n)
  let h1 := h.flag (senLevel n) r.comp
  match r.firstEnd with
  | none => (h1.setSns n { r with firstEnd := some order, lastStart := r.since }).senInits (n / 8) 8
  | some _ => if h.is (senLevel n) = r.comp then h else h1.senCount n r.comp r.since order

/-- DEBOUNCE_END (R256). -/
def execDebounceEnd (n : Fin 64) (s : State) : Host.Outcome State Fault Refusal :=
  s.on (fun h => if h.grpState (n.val / 8) = .run then h.onDue (.debounce n.val) (fun k => k.senAccept n.val) else h)

/-- COMPARATOR_TRANSITION (R256): a comparator changes level; its stamp is corrected by the comparator and pad delay
(R52). A return to the accepted level ends the wait; a DEBOUNCE of 0 accepts at once. -/
def execComparatorTransition (n : Fin 64) (level : Bool) (raw : Sample) (s : State) : Host.Outcome State Fault Refusal :=
  s.on (fun h =>
    let r := h.sns n.val
    let h1 := h.setSns n.val { r with comp := level }
    if r.comp = level ∨ h.grpState (n.val / 8) ≠ .run ∨ !h.senEn n.val then h1
    else
      let stamp := h.sampled raw - h.get Fld.SEN_LAT_IN_LAT * 65536 / 1000
      if r.firstEnd.isSome ∧ h.is (senLevel n.val) = level then h1.disarm (.debounce n.val)
      else
        let h2 := h1.senStart n.val stamp
        if h.senDebounce n.val = 0 then (h2.disarm (.debounce n.val)).senAccept n.val else h2)

/-- One line at the end of a chatter window: chatter ends after the first whole window of at most CHATREL changes. -/
def Hub.senWindow (h : Hub) (n : Nat) : Hub :=
  let r := h.sns n
  let h1 :=
    if h.is (senChat n) then
      if r.whole ∧ r.changes ≤ h.get Fld.SEN_CHATCFG_CHATREL then
        let h2 := h.set (senChat n) 0
        if h.is Fld.TIME_STATUS_OPEN then h2.senEvent n (h.is (senLevel n)) r.lastStart h.now flagCHATOFF else h2
      else h.setSns n { r with whole := true }
    else h
  h1.setSns n { h1.sns n with changes := 0 }

/-- The chatter window of R257. -/
def Hub.chatWindow (h : Hub) : Nat := ms (100 * max 1 (h.get Fld.SEN_CHATCFG_CHATWIN))

/-- CHATTER_WINDOW_END (R257): every line of the group uses the same window; the next begins. -/
def execChatterWindowEnd (g : Fin 8) (s : State) : Host.Outcome State Fault Refusal :=
  s.on (fun h => if h.grpState g.val = .run then h.onDue (.chatter g.val) (fun k =>
      (((grpLines g.val).foldl (fun (x : Hub) n => x.senWindow n) k).grpWord g.val).armAt (.chatter g.val)
        (h.dueAt (.chatter g.val) + k.chatWindow)) else h)

/-! ### Group states (R260) -/

/-- OFF to IDLE: reference sampling starts. -/
def Hub.senEnable (h : Hub) (g : Nat) : Hub :=
  let h1 := h.setGrp g { h.grp g with samples := [], initLeft := [] }
  (((h1.arm (.siref g) 0).arm (.senFirst g) (ms 16))).setGrpState g .idle

/-- IDLE to RUN (R254, R256, R257, R259): T at once; lines judge from here. -/
def Hub.senRun (h : Hub) (g : Nat) : Hub :=
  let h1 := h.senSetT g (h.senClamp g (h.senTarget g))
  let on := (grpLines g).filter h.senEn
  let h2 := h1.setGrp g { h1.grp g with runAt := h.now, initLeft := on }
  let h3 := (h2.setGrpState g .run).arm (.threshold g) (ms 16)
  let h4 := (grpLines g).foldl (fun (k : Hub) n =>
    k.setSns n { k.sns n with firstEnd := none, changes := 0, missed := 0, whole := false }) h3
  (on.foldl (fun (k : Hub) n => k.senStart n h.now) h4).arm (.chatter g) h.chatWindow

/-- SEN_FIRST_THRESHOLD (R254). -/
def execSenFirstThreshold (g : Fin 8) (s : State) : Host.Outcome State Fault Refusal :=
  s.on (fun h => if h.grpState g.val = .idle then h.onDue (.senFirst g.val) (fun k => k.senRun g.val) else h)

/-- What a group loses when it leaves RUN or IDLE. -/
def Hub.senClear (h : Hub) (g : Nat) : Hub :=
  let h1 := ((((h.disarm (.siref g)).disarm (.senFirst g)).disarm (.threshold g)).disarm (.chatter g)).setGrp g
    { h.grp g with initLeft := [] }
  (grpLines g).foldl (fun (k : Hub) n =>
    (((k.set (senLevel n) 0).set (senChat n) 0).disarm (.debounce n)).setSns n { SenseRec.reset with comp := (k.sns n).comp }) h1

/-- DISABLE (R260): a group that was in RUN sends one OFF event for every enabled line. -/
def Hub.senDisable (h : Hub) (g : Nat) : Hub :=
  let h1 := (h.senClear g).setGrpState g .off
  if h.grpState g = .run ∧ h.is Fld.TIME_STATUS_OPEN then
    ((grpLines g).filter h.senEn).foldl (fun (k : Hub) n => k.senEvent n false h.now h.now flagOFF) h1
  else h1

/-- ENABLE (R260). -/
def Hub.senEnableCmd (h : Hub) (g : Nat) : CmdResult × Hub :=
  if !h.is (Fld.SEN_GCFG_EN g) then (.denied, h)
  else if h.grpState g = .off then (.done, h.senEnable g) else (.done, h)

/-- DISABLE (R260). -/
def Hub.senDisableCmd (h : Hub) (g : Nat) : CmdResult × Hub :=
  if h.grpState g = .off then (.done, h) else (.done, h.senDisable g)

/-- SEN_ENABLE (R260). -/
def execSenEnable (req : Req) (g : Fin 8) (expect : BitVec 8) (s : State) : Host.Outcome State Fault Refusal :=
  s.on (fun h => h.command (.sensed g) req 2 0 expect (fun k => k.senEnableCmd g.val))

/-- SEN_DISABLE (R260). -/
def execSenDisable (req : Req) (g : Fin 8) (expect : BitVec 8) (s : State) : Host.Outcome State Fault Refusal :=
  s.on (fun h => h.command (.sensed g) req 1 0 expect (fun k => k.senDisableCmd g.val))

end Sys2Proof.Machine
end

