-- ==== Sys2Proof/Machine/Station.lean ====
section
/-! DEFINITION. Station ports and Ethernet tunnels (R64, R214 to R219, R223). -/

namespace Sys2Proof.Machine

/-! ### State -/

/-- The unit of a station port. -/
def stUnit (p : Nat) : UnitId := .station (Fin.ofNat 4 p)
/-- The state of a station port. -/
def Hub.stState (h : Hub) (p : Nat) : UState := (h.unit (stUnit p)).state
/-- A port's record. -/
def Hub.st (h : Hub) (p : Nat) : StationRec := Sparse.get (fun _ => StationRec.reset) h.stations p
/-- A port's record replaced. -/
def Hub.setSt (h : Hub) (p : Nat) (r : StationRec) : Hub :=
  { h with stations := Sparse.put (fun _ => StationRec.reset) h.stations p r }

/-- R223: the state word, with MODE and the speed in DETAIL. -/
def Hub.setStState (h : Hub) (p : Nat) (st : UState) : Hub :=
  h.setUnit (stUnit p) st (256 * h.get (Fld.ST_CTL_MODE p) + 64 * h.get (Fld.ST_LINK_SPEED p))

/-- R223: an enabled port is RUN with its link up, else IDLE. -/
def Hub.stOn (h : Hub) (p : Nat) : Hub := h.setStState p (if h.is (Fld.ST_LINK_UP p) then .run else .idle)

/-- Whether a port is in use: EN, and a MODE that is not the reserved one (Table 07.17). -/
def Hub.stInUse (h : Hub) (p : Nat) : Bool := h.is (Fld.ST_CTL_EN p) && decide (h.get (Fld.ST_CTL_MODE p) ≠ 3)

/-- A port at seal or after a reset. -/
def Hub.stStart (h : Hub) (p : Nat) : Hub := if h.stInUse p then h.stOn p else h.setStState p .off

/-- DISABLE; a port that is OFF has no link. -/
def Hub.stDisable (h : Hub) (p : Nat) : CmdResult × Hub :=
  (.done, ((h.set (Fld.ST_LINK_UP p) 0).set (Fld.ST_LINK_ANDONE p) 0).setStState p .off)
/-- ENABLE; a port that is not in use stays OFF. -/
def Hub.stEnable (h : Hub) (p : Nat) : CmdResult × Hub := (.done, if h.stInUse p then h.stOn p else h)
/-- RESTART_AN: Clause 37 auto-negotiation, which 1000BASE-X with ANEN has, starts again; the link is down until it ends. -/
def Hub.stRestart (h : Hub) (p : Nat) : CmdResult × Hub :=
  if h.get (Fld.ST_CTL_MODE p) = 0 ∧ h.is (Fld.ST_CTL_ANEN p) ∧ h.stState p ≠ .off then
    (.done, ((h.set (Fld.ST_LINK_UP p) 0).set (Fld.ST_LINK_ANDONE p) 0).setStState p .idle)
  else (.done, h)

/-- ST_DISABLE (R223). -/
def execStDisable (req : Req) (p : Fin 4) (expect : BitVec 8) (s : State) : Host.Outcome State Fault Refusal :=
  s.on (fun h => h.command (.station p) req 1 0 expect (fun g => g.stDisable p.val))

/-- ST_ENABLE (R223). -/
def execStEnable (req : Req) (p : Fin 4) (expect : BitVec 8) (s : State) : Host.Outcome State Fault Refusal :=
  s.on (fun h => h.command (.station p) req 2 0 expect (fun g => g.stEnable p.val))

/-- ST_RESTART_AN (R223). -/
def execStRestartAn (req : Req) (p : Fin 4) (expect : BitVec 8) (s : State) : Host.Outcome State Fault Refusal :=
  s.on (fun h => h.command (.station p) req 3 0 expect (fun g => g.stRestart p.val))

/-- R214: the speed of a port whose PHY or link tells one, and whether auto-negotiation may be done, by MODE: 1 Gb/s in 1000BASE-X, done
only with ANEN; 10, 100 or 1,000 Mb/s as the PHY indicates in SGMII; 2.5 Gb/s without auto-negotiation in 2500BASE-X. -/
def Hub.stLinkOf (h : Hub) (p speed : Nat) (anDone : Bool) : Nat × Bool :=
  match h.get (Fld.ST_CTL_MODE p) with
  | 0 => (2, anDone && h.is (Fld.ST_CTL_ANEN p))
  | 1 => (min 2 speed, anDone)
  | _ => (3, false)

/-- ST_LINK_CHANGE (R214, R223): the link of a port that is not OFF comes up or goes down. -/
def execStLinkChange (p : Fin 4) (up anDone : Bool) (speed : Fin 4) (s : State) : Host.Outcome State Fault Refusal :=
  s.on (fun h =>
    if h.stState p.val ≠ .idle ∧ h.stState p.val ≠ .run then h
    else
      let k := h.stLinkOf p.val speed.val anDone
      (((h.flag (Fld.ST_LINK_UP p.val) up).flag (Fld.ST_LINK_ANDONE p.val) k.2).set (Fld.ST_LINK_SPEED p.val) k.1).stOn p.val)

/-! ### Ethernet frames -/

/-- Two octets of a frame, most significant first. -/
def word16 (o : List Byte) (k : Nat) : Nat := ofBe (slice o k 2)

/-- Whether a frame carries an IEEE 802.1Q tag. -/
def ethTagged (o : List Byte) : Bool := decide (word16 o 12 = 0x8100)
/-- The place of the EtherType that rules match: after at most one tag (R216). -/
def ethTypeAt (o : List Byte) : Nat := if ethTagged o then 16 else 12
/-- The EtherType. -/
def ethType (o : List Byte) : Nat := word16 o (ethTypeAt o)
/-- The VLAN ID. -/
def ethVid (o : List Byte) : Nat := word16 o 14 % 4096

/-- The place of the IEEE 1588 message that a frame carries: under EtherType 0x88F7, or UDP destination port 319 over IPv4
or IPv6 (R64). -/
def ptpAt (o : List Byte) : Option Nat :=
  let l3 := ethTypeAt o + 2
  if ethType o = 0x88F7 then some l3
  else if ethType o = 0x0800 then
    let l4 := l3 + 4 * ((o.getD l3 0).toNat % 16)
    if (o.getD (l3 + 9) 0) = 17#8 ∧ word16 o (l4 + 2) = 319 then some (l4 + 8) else none
  else if ethType o = 0x86DD then
    if (o.getD (l3 + 6) 0) = 17#8 ∧ word16 o (l3 + 42) = 319 then some (l3 + 48) else none
  else none

/-- The place of an IEEE 1588 event message: Sync, Delay_Req, Pdelay_Req, Pdelay_Resp (R64). -/
def ptpEvent (o : List Byte) : Option Nat :=
  match ptpAt o with
  | some k => if (o.getD k 0).toNat % 16 ≤ 3 then some k else none
  | none => none

/-- The duration of n octets at the line rate, in 2^-16 ns: 800, 80, 8 or 3.2 ns each (Table 02.1). -/
def octetTime (speed n : Nat) : Nat :=
  match speed with
  | 0 => n * 800 * 65536
  | 1 => n * 80 * 65536
  | 2 => n * 8 * 65536
  | _ => n * 32 * 65536 / 10

/-- The tunnel payload of a frame (Table 07.10). -/
def ethPayload (p minor far : Nat) (o : List Byte) (start : Stamp) : List Byte :=
  [BitVec.ofNat 8 p, BitVec.ofNat 8 ((if (ptpEvent o).isSome then 1 else 0) + (if ethTagged o ∧ 1 ≤ minor then 2 else 0))] ++
  beBytes 2 o.length ++
  (if minor = 0 then beBytes 4 start.ns ++ List.replicate 6 0 else beBytes 10 start.toFrame.toNat) ++
  [if minor < 2 then 0 else BitVec.ofNat 8 far, 0] ++ o

/-- R216, R217: a frame takes an action: 1 TUNNEL, 2 HOST; 0 and 3 DROP. HOST goes to HP of this hub, which takes the versions that it accepts
(R219). -/
def Hub.ethAction (h : Hub) (p : Nat) (act : Word) (o : List Byte) (start order : Stamp) : Hub :=
  let action := (act.extractLsb' 30 2).toNat
  let minor := (act.extractLsb' 27 3).toNat
  let stream := (act.extractLsb' 0 12).toNat
  let dhub7 := (act.extractLsb' 16 7).toNat
  let far4 := (act.extractLsb' 12 4).toNat
  if action = 1 ∨ action = 2 then
    let host := decide (action = 2)
    let dhub := if host then 0 else if dhub7 = 0x7F then 0xFF else dhub7
    let far := if host then 9 else if far4 = 15 then 0xFF else far4
    let pay := ethPayload p minor far o start
    let q := h.nextSeq stream
    let hdr := q.2.blockHeader (5 + p) 8 3 (8 + minor) (act.extractLsb' 23 4).toNat dhub stream q.1 order 0 pay.length
    if host then (if tunnelOk hdr.sub then q.2.offer (5 + p) ⟨hdr, pay, 0⟩ [9] false true else q.2.tunnelBad ⟨hdr, pay, 0⟩)
    else q.2.sendEvent (5 + p) ⟨hdr, pay, 0⟩
  else h

/-- R216: whether a rule matches. -/
def Hub.ruleMatches (h : Hub) (p k : Nat) (o : List Byte) : Bool :=
  h.is (Fld.ST_RULE_MATCH_EN p k) && decide (ethType o = h.get (Fld.ST_RULE_MATCH_ETYPE p k)) &&
  (!h.is (Fld.ST_RULE_MATCH_VLANEN p k) || (ethTagged o && decide (ethVid o = h.get (Fld.ST_RULE_MATCH_VID p k)))) &&
  (!h.is (Fld.ST_RULE_MATCH_GRPEN p k) || (o.getD 0 0).getLsbD 0)

/-- R216 step 1: an IEEE 1588 event message goes to the C7 queue of the servo owner, with its stamps, in the form of a tunnel
of version 1.2 (log 34). -/
def Hub.ptpDeliver (h : Hub) (p : Nat) (o : List Byte) (start order : Stamp) : Hub :=
  let port := if h.is Fld.TIME_LOCK_CTL_OWNER then 9 else 10
  let pay := ethPayload p 2 port o start
  h.offer (5 + p) ⟨h.blockHeader (5 + p) 8 7 10 0 0 0 0 order 0 pay.length, pay, 0⟩ [port] false false

/-- R216: an accepted frame. -/
def Hub.ethAccept (h : Hub) (p : Nat) (o : List Byte) (start order : Stamp) : Hub :=
  let h1 := h.count (Reg.ST_CNT_RXF p)
  if (ptpEvent o).isSome ∧ !h1.is (Fld.ST_CTL_PTPRULE p) then h1.ptpDeliver p o start order
  else match (List.range 16).find? (fun k => h1.ruleMatches p k o) with
    | some k => h1.ethAction p (h1.rd (Reg.ST_RULE_ACT p k)) o start order
    | none => (h1.count (Reg.ST_CNT_NORULE p)).ethAction p (h1.rd (Reg.ST_DEFAULT p)) o start order

/-- ST_FRAME_RX (R15, R52, R162, R215, R216): a frame with its FCS arrives at a port in RUN; raw is the uncorrected SFD stamp. -/
def execStFrameRx (p : Fin 4) (octets : List Byte) (fcsOk : Bool) (raw : Sample) (s : State) : Host.Outcome State Fault Refusal :=
  s.on (fun h =>
    if h.stState p.val ≠ .run then h
    else if octets.length < 64 then h.count (Reg.ST_CNT_SHORT p.val)
    else if 2000 < octets.length then h.count (Reg.ST_CNT_LONG p.val)
    else if !fcsOk then h.count (Reg.ST_CNT_FCS p.val)
    else if h.ingressFull (5 + p.val) (if (ptpEvent octets).isSome ∧ !h.is (Fld.ST_CTL_PTPRULE p.val) then 7 else 3)
        (36 + padded (16 + octets.length)) then
      h.ingressLost (5 + p.val) (if (ptpEvent octets).isSome ∧ !h.is (Fld.ST_CTL_PTPRULE p.val) then 7 else 3)
    else
      let start := h.sampled raw - psUnits (h.get (Fld.ST_LAT_RX p.val) + h.get (Fld.ST_PHYLAT_RX p.val))
      h.ethAccept p.val octets start (start + octetTime (h.get (Fld.ST_LINK_SPEED p.val)) octets.length))

/-! ### Transmission -/

/-- R64: a transmit stamp is queued, keyed by sequenceId; beyond 16 it is lost and counted. -/
def Hub.queueStamp (h : Hub) (p : Nat) (o : List Byte) (k : Nat) (stamp : Stamp) : Hub :=
  let l := (h.st p).stamps
  if l.length < 16 then h.setSt p ⟨l ++ [((o.getD k 0).toNat % 16, word16 o (k + 30), stamp)]⟩ else h.count (Reg.ST_CNT_TSOVF p)

/-- ST_TUNNEL_TX (R218): the first due tunnel at a port in RUN is sent unchanged; raw is the uncorrected transmit stamp. -/
def execStTunnelTx (p : Fin 4) (raw : Sample) (s : State) : Host.Outcome State Fault Refusal :=
  s.on (fun h =>
    if h.stState p.val ≠ .run then h
    else h.perform (5 + p.val) (fun f => f.hdr.typ == 8) (fun a g =>
      let o := slice a.frame.payload 16 (word16 a.frame.payload 2)
      let g1 := (g.emit (.stationFrame p.val o false)).count (Reg.ST_CNT_TXF p.val)
      match ptpEvent o with
      | some k =>
        if (a.frame.oct 1).getLsbD 0 then
          g1.queueStamp p.val o k (g.sampled raw + psUnits (g.get (Fld.ST_LAT_TX p.val) + g.get (Fld.ST_PHYLAT_TX p.val)))
        else g1
      | none => g1))

/-- R64, Table 07.17: the oldest transmit stamp leaves the FIFO; its time is latched. -/
def Hub.tsPop (h : Hub) (p : Nat) : Word × Hub :=
  match (h.st p).stamps with
  | [] => (0, h)
  | (t, q, s) :: rest =>
    (BitVec.ofNat 32 (0x80000000 + 0x100000 * t + q),
     ((h.setSt p ⟨rest⟩).wr (Reg.ST_TS_NS p) (BitVec.ofNat 32 s.ns)).wr (Reg.ST_TS_SEC p) (BitVec.ofNat 32 s.sec))

/-- ST_TSFIFO_POP (R64). -/
def execStTsfifoPop (req : Req) (p : Fin 4) (s : State) : Host.Outcome State Fault Refusal :=
  s.on (fun h => h.reading req (Reg.ST_TSFIFO p.val) (fun g => g.tsPop p.val))

end Sys2Proof.Machine
end

