-- ==== Sys2Proof/Machine/SwitchCore.lean ====
section
/-! DEFINITION. The switch core: copies, queue policies, output scheduling, host queues, tail samples, budgets (R150 to
R179), and the delivery of released events to queues (R68, R70). -/

namespace Sys2Proof.Machine

/-! ### Queues and room -/

/-- Whether a copy of a frame for an output belongs to a consumer queue (R155). -/
def consumerCopy (o : Nat) (f : Frame) : Bool := o == 10 || (o == 9 && !f.bridge)

/-- Holdable inputs (Table 06.1): HP, MC, CL0-CL7, PB, EV, CY. -/
def holdable (i : Nat) : Bool := decide (9 ≤ i)

/-- The copies that count against the limit of a copy's queue: its consumer queue, or its VOQ (R163). -/
def Hub.queueOf (h : Hub) (i o c : Nat) (f : Frame) : List QCopy :=
  h.sw.copies.filter (fun q => decide (q.outp = o) && decide (q.cls = c) && !q.mirror &&
    (if consumerCopy o f then consumerCopy o q.frame else decide (q.inp = i)))

/-- Cells of a list of copies. -/
def cellSum (l : List QCopy) : Nat := l.foldl (fun n q => n + q.cells.length) 0

/-- LIMIT of a queue; 0 is taken as 1. -/
def Hub.queueLimit (h : Hub) (o c : Nat) : Nat := max 1 (h.get (Fld.SW_QCFG_LIMIT o c))

/-- Whether a copy of n cells fits its queue: the limit, and 4,096 frames for a consumer queue (R155, R163); frames that still await
their release count in both (R156), so that their release finds room. -/
def Hub.fits (h : Hub) (i o c n : Nat) (f : Frame) : Bool :=
  decide (cellSum (h.queueOf i o c f) + n ≤ h.queueLimit o c) &&
  (!consumerCopy o f || decide ((h.queueOf i o c f).length < 4096))

/-- R164: the frames that a freshest queue may unlink, oldest first: not being sent, not being written, not awaiting their release; at
HP and MC those that have entered the consumer queue, in its order. -/
def Hub.unlinkable (h : Hub) (i o c : Nat) (f : Frame) : List QCopy :=
  let ok (q : QCopy) : Bool := q.whole && !q.sending && decide (q.wait ≠ .release) && decide (q.wait ≠ .timed)
  if consumerCopy o f then
    (h.sw.queue (queueNo o c)).filterMap (fun id => h.sw.copies.find? (fun q => decide (q.id = id) && ok q))
  else (h.queueOf i o c f).filter ok

/-- A frame lost from queue (o, c) counts once and raises FLT_QDROP (R163, R164); a host queue remembers it for LOST of its
next VALID pop. -/
def Hub.lostFrom (h : Hub) (o c : Nat) (f : Frame) : Hub :=
  let h1 := ((h.count (Reg.SW_LOST o c)).evt Fld.SW_EVT_QDROP).raise Flt.QDROP 2 o c 0
  if o = 9 ∧ !f.bridge then
    { h1 with sw := { h1.sw with lost := Sparse.put (fun _ => 0) h1.sw.lost c (min 127 (Sparse.get (fun _ => 0) h1.sw.lost c + 1)) } }
  else h1

/-- R164, R166: the oldest frames of a freshest queue are unlinked one at a time while more is needed and any can be; the
answer counts the cells freed. -/
def Hub.unlinkWhile (h : Hub) (i o c : Nat) (f : Frame) (more : Hub → Nat → Bool) : Nat → Nat → Nat × Hub
  | 0, freed => (freed, h)
  | fuel + 1, freed =>
    if more h freed then
      match h.unlinkable i o c f with
      | [] => (freed, h)
      | q :: _ => Hub.unlinkWhile ((h.dropCopy q).lostFrom o c q.frame) i o c f more fuel (freed + q.cells.length)
    else (freed, h)

/-- What becomes of a copy whose first beat is due (R161). -/
inductive CopyVerdict where
  | take | refuse | wait
deriving DecidableEq, Repr

/-- R163, R164, R166: the room for a copy of n cells of frame f from input i to output o. A C3-C7 copy that needs more cells than are
free is handled as below LOWWAT, also where SW_VATFREE stands at or above it (DESIGN CHOICE, log 132). -/
def Hub.copyRoom (h : Hub) (i o n : Nat) (f : Frame) : CopyVerdict × Hub :=
  let c := f.hdr.cls.toNat
  let fresh := h.is (Fld.SW_QCFG_POLICY o c)
  let fuel := h.sw.copies.length + 1
  let refuse (g : Hub) : CopyVerdict × Hub := (.refuse, (g.lostFrom o c f).refusedCopy o f)
  let low := 3 ≤ c ∧ (h.sw.free < h.get Fld.SW_VATCFG_LOWWAT ∨ h.sw.free < n)
  if low then
    if fresh then
      let r := h.unlinkWhile i o c f (fun g freed => decide (freed < n) || !g.fits i o c n f) fuel 0
      if n ≤ r.1 ∧ r.2.fits i o c n f then (.take, r.2) else refuse r.2
    else if 4 ≤ c ∧ holdable i then (.wait, h) else refuse h
  else
    let r := if fresh then (h.unlinkWhile i o c f (fun g _ => !g.fits i o c n f) fuel 0).2 else h
    if !r.fits i o c n f then (if !fresh ∧ 4 ≤ c ∧ holdable i then (.wait, r) else refuse r)
    else if r.sw.free < n then
      (.refuse, ((r.count Reg.SW_CNT_VATFULL).evt Fld.SW_EVT_VATFULL).raise Flt.VATFULL 2 i o c)
    else (.take, r)

/-! ### Writing copies -/

/-- R157: a copy with WORLD 1 through a non-secure output, unless in transit. -/
def Hub.worldBars (h : Hub) (o : Nat) (x : Offered) : Bool := x.frame.hdr.world && !x.transit && !h.portSecure o

/-- The local outputs at which a C0-C3 frame waits for release (R156). -/
def localOut (o : Nat) : Bool := decide (5 ≤ o)

/-- One copy is written: its cells taken, its octets stored, its descriptor linked; a frame that AUTH asks a tag for goes to
CY first, with the outputs of the frame that CY returns (R160). A C4-C7 copy for a consumer queue that is stale carries LATE (R19). -/
def Hub.linkCopy (h : Hub) (x : Offered) (o : Nat) (next : List Nat) : Hub :=
  let len := x.frame.hdr.frameLen
  let low := h.lowWaits o
  let t := h.takeCells (cellsOf len)
  let c := x.frame.hdr.cls.toNat
  let cons := consumerCopy o x.frame
  let w : Wait := if x.release ∧ localOut o ∧ o ≠ 21 then .release else if cons then .consumer else .voq
  let late := decide (w = .consumer) && x.rx.isNone && h.stale x.frame.hdr
  let q : QCopy := ⟨t.2.sw.nextId, x.fid, x.inp, o, c, x.frame.marked late, t.1, x.rx.isNone, x.rx, false, w, late, 0, x.transit, false, 0, 0,
    next, x.check⟩
  let octets := if x.rx.isNone then x.frame.octets else x.frame.hdr.octets ++ beBytes 2 x.frame.hdr.hcrc.toNat
  let h1 := Hub.vatLevel ({ t.2 with sw := { t.2.sw with
    copies := t.2.sw.copies ++ [q], nextId := t.2.sw.nextId + 1, vat := vatWrite t.2.sw.vat t.1 octets } }.clearFlips t.1)
  let h2 := if w = .consumer then h1.enqueue (queueNo o c) q.id else h1
  (if late then h2.countStale x.frame.hdr else h2).lowStart o low

/-- R160, R161: the copies of an offered frame are written in ascending order of output; none goes back to the port by which the frame
entered (R154); a lane that is not UP takes none (R104); a copy that must wait ends the walk (R163). The answer holds the outputs still to come. -/
def Hub.writeCopies (h : Hub) (x : Offered) : List Nat → List Nat × Hub
  | [] => ([], h)
  | o :: t =>
    if o = x.inp ∨ (o < 5 ∧ !h.laneUp o) then Hub.writeCopies h x t
    else if h.worldBars o x then
      Hub.writeCopies ((h.count Reg.SW_CNT_WORLDQ).raise Flt.WORLD 2 o 0 0) x t
    else
      let r := h.copyRoom x.inp o (cellsOf x.frame.hdr.frameLen) x.frame
      match r.1 with
      | .take => Hub.writeCopies (r.2.linkCopy x o []) x t
      | .refuse => Hub.writeCopies r.2 x t
      | .wait => (o :: t, r.2)

/-- R160: whether a frame of this hub goes through CY for its tag before its copies. -/
def Offered.needsTag (x : Offered) : Bool :=
  x.frame.hdr.auth && !x.transit && decide (5 ≤ x.inp) && decide (x.inp ≠ 21)

/-- An offered frame leaves the offer list, or stays with the outputs that it still waits for. -/
def Hub.offerDone (h : Hub) (x : Offered) (left : List Nat) : Hub :=
  let step (y : Offered) : Option Offered :=
    if y.fid = x.fid ∧ y.inp = x.inp then (if left.isEmpty then none else some { y with outs := left, hold := true }) else some y
  { h with sw := { h.sw with offered := h.sw.offered.filterMap step } }

/-- The frame at the front of an input: its copies are written (R160). -/
def Hub.copyWrite (h : Hub) (x : Offered) : Hub :=
  if x.needsTag then
    let r := h.copyRoom x.inp 21 (cellsOf x.frame.hdr.frameLen) x.frame
    match r.1 with
    | .take => (r.2.linkCopy { x with release := false } 21 (x.outs.filter (fun o => o != x.inp))).offerDone x []
    | .refuse => r.2.offerDone x []
    | .wait => r.2.offerDone x x.outs
  else
    let r := h.writeCopies x x.outs
    r.2.offerDone x r.1

/-- R240: where a cluster's frame has been taken, its frame formers take the words that wait. -/
def Hub.formers (h : Hub) (i : Nat) : Hub :=
  if 11 ≤ i ∧ i ≤ 18 then (List.range 8).foldl (fun (g : Hub) e => g.former (i - 11) e 16) h else h

/-- R198: the buffer of its input in which an offered frame waits: HP keeps posted writes, requests, completions with notices, and its
other frames apart. -/
def Offered.lane (x : Offered) : Nat :=
  if x.inp ≠ 9 then 0
  else match x.frame.hdr.typ.toNat with
    | 5 => 1
    | 6 => 2
    | 7 => 3
    | 11 => 3
    | _ => 0

/-- The first frame that an input offers, of those that stand behind no held frame of their buffer; where there is none, the first that is
held (R163, R198). -/
def Hub.front (h : Hub) (i : Nat) : Option Offered :=
  let l := h.sw.offered.filter (fun x => decide (x.inp = i))
  match l.find? (fun x => !l.any (fun y => y.hold && y.lane == x.lane)) with
  | some x => some x
  | none => l.head?

/-- The first frame of an input that is held. -/
def Hub.heldFront (h : Hub) (i : Nat) : Option Offered := h.sw.offered.find? (fun x => decide (x.inp = i) && x.hold)

/-- SWITCH_COPY_WRITE (R160): the first frame offered by an input, where it is not held. -/
def execSwitchCopyWrite (w : CopyIn) (s : State) : Host.Outcome State Fault Refusal :=
  s.on (fun h => match h.front w.inp.val with
    | some x =>
      if x.hold then h
      else
        let g := (h.copyWrite x).formers w.inp.val
        { g with sw := { g.sw with flips := w.flips ++ g.sw.flips } }
    | none => h)

/-- HELD_COPY_TAKEN (R163): the copy that waits in the block of input i finds room. -/
def execHeldCopyTaken (i : Port) (s : State) : Host.Outcome State Fault Refusal :=
  s.on (fun h => match h.heldFront i.val with
    | some x => (h.copyWrite { x with hold := false }).formers i.val
    | none => h)

/-! ### Delivery to queues -/

/-- R70: the events delivered to queue consumers in the present TIME tick. -/
def Hub.servedNow (h : Hub) : Nat := if h.time.served.1 = h.clock then h.time.served.2 else 0

/-- QUEUE_DELIVERY (R49, R68, R70): due events of the store leave it, in its order, towards their queues; at most four in one TIME
tick. -/
def execQueueDelivery (s : State) : Host.Outcome State Fault Refusal :=
  s.on (fun h =>
    let dueOnes := (h.time.store.takeWhile (fun p => p.due || decide (p.release ≤ h.now))).take (4 - h.servedNow)
    dueOnes.foldl (fun g p => g.deliver p.ev p.release false)
      { h with time := { h.time with store := h.time.store.drop dueOnes.length, served := (h.clock, h.servedNow + dueOnes.length) } })

/-! ### Output scheduling -/

/-- Copies that output o may choose now (R167): whole, or C0-C2 from a ring lane or PL; in their VOQs, and at MC at the
heads of the consumer queues. -/
def Hub.choosable (h : Hub) (o : Nat) : List QCopy :=
  let ok (q : QCopy) : Bool := !q.sending && (q.whole || (decide (q.cls ≤ 2) && decide (q.inp ≤ 4)))
  if o = 10 then
    (List.range 9).filterMap (fun c => match (h.sw.queue (16 + c)).head? with
      | some id => h.sw.copies.find? (fun q => decide (q.id = id) && ok q)
      | none => none)
  else h.sw.copies.filter (fun q => decide (q.outp = o) && decide (q.wait = .voq) && ok q)

/-- R167: within a class the inputs are served round robin, the oldest frame of each VOQ first. -/
def roundRobin (l : List QCopy) (last : Nat) : Option QCopy :=
  ((List.range 22).map (fun k => (last + 1 + k) % 22)).findSome? (fun i => l.find? (fun q => q.inp = i))

/-- WEIGHT of a class at an output; 0 is taken as 1. -/
def Hub.weight (h : Hub) (o c : Nat) : Nat :=
  max 1 ((h.rd (Reg.SW_OUTCFG o)).extractLsb' (4 * (c - 3)) 4).toNat

/-- The input last served in a class. -/
def OutSched.last (s : OutSched) (c : Nat) : Nat := (Assoc.get s.lastInput c).getD 21

/-- R167: the choice among C3-C7, with the turn it leaves: the class in turn while its frames last, else the next class with a frame.
After reset the first turn is C4's, and each class serves input 0 first (OutSched.reset, OutSched.last; DESIGN CHOICE, log 133). MC's
tail samples, whose queue belongs to no class, are served in the turns of their own C3-C7 class and of C7 (DESIGN CHOICE, log 134). -/
def Hub.chooseLow (h : Hub) (o : Nat) (l : List QCopy) (s : OutSched) : Option (QCopy × OutSched) :=
  let of_ (c : Nat) : Option QCopy := roundRobin (l.filter (fun q => decide (q.cls = c ∨ (q.mirror ∧ c = 7)))) (s.last c)
  let here := if 0 < s.left then of_ s.turn else none
  match here with
  | some q => some (q, { s with left := s.left - 1 })
  | none =>
    ((List.range 5).map (fun k => 3 + (s.turn - 3 + 1 + k) % 5)).findSome? (fun c => match of_ c with
      | some q => some (q, { s with turn := c, left := h.weight o c - 1 })
      | none => none)

/-- R167, R168: the choice of output o: hand-overs for timed consumers, then C3-C7 where LOWGAP is reached, then C0 to C2 by
strict priority, then C3-C7 in turns. -/
def Hub.choose (h : Hub) (o : Nat) : Option (QCopy × OutSched) :=
  let s := h.sched o
  let timed := (h.sw.queue (32 + o)).findSome? (fun id => h.sw.copies.find? (fun q => decide (q.id = id) && !q.sending))
  match timed with
  | some q => some (q, s)
  | none =>
    let l := h.choosable o
    let forced := max 1 (h.get (Fld.SW_OUTCFG_LOWGAP o)) * 100000 ≤ s.spent
    let high := [0, 1, 2].findSome? (fun c => roundRobin (l.filter (fun q => q.cls = c ∧ !q.mirror)) (s.last c))
    match (if forced then h.chooseLow o l s else none) with
    | some r => some r
    | none => match high with
      | some q => some (q, s)
      | none => h.chooseLow o l s

/-- The frame that output o was sending has ended: its copy leaves the vat. None where a cut-through copy is still being
written. -/
def Hub.endSending (h : Hub) (o : Nat) : Option Hub :=
  match (h.sched o).sending with
  | none => some h
  | some (id, start) => match h.sw.copies.find? (fun q => q.id = id) with
    | none => some (h.setSched o { h.sched o with sending := none })
    | some q => if q.whole then some ((h.setSched o (h.schedEnd o q.cls start)).dropCopy q) else none

/-- Table 04.3 at egress: whether a lane's link lacks a feature that a frame needs; announces need INCARN (R132), and a
ladder lane without LADDER carries only hop-only frames (R133). -/
def Hub.lacksFeature (h : Hub) (l : Nat) (hdr : Header) : Bool :=
  let w := h.rd (Reg.RING_LINK l)
  (hdr.auth && !w.getLsbD 16) || (decide (1024 < hdr.len.toNat) && !w.getLsbD 17)

/-- Frames that a link does not carry and that are dropped without a count (R132, R133). -/
def Hub.notOnLink (h : Hub) (l : Nat) (hdr : Header) : Bool :=
  let w := h.rd (Reg.RING_LINK l)
  (hdr.typ == 0 && hdr.sub == 3 && !w.getLsbD 18) ||
  (decide (h.pairB = 1) && (l == 2 || l == 3) && hdr.dhub != 0 && !w.getLsbD 19)

/-- R136, R187: a bridge sends a frame that lane l brought into its other ring with HOPS 0, by input inp: a C0-C3 frame on both lanes that
are UP, a C4-C7 frame by its route, with the check of R195 that posted writes of one stream keep their route. -/
def Hub.bridgeInject (h : Hub) (l inp num : Nat) (f : Frame) : Hub :=
  let g : Frame := { f with hdr := { f.hdr with hops := 0 } }
  if f.hdr.cls.toNat ≤ 3 then
    let outs := (if h.laneRing l then [0, 1] else [2, 3]).filter h.laneUp
    if outs.isEmpty then h else h.presentAs num inp g outs false false none
  else match h.routeLane f.hdr.dring.toNat f.hdr.dhub.toNat with
    | some (m, guess) =>
      let h1 := h.guessed guess
      (if f.hdr.typ = 5 then h1.rerouted (transitKey f.hdr) m else h1).presentAs num inp g [m] false false none
    | none => (h.count Reg.XB_CNT_NOROUTE).evt Fld.XB_EVT_NOROUTE

/-- A consumed frame that passed its checks goes to the bridge and to its local consumers (R155, R156), by the lane that brought it or
by CY. -/
def Hub.consumeGood (h : Hub) (l inp : Nat) (r : RxFrame) (f : Frame) : Hub :=
  let h1 := if r.inject then h.bridgeInject l inp r.num f else h
  if r.consume ∧ !r.early ∧ !f.hdr.ringOp then
    let o := h1.localOuts f
    if o.1.isEmpty then o.2 else o.2.presentAs r.num inp f o.1 false (decide (f.hdr.cls.toNat ≤ 3)) none
  else h1

/-- R134: duplicate discard of a consumed C0-C3 frame; what is accepted is consumed. -/
def Hub.consumeOnce (h : Hub) (l inp : Nat) (r : RxFrame) (f : Frame) : Hub :=
  if f.hdr.cls.toNat ≤ 3 ∧ !f.hdr.ringOp then
    let d := h.ddAccept f.hdr
    if d.1 then d.2.consumeGood l inp r f else d.2
  else h.consumeGood l inp r f

/-- R160, R343: what CY does with a copy: a frame of this hub is tagged, one that lane q.inp brought has its tag checked; the frame goes
on as CY's own input. -/
def Hub.cyTakes (h : Hub) (q : QCopy) : Hub :=
  match q.check with
  | some r =>
    let t := h.tagCheck q.inp q.frame
    if t.1 then t.2.consumeOnce q.inp 21 r q.frame else t.2
  | none =>
    let t := h.tagFrame q.frame
    match t.1 with
    | some f => t.2.offer 21 f q.next false (decide (q.cls ≤ 3))
    | none => t.2

/-- Where a chosen copy goes: onto its lane, to CY, or to the block behind the output, which performs it in the steps of its
chapter, a stale C4-C7 frame marked and counted (R19); Ploia takes what reaches MC beside completions, side-band messages, notices and key frames. -/
def Hub.sendOut (h : Hub) (o : Nat) (q : QCopy) : Hub :=
  if o < 5 then
    if q.whole then (h.emit (.laneFrame o (h.onLane o q.transit q.frame) false)).count (Reg.RING_CNT_TXF o) else h
  else if o = 21 then h.cyTakes q
  else if o ≠ 10 ∨ q.frame.hdr.typ = 7 ∨ q.frame.hdr.typ = 10 ∨ q.frame.hdr.typ = 11 ∨ q.frame.hdr.typ = 13 then
    let gone (i : Nat) : Bool := decide (o = 20) && h.xStopped (swCrossing i 0)
    let h1 := if o = 10 then h else h.countStale q.frame.hdr
    h1.take ⟨o, q.fid, q.frame, q.late || h.stale q.frame.hdr, q.due, gone 24, gone 25, q.inp⟩
  else h.emit (.toBlock o q.frame q.late)

/-! ### Tail samples -/

/-- R177: a tail sample that the mirror queue of output t unlinks or refuses: counted in SW_CNT_TSLOST, and for HP in LOST of the next
VALID pop; FLT_QDROP is raised (R164). -/
def Hub.sampleLost (h : Hub) (t : Nat) : Hub :=
  let h1 := ((h.count Reg.SW_CNT_TSLOST).evt Fld.SW_EVT_QDROP).raise Flt.QDROP 2 t 8 0
  if t = 9 then
    { h1 with sw := { h1.sw with lost := Sparse.put (fun _ => 0) h1.sw.lost 8 (min 127 (Sparse.get (fun _ => 0) h1.sw.lost 8 + 1)) } }
  else h1

/-- The samples that the mirror queue of output t holds, oldest first. -/
def Hub.samplesAt (h : Hub) (t : Nat) : List QCopy :=
  (h.sw.queue (queueNo t 8)).filterMap (fun id => h.sw.copies.find? (fun q => q.id = id))

/-- R164, R177: the oldest samples of a mirror queue are unlinked one at a time while more is needed and any can be. -/
def Hub.unlinkSamples (h : Hub) (t : Nat) (more : Hub → Nat → Bool) : Nat → Nat → Nat × Hub
  | 0, freed => (freed, h)
  | fuel + 1, freed =>
    if more h freed then
      match (h.samplesAt t).filter (fun q => q.whole && !q.sending) with
      | [] => (freed, h)
      | q :: _ => Hub.unlinkSamples ((h.dropCopy q).sampleLost t) t more fuel (freed + 1)
    else (freed, h)

/-- R166, R177: the room for a tail sample in the mirror queue of output t: its limit in cells and 4,096 frames; a sample of a C3-C7
frame takes a cell below LOWWAT only where the queue frees one for it, one of C0-C2 any free cell. -/
def Hub.sampleRoom (h : Hub) (t cls : Nat) : Bool × Hub :=
  let lim := min 4096 (max 1 (if t = 9 then h.get Fld.SW_MIRCFG_HPLIM else h.get Fld.SW_MIRCFG_MCLIM))
  let fits (g : Hub) : Bool := decide ((g.samplesAt t).length < lim)
  let low := decide (3 ≤ cls) && (decide (h.sw.free < h.get Fld.SW_VATCFG_LOWWAT) || decide (h.sw.free = 0))
  let r := h.unlinkSamples t (fun g freed => (low && freed == 0) || !fits g) ((h.samplesAt t).length + 1) 0
  (fits r.2 && (if low then decide (0 < r.1) else decide (0 < r.2.sw.free)), r.2)

/-- R157, R176: a tail sample is written into the mirror queue of MC or HP: the first cell of the frame, at most 128 octets, which fills as
the frame arrives where it is not yet whole. -/
def Hub.mirrorWrite (h : Hub) (o : Nat) (q : QCopy) : Hub :=
  let t := if h.is (Fld.SW_TSCFG_TARGET o q.cls) then 9 else 10
  if q.frame.hdr.world ∧ !h.portSecure t then (h.count Reg.SW_CNT_WORLDQ).raise Flt.WORLD 2 t 0 0
  else
    let low := h.lowWaits t
    let r := h.sampleRoom t q.cls
    if !r.1 then r.2.sampleLost t
    else
      let k := r.2.takeCells 1
      let id := k.2.sw.nextId
      let m : QCopy := { q with id := id, outp := t, cells := k.1, sending := false, wait := .consumer, late := false, transit := false,
                                mirror := true, sampled := o, origLen := q.frame.hdr.frameLen, next := [], check := none }
      let octets := if q.whole then q.frame.octets else q.frame.hdr.octets ++ beBytes 2 q.frame.hdr.hcrc.toNat
      let h2 := Hub.vatLevel ({ k.2 with sw := { k.2.sw with
        copies := k.2.sw.copies ++ [m], nextId := id + 1, vat := vatWrite k.2.sw.vat k.1 (octets.take 128) } }.clearFlips k.1)
      (h2.enqueue (queueNo t 8) id).lowStart t low

/-- R176: a frame that begins at (o, c) is counted; an Nth one is sampled: at once where a write slot is spare, else it waits. -/
def Hub.tailSample (h : Hub) (o : Nat) (q : QCopy) (spare : Bool) : Hub :=
  let n := h.get (Fld.SW_TSCFG_N o q.cls)
  if n = 0 ∨ q.mirror then h
  else
    let s := h.sched o
    let k := (Assoc.get s.begun q.cls).getD 0 + 1
    let h1 := h.setSched o { s with begun := Assoc.put s.begun q.cls (if n ≤ k then 0 else k) }
    if n ≤ k then (if spare then h1.mirrorWrite o q else h1.setSched o { h1.sched o with sample := some (q, h1.clock) }) else h1

/-- R176: a write slot is spare within 1 us of a sample that waits at output o. -/
def Hub.sampleTake (h : Hub) (o : Nat) (spare : Bool) : Hub :=
  match (h.sched o).sample with
  | some (q, t) => if spare ∧ h.clock ≤ t + us 1 then (h.setSched o { h.sched o with sample := none }).mirrorWrite o q else h
  | none => h

/-- R179, Table 06.6: a write of SW_TSCFGo,c restarts the frame count. -/
def Hub.tsWrite (h : Hub) (o c : Nat) : Hub := h.setSched o { h.sched o with begun := Assoc.del (h.sched o).begun c }

/-- R153: what the errors that reading a copy finds come to: 0 none, 1 corrected, 2 a word with two errors. ecc tells of errors that
arise in the read itself. -/
def Hub.eccRead (h : Hub) (q : QCopy) (ecc : Nat) : Nat × Hub :=
  let e := h.sw.eccScan q.words
  let n := e.1 + (if ecc = 1 then 1 else 0)
  (if ecc = 2 ∨ e.2 ≠ 0 then 2 else if n ≠ 0 then 1 else 0, h.corrected n)

/-- The copy that output o has chosen leaves it, or is dropped: its crossing is STOPPED (R301), a word of it holds two errors (R153), or its
lane does not carry it (Table 04.3, R132, R133). -/
def Hub.sendChosen (h : Hub) (o : Nat) (q : QCopy) (ecc : Nat) (spare : Bool) : Hub :=
  let e := h.eccRead q ecc
  let end_ (g : Hub) : Hub := (g.dropCopy q).setSched o { g.sched o with sending := none }
  if e.2.outStopped o then end_ (e.2.count Reg.ISL_CNT_XDROP)
  else if e.1 = 2 then
    let h4 := e.2.uncorrectable o (q.cells.headD 0)
    end_ (if o < 5 then (h4.emit (.laneFrame o (h4.onLane o q.transit q.frame) true)).count (Reg.RING_CNT_STOMP o)
      else if o ≤ 8 then h4.emit (.stationFrame (o - 5) q.frame.payload true) else h4)
  else if o < 5 ∧ e.2.lacksFeature o q.frame.hdr then end_ ((e.2.count (Reg.RING_CNT_DISC o)).evt (Fld.RING_EVT_FEATDROP o))
  else if o < 5 ∧ e.2.notOnLink o q.frame.hdr then end_ e.2
  else (e.2.sendOut o q).tailSample o q spare

/-- R298: an output's crossing leaves OPEN: the part of a frame that it has carried is discarded. -/
def Hub.dropSent (h : Hub) (o : Nat) : Hub :=
  match (h.sched o).sending with
  | none => h
  | some (id, _) =>
    let h1 := h.setSched o { h.sched o with sending := none }
    match h1.sw.copies.find? (fun q => q.id = id) with
    | some q => (h1.dropCopy q).count Reg.ISL_CNT_XDROP
    | none => h1

/-- OUTPUT_SELECT (R167): the frame being sent ends, the next is chosen and started where the output's crossing is not being reset or
resynchronised (Table 11.4). ecc tells what reading it finds: 0
nothing, 1 a corrected bit, 2 a word with two errors (R153); spare whether a tail sample finds a write slot (R176). -/
def execOutputSelect (o : Port) (ecc : Fin 3) (spare : Bool) (s : State) : Host.Outcome State Fault Refusal :=
  s.on (fun g => let h := g.sampleTake o.val spare
    match h.endSending o.val with
    | none => h
    | some h0 => match (if h0.outWaits o.val then none else h0.choose o.val) with
      | none => h0
      | some (q, sc) =>
        let h1 := h0.setSched o.val { sc with lastInput := Assoc.put sc.lastInput q.cls q.inp, sending := some (q.id, h0.clock) }
        let h2 : Hub := { h1 with sw := { h1.sw with
          copies := h1.sw.copies.map (fun (x : QCopy) => if x.id = q.id then { x with sending := true } else x) } }
        h2.sendChosen o.val q ecc.val spare)

/-- TAIL_SAMPLE_SKIP (R176): no spare write slot within 1 us. -/
def execTailSampleSkip (o : Port) (s : State) : Host.Outcome State Fault Refusal :=
  s.on (fun h => match (h.sched o.val).sample with
    | some (_, t) =>
      if t + us 1 ≤ h.clock then
        ((h.setSched o.val { h.sched o.val with sample := none }).count Reg.SW_CNT_TSSKIP).evt Fld.SW_EVT_TSSKIP
      else h
    | none => h)

/-! ### Host queues -/

/-- The head word of a copy (Table 06.3). Every tail sample carries TRUNC, one of a frame of 128 octets or less too (DESIGN CHOICE, log
136). -/
def Hub.headWord (h : Hub) (q : Nat) (c : QCopy) (valid : Bool) : Word :=
  let port := if c.mirror then c.sampled else c.inp
  if valid then
    BitVec.ofNat 32 (0x80000000 + (if c.late then 0x20000000 else 0) + (if c.mirror then 0x10000000 else 0) + 0x400000 * port +
      0x80000 * c.cls + 0x1000 * min 127 (Sparse.get (fun _ => 0) h.sw.lost q) +
      (if c.mirror then c.origLen else c.frame.hdr.frameLen))
  else BitVec.ofNat 32 (0x40000000 + 0x400000 * port + 0x80000 * c.cls)

/-- R173: the complete frame at the head of queue q moves into window q, and the frame that the window held is freed. -/
def Hub.popInto (h : Hub) (q : Nat) (c : QCopy) : Hub :=
  let h1 := match Assoc.get h.sw.windows q with
    | some old => h.freeCells old.cells
    | none => h
  let h2 := h1.unlink c
  let h3 := { h2 with sw := { h2.sw with windows := Assoc.put h2.sw.windows q c, lost := Sparse.put (fun _ => 0) h2.sw.lost q 0 } }
  if (h3.sw.queue q).isEmpty then h3 else h3.msix (1 + q)

/-- R153, R173: a read of SW_HQ_HEADq. A head frame of which a word holds two errors is discarded, and the pop goes on to the next. -/
def Hub.popFrom (q : Nat) : Nat → Hub → Word × Hub
  | 0, h => (0#32, h)
  | fuel + 1, h =>
    match (h.sw.queue q).head?.bind (fun id => h.sw.copies.find? (fun c => c.id = id)) with
    | none => (0#32, h)
    | some c =>
      if !c.whole then (h.headWord q c false, h)
      else
        let e := h.eccRead c 0
        if e.1 = 2 then popFrom q fuel ((e.2.uncorrectable 9 (c.cells.headD 0)).dropCopy c)
        else (h.headWord q c true, e.2.popInto q c)

/-- R173: a read of SW_HQ_HEADq. -/
def Hub.queuePop (h : Hub) (q : Nat) : Word × Hub := Hub.popFrom q (h.sw.queue q).length h

/-- HOST_QUEUE_POP (R173, R174). -/
def execHostQueuePop (req : Req) (q : Fin 9) (s : State) : Host.Outcome State Fault Refusal :=
  s.on (fun h => h.reading req (Reg.SW_HQ_HEAD q.val) (fun h => h.queuePop q.val))

/-- R175: octet k of window q, 0 beyond the frame, or beyond 128 octets of a tail sample; 0 before the first VALID pop of its queue
(DESIGN CHOICE, log 135). -/
def Hub.windowOctet (h : Hub) (q k : Nat) : Byte :=
  match Assoc.get h.sw.windows q with
  | none => 0
  | some c =>
    let len := c.frame.hdr.frameLen
    let n := if c.mirror then min 128 len else len
    if k < n then c.frame.octets.getD k 0 else 0

/-- R179: a read of SW_VATMIN restarts it at the current FREE. -/
def Hub.vatMinRead (h : Hub) : Word × Hub := (h.rd Reg.SW_VATMIN, h.wr Reg.SW_VATMIN (h.rd Reg.SW_VATFREE))

/-- VATMIN_READ (R179, Table 06.5). -/
def execVatminRead (req : Req) (s : State) : Host.Outcome State Fault Refusal :=
  s.on (fun h => h.reading req Reg.SW_VATMIN Hub.vatMinRead)

/-! ### Budgets -/

/-- R37, R178: the classes of an input that exceeded their budget in the window. -/
def Hub.overruns (h : Hub) : List (Nat × Nat) :=
  ((List.range 22).flatMap (fun i => (List.range 8).map (fun c => (i, c)))).filter (fun p =>
    let b := h.get (Fld.SW_BUDGET_OCTETS p.1 p.2)
    decide (b ≠ 0) && decide (b < Sparse.get (fun _ => 0) h.sw.meters (8 * p.1 + p.2)))

/-- BUDGET_WINDOW_END (R178). -/
def execBudgetWindowEnd (s : State) : Host.Outcome State Fault Refusal :=
  s.on (fun h => h.onPeriod .budget (us 100) (fun h =>
    let l := h.overruns
    let h1 := l.foldl (fun g p =>
      let g1 := g.evt ⟨Reg.SW_BUDSTAT p.1, p.2, 1⟩
      (g1.evt Fld.SW_EVT_BUDGET).raise Flt.BUDGET 2 p.1 p.2 (Sparse.get (fun _ => 0) h.sw.meters (8 * p.1 + p.2))) h
    { h1 with sw := { h1.sw with meters := [] } }))

end Sys2Proof.Machine
end

