-- ==== Sys2Proof/Machine/Reset.lean ====
section
/-! DEFINITION. Crossings (R293 to R301), group resets (R302 to R304) and the chip reset (R428). -/

namespace Sys2Proof.Machine

/-! ### Crossings -/

/-- A crossing of Table 11.2. -/
def mkCrossing (a b : Nat) (k : XKind) (i : Nat) : Crossing := ⟨Fin.ofNat 26 a, Fin.ofNat 26 b, k, BitVec.ofNat 8 i⟩

/-- The islands that hold a switch port of their own (Table 01.1). -/
def portIslands : List Nat := (List.range 16).map (fun k => 10 + k)

/-- Every crossing of Table 11.2. -/
def allCrossings : List Crossing :=
  [mkCrossing 1 2 .queue 0, mkCrossing 24 25 .value 0, mkCrossing 0 3 .value 0, mkCrossing 2 9 .queue 0,
   mkCrossing 3 2 .queue 1, mkCrossing 2 3 .queue 1] ++
  ((List.range 26).filter (fun i => islandStamps i && i != 1)).map (fun i => mkCrossing 1 i .value 0) ++
  (List.range 5).flatMap (fun l => [mkCrossing (4 + l) 2 .queue 0, mkCrossing (4 + l) 9 .value 0]) ++
  portIslands.flatMap (fun i => [mkCrossing i 2 .queue 0, mkCrossing 2 i .queue 0]) ++
  ((List.range 26).filter (fun i => i != 3)).flatMap
    (fun i => [mkCrossing 3 i .queue 0, mkCrossing i 3 .queue 0, mkCrossing i 3 .event 0]) ++
  ((List.range 26).drop 1).map (fun i => mkCrossing i 0 .event 0)

/-- The islands of a reset group (Table 11.1). -/
def groupIslands (g : Nat) : List Nat := (List.range 26).filter (fun i => islandGroup i == g)

/-- R294: whether a crossing touches a reset group. -/
def Crossing.touches (x : Crossing) (g : Nat) : Bool := islandGroup x.src.val == g || islandGroup x.dst.val == g

/-- A crossing takes a state; ISL_XSTAT counts those that are STOPPED. -/
def Hub.setXing (h : Hub) (x : Crossing) (st : Option XState) : Hub :=
  let l := match st with
    | some s => Assoc.put h.xings x s
    | none => Assoc.del h.xings x
  Hub.set { h with xings := l } Fld.ISL_XSTAT_STOPPED (l.filter (fun e => decide (e.2 = XState.stopped))).length

/-- KIND of ISL_XLAST. -/
def XKind.code : XKind → Nat
  | .value => 0 | .event => 1 | .queue => 2

/-- The part of a frame that a lane's crossing has carried when it leaves OPEN is discarded (R298); a copy of it that is being sent ends
with its FCS inverted (R114). -/
def Hub.dropPartial (h : Hub) (l : Nat) : Hub :=
  let more := h.sw.offered.any (fun o => decide (o.rx = some l)) || h.sw.copies.any (fun q => decide (q.rx = some l))
  let h1 := (h.rxFailed l [] 0).setLane l { h.lane l with rx := none }
  if more then h1.count Reg.ISL_CNT_XDROP else h1

/-- R298: the units that have partly crossed when a crossing leaves OPEN are discarded. -/
def Hub.dropPart (h : Hub) (x : Crossing) : Hub :=
  if 4 ≤ x.src.val ∧ x.src.val ≤ 8 ∧ x.dst = 2 ∧ x.kind = .queue then h.dropPartial (x.src.val - 4)
  else ((List.range 22).filter (fun o => (outCrossings o).contains x)).foldl (fun (g : Hub) o => g.dropSent o) h

/-- CROSSING_TIMEOUT (R299, R300): an OPEN crossing of Table 11.2 stops; side tells which half timed out (0 sending). -/
def execCrossingTimeout (x : Crossing) (side : Bool) (s : State) : Host.Outcome State Fault Refusal :=
  s.on (fun h =>
    if !allCrossings.contains x ∨ !h.xOpen x then h
    else
      let h1 := (h.setXing x (some .stopped)).raise Flt.XSTOP (if side then x.dst.val else x.src.val)
        (1024 * x.src.val + 32 * x.dst.val + x.kind.code) x.index.toNat 0
      let h2 := (h1.count Reg.ISL_CNT_XSTOP).evt Fld.ISL_EVT_XSTOP
      let h3 := ((((h2.set Fld.ISL_XLAST_FROM x.src.val).set Fld.ISL_XLAST_TO x.dst.val).set Fld.ISL_XLAST_KIND x.kind.code).set
        Fld.ISL_XLAST_SIDE (if side then 1 else 0)).set Fld.ISL_XLAST_INDEX x.index.toNat
      h3.dropPart x)

/-- CROSSING_LIVE_RETURN (R300): a STOPPED crossing is cleared and released as from a reset. -/
def execCrossingLiveReturn (x : Crossing) (s : State) : Host.Outcome State Fault Refusal :=
  s.on (fun h => if h.xStopped x then h.setXing x (some .resync) else h)

/-- The units of an island push their words as they stand (R22). -/
def Hub.catchUp (h : Hub) (i : Nat) : Hub := (allUnits.filter (fun u => u.island == i)).foldl (fun (g : Hub) u => g.push u) h

/-! ### What a group reset clears (R303) -/

/-- The RW1C bits of the registers that satisfy p are cleared. -/
def Hub.clearEvents (h : Hub) (p : Nat → Bool) : Hub :=
  (h.regs.filter (fun e => p e.1)).foldl (fun (g : Hub) e =>
    match regRow e.1 with
    | some r => g.wr e.1 (e.2 &&& ~~~BitVec.ofNat 32 r.w1c)
    | none => g) h

/-- Whether a register belongs to the islands of a group. -/
def groupReg (g a : Nat) : Bool :=
  let p := a / 0x10000
  if 3 ≤ g ∧ g ≤ 7 then decide (laneBase (g - 3) ≤ a) && decide (a < laneBase (g - 3) + 0x4000)
  else if 9 ≤ g ∧ g ≤ 12 then decide (p = 7) && decide (a % 0x10000 / 0x1000 = g - 9)
  else if g = 13 then decide (p = 5 ∨ p = 6)
  else if 14 ≤ g ∧ g ≤ 21 then decide (p = 0x10 + (g - 14))
  else if g = 22 then decide (p = 0x1A)
  else if g = 23 then decide (p = 0x18 ∨ p = 0x19)
  else false

/-- Frames that blocks of these ports have taken and not performed are lost. -/
def Hub.dropActs (h : Hub) (p : Nat → Bool) : Hub := { h with acts := h.acts.filter (fun a => !p a.port) }

/-- A receive island: frames in flight, link state; queued frames towards the lane as R104 says. -/
def Hub.clearRx (h : Hub) (l : Nat) : Hub :=
  let h1 := ((h.leaveUp l false).dropPartial l).laneTimersOff l
  let h2 := (h1.disarm (.errWindow l)).disarm (.eqsat l)
  let h3 := (h2.setLane l { LaneRec.reset with lastPartner := (h2.lane l).lastPartner, unnumberedRounds := (h2.lane l).unnumberedRounds }).wr
    (Reg.RING_LINK l) (h2.rd (Reg.RING_LINK l) &&& 0xC00#32)
  h3.resetUnit (laneUnit l)

/-- A station port: link, stamps, frames taken. -/
def Hub.clearSt (h : Hub) (p : Nat) : Hub :=
  (((h.setSt p StationRec.reset).dropActs (fun o => decide (o = 5 + p))).wr (Reg.ST_LINK p) 0).resetUnit (stUnit p)

/-- HP: requests, completions and messages of the host; the link falls. -/
def Hub.clearHp (h : Hub) : Hub :=
  let x := h.xact
  let mine := x.out.filter (fun o => !o.req.mc)
  let h1 := mine.foldl (fun (g : Hub) o => (g.disarm (.tag o.tag)).disarm (.busy o.tag)) h
  let h2 := x.held.foldl (fun (g : Hub) e => (g.disarm (.held e.id)).disarm (.fence e.id)) h1
  let h2b := h.host.nps.foldl (fun (g : Hub) e => g.disarm (.held e.id)) h2
  let h3 : Hub := { h2b with
    xact := { x with waiting := x.waiting.filter (fun w => w.mc), out := x.out.filter (fun o => o.req.mc), held := [], pfq := [],
                     pfqLost := 0, doorbells := [], noteCount := 0 },
    host := { HostPort.reset with sheet := h.host.sheet } }
  (((h3.dropActs (fun o => decide (o = 9))).wr Reg.XB_DBLVL 0).wr Reg.HP_LINK
    ((h.rd Reg.HP_LINK) &&& 0x40000000#32)).resetUnit .host

/-- A cluster: engines, lines, frames taken. -/
def Hub.clearCl (h : Hub) (c : Nat) : Hub :=
  let h1 := (List.range 8).foldl (fun (g : Hub) e =>
    (((g.setEng c e EngineRec.reset).disarm (.engStall (engNo c e))).wr (Reg.BRD_EQLVL c e) 0).resetUnit (engUnit c e)) h
  let h2 := (List.range 32).foldl (fun (g : Hub) k => (g.setLineRec c k LineRec.reset).disarm (.edgeGap (32 * c + k))) h1
  let h3 : Hub := { h2 with armedAt := Sparse.put (fun _ => 0) h2.armedAt c 0 }
  ((((h3.wr (Reg.BRD_LINEOE c) 0).wr (Reg.BRD_LINEOUT c) 0)).dropActs (fun o => decide (o = 11 + c))).resetUnit (cluUnit c)

/-- PB: every controller, its spool and its timed list. -/
def Hub.clearPb (h : Hub) : Hub :=
  ((List.range 16).foldl (fun (g : Hub) b => ((g.busErrClear b).setBus b BusRec.reset).resetUnit (busUnit b)) h).dropActs
    (fun o => decide (o = 19))

/-- EVA and EVB: sensed groups, guarded channels, events taken. -/
def Hub.clearEv (h : Hub) : Hub :=
  let h1 := (List.range 8).foldl (fun (k : Hub) g =>
    ((((k.senClear g).setGrp g GroupRec.reset).disarm (.sensat g)).wr (Reg.SEN_GREF g) 0).resetUnit (grpUnit g)) h
  let h2 := (List.range 16).foldl (fun (k : Hub) n =>
    ((((k.grdTimersOff n).setGrd n { GuardRec.reset with rb := (k.grd n).rb }).flag (Fld.GRD_STAT_ARM n) false).flag (Fld.GRD_STAT_FIRE n) false).resetUnit
      (grdUnit n)) h1
  h2.dropActs (fun o => decide (o = 20))

/-- R303: what the reset of a group clears; RWS and RW configuration fields and counters stay. -/
def Hub.clearGroup (h : Hub) (g : Nat) : Hub :=
  let h1 : Hub := { h with faultsIn := h.faultsIn.filter (fun e => !decide (islandGroup e.1.2 = g)) }
  let h2 :=
    if 3 ≤ g ∧ g ≤ 7 then h1.clearRx (g - 3)
    else if 9 ≤ g ∧ g ≤ 12 then h1.clearSt (g - 9)
    else if g = 13 then h1.clearHp
    else if 14 ≤ g ∧ g ≤ 21 then h1.clearCl (g - 14)
    else if g = 22 then h1.clearPb
    else if g = 23 then h1.clearEv
    else h1
  h2.clearEvents (groupReg g)

/-- R302: a group reset enters: its crossings, its islands, 2 us; it is counted as reset kind 7. -/
def Hub.groupReset (h : Hub) (g : Nat) : Hub :=
  let h0 : Hub := { h with xwaits := h.xwaits.filter (fun e => !decide (islandGroup e.1 = g)), starts := Assoc.del h.starts g }
  let h1 := (allCrossings.filter (fun x => x.touches g)).foldl (fun (k : Hub) x =>
    (if k.xOpen x ∧ x.src = 2 then k.dropPart x else k).setXing x (some .reset)) h0
  let h2 := ((h1.clearGroup g).set ⟨Reg.ISL_GRPSTAT, g, 1⟩ 1).arm (.groupReset g) (us 2)
  (h2.count Reg.ISL_CNT_GRESET).logCount 135 1

/-- GROUP_RESET_ORDER (R304): the order of a write to ISL_GRESET. -/
def Hub.groupOrder (h : Hub) (v : Word) : Hub :=
  let g := (v.extractLsb' 0 5).toNat
  if v.extractLsb' 8 8 = 0x5A#8 ∧ 3 ≤ g ∧ g ≤ 23 ∧ h.rd Reg.ISL_GRPSTAT = 0#32 then h.groupReset g
  else h.evt Fld.ISL_EVT_RSTREF

/-- GROUP_RESET_ORDER (R304). -/
def execGroupResetOrder (req : Req) (v : Word) (s : State) : Host.Outcome State Fault Refusal :=
  s.on (fun h => h.writing req Reg.ISL_GRESET (fun g => g.groupOrder v))

/-- R206: STATE of the host port: RUN with the link up, OFF with PERST_N low, else IDLE; rate and width in DETAIL. -/
def Hub.hostWord (h : Hub) : Hub :=
  h.setUnit .host (if h.is Fld.HP_LINK_UP then .run else if h.is Fld.HP_LINK_PERST then .idle else .off)
    (256 * h.get Fld.HP_LINK_RATE + 16 * h.get Fld.HP_LINK_WIDTH)

/-- R205, R325: the host port is in Detect: a link that came up before the sheets falls (log 125). -/
def Hub.hostDetect (h : Hub) : Hub :=
  if h.is Fld.HP_LINK_UP then ((h.wr Reg.HP_LINK (h.rd Reg.HP_LINK &&& 0x40000000#32)).evt Fld.HP_EVT_LINKDN).hostWord else h

/-- R303: a sealed hub's units start from their configuration, as they do at seal (R320); vio is the bank voltage that the
detector of a cluster finds. -/
def Hub.groupStart (h : Hub) (g : Nat) (vio : Nat) : Hub :=
  if 3 ≤ g ∧ g ≤ 7 then
    let h1 := h.laneTo (g - 3) .off
    if h1.is (Fld.RING_CTL_EN (g - 3)) then h1.laneLeave (g - 3) else h1
  else if 9 ≤ g ∧ g ≤ 12 then h.stStart (g - 9)
  else if g = 13 then h.hostWord
  else if 14 ≤ g ∧ g ≤ 21 then
    ((List.range 8).foldl (fun (k : Hub) e => k.setEngState (g - 14) e .off false 0) h).cluApply (g - 14) vio
  else if g = 22 then
    (List.range 16).foldl (fun (k : Hub) b => (k.busTo b .off).busSeal b) h
  else if g = 23 then
    let h1 := (List.range 8).foldl (fun (k : Hub) n =>
      if k.is (Fld.SEN_GCFG_EN n) then (k.setGrpState n .off).senEnable n else k.setGrpState n .off) h
    (List.range 16).foldl (fun (k : Hub) n => (k.grdOff n 0).grdSeal n) h1
  else h

/-- R303: the units of a group that has left reset start, where the hub is sealed. -/
def Hub.groupStarts (h : Hub) (g : Nat) : Hub :=
  match Assoc.get h.starts g with
  | none => h
  | some vio =>
    let h1 : Hub := { h with starts := Assoc.del h.starts g }
    if h1.sealed_ then h1.groupStart g vio else h1

/-- R302, R303: the groups whose crossings are all OPEN leave ISL_GRPSTAT, with GRPDONE, and their units start. -/
def Hub.groupsDone (h : Hub) : Hub :=
  ((List.range 24).filter (fun g => (h.rd Reg.ISL_GRPSTAT).getLsbD g && !h.armed (.groupReset g))).foldl (fun (k : Hub) g =>
    if k.xings.any (fun e => e.1.touches g && !decide (e.2 = XState.stopped)) then k
    else ((k.set ⟨Reg.ISL_GRPSTAT, g, 1⟩ 0).evt Fld.ISL_EVT_GRPDONE).groupStarts g) h

/-- GROUP_RESET_RELEASE (R302, R303): after 2 us the group leaves reset and its crossings resynchronise, but for those to a group that is
still in reset; its units start once they are
OPEN, a cluster's with the bank voltage told here (log 35). -/
def execGroupResetRelease (g : Fin 24) (vio : Fin 3) (s : State) : Host.Outcome State Fault Refusal :=
  s.on (fun h => h.onDue (.groupReset g.val) (fun k =>
    let k1 := (allCrossings.filter (fun x => x.touches g.val && !(List.range 24).any (fun j => x.touches j && k.armed (.groupReset j)))).foldl
      (fun (m : Hub) x => m.setXing x (some .resync)) k
    Hub.groupsDone { k1 with starts := Assoc.put k1.starts g.val vio.val }))

/-! ### The chip reset (R428) -/

/-- The timers that the AON island runs. -/
def Timer.aon : Timer → Bool
  | .identity | .histogram | .trial | .adc | .pins | .rev _ | .insertion | .ramp | .rampOn | .tflt | .offTime | .retryReset
  | .foldsat | .thermal | .railTimeout | .seqRetry | .resequence | .clrHold | .egrst | .powerStep | .drp | .sender | .capWait
  | .recovery | .sinkRequest | .psTransition => true
  | _ => false

/-- Identity and factory constants of the part (Tables 03.6, 03.7, 02.1), which no reset changes. -/
def partReg (a : Nat) : Bool :=
  decide (a < 0x10) || (List.range 5).any (fun l => decide (a = Reg.RING_LAT l)) || (List.range 4).any (fun p => decide (a = Reg.ST_LAT p)) ||
  (List.range 8).any (fun c => decide (a = Reg.BRD_LAT c)) || decide (a = Reg.SEN_LAT)

/-- The pages that lie in the AON island: LOG_, PWR_, SVC_ (Table 01.1). -/
def aonPage (a : Nat) : Bool := decide (a / 0x10000 = 0x22 ∨ a / 0x10000 = 0x24 ∨ a / 0x10000 = 0x25)

/-- R359: what the grave latch shows. -/
def Hub.showGrave (h : Hub) : Hub :=
  match h.aon.grave with
  | some n => ((h.set Fld.FLT_STATUS_GRAVE 1).set Fld.FLT_STATUS_GRAVESRC n).set Fld.FLT_ERRN_LOW 1
  | none => h

/-- R350: the registers of FLT_RESETLOOP, whose CUR and window the AON island keeps through chip resets. -/
def loopReg (a : Nat) : Bool := decide (a = Reg.FLT_SRC_STAT Flt.RESETLOOP)

/-- The levels of inputs, which no reset changes: MODABS and LOS of the lanes (R100), the comparators of the sensed lines, and the
readbacks, shown in GRD_STAT (R266). -/
def Hub.keepLevels (h old : Hub) : Hub :=
  let h0 := (List.range 5).foldl (fun (g : Hub) l => g.wr (Reg.RING_LINK l) (old.rd (Reg.RING_LINK l) &&& 0xC00#32)) h
  let h1 := (List.range 64).foldl (fun (g : Hub) n => g.setSns n { g.sns n with comp := (old.sns n).comp }) h0
  (List.range 16).foldl (fun (g : Hub) n => (g.setGrd n { g.grd n with rb := (old.grd n).rb }).rbShow n) h1

/-- R428: a chip reset of a kind enters: every island of groups 1-23 is reset; what the AON island, the log memory, the flash
and the fuses hold stays; the kind is recorded at its release. A reset that enters in the same cycle keeps the lower code; one
that cycles the rails takes the place of one already held (log 36). -/
def Hub.chipReset (h : Hub) (kind : Nat) : Hub :=
  let k := if h.aon.held then (if h.aon.heldAt = h.clock then min kind h.aon.kind else if kind ≤ 2 then kind else h.aon.kind) else kind
  let grave := if kind ≤ 2 then none else h.aon.grave
  let h1 : Hub := { Hub.reset with
    clock := h.clock
    born := h.born
    out := h.out
    draws := h.draws
    timers := h.timers.filter (fun e => e.1.aon)
    regs := h.regs.filter (fun e => aonPage e.1 || partReg e.1 || loopReg e.1)
    log := { h.log with merged := [] }
    keys := { h.keys with root := none, ktag := 0, keys := [], tags := [] }
    flash := { h.flash with write := none, waits := [], booted := false, refused := false }
    aon := { h.aon with held := true, heldAt := if h.aon.held then h.aon.heldAt else h.clock, kind := k, order := none,
                        flushed := false, grave := grave,
                        reamLatch := if h.is Fld.SVC_STATUS_PLOIA then h.rd Reg.REAM_STATUS else h.aon.reamLatch }
    flt := { Collector.reset with srcs := h.flt.srcs.filter (fun e => decide (e.1 = Flt.RESETLOOP)) }
    entry := h.entry
    svc := { h.svc with sessions := [], busy := false }
    tap := h.tap }
  ((h1.set Fld.SVC_STATUS_PLOIA 0).showGrave).keepLevels h

end Sys2Proof.Machine
end

