-- ==== Sys2Proof/Machine/Faults.lean ====
section
/-! DEFINITION. The fault collector (R348 to R360), ALIVE and ERR_N (R361 to R364), self-tests (R365 to R368) and the die
sensor (R465). -/

namespace Sys2Proof.Machine

/-! ### Pending bits and records -/

/-- What the collector holds of a source. -/
def Hub.fltSrc (h : Hub) (n : Nat) : FltSrc := Sparse.get (fun _ => FltSrc.reset) h.flt.srcs n
/-- What the collector holds of a source, replaced. -/
def Hub.setFltSrc (h : Hub) (n : Nat) (r : FltSrc) : Hub :=
  { h with flt := { h.flt with srcs := Sparse.put (fun _ => FltSrc.reset) h.flt.srcs n r } }

/-- Whether a source is pending (R358). -/
def Hub.fltPending (h : Hub) (n : Nat) : Bool := (h.rd (Reg.FLT_PEND (n / 32))).getLsbD (n % 32)

/-- R358: whether some pending source's last event included INT. -/
def Hub.fltIntSet (h : Hub) : Bool := (List.range 78).any (fun n => h.fltPending n && (h.fltSrc n).int)

/-- ANYPEND and TOP of FLT_STATUS follow the pending bits and classes (Table 14.6). -/
def Hub.pendShow (h : Hub) : Hub :=
  let l := (List.range 78).filter (fun n => h.fltPending n)
  (h.flag Fld.FLT_STATUS_ANYPEND (!l.isEmpty)).set Fld.FLT_STATUS_TOP (l.foldl (fun m n => max m (h.get (Fld.FLT_SRC_STAT_CUR n))) 0)

/-- The largest number of records in the queue (R357). -/
def recordRoom : Nat := 64

/-- R357: a record joins the queue, the oldest one going where 64 are held. -/
def Hub.fltRecord (h : Hub) (r : FltRecord) : Hub :=
  if h.flt.records.length < recordRoom then { h with flt := { h.flt with records := h.flt.records ++ [r] } }
  else Hub.evt { h with flt := { h.flt with records := h.flt.records.drop 1 ++ [r], lost := h.flt.lost + 1 } } Fld.FLT_EVT_RECLOST

/-- The detail words of a record: FLT_BIST as R357, FLT_RAILRST as R431, NOBLK in DETAIL3[31] (R355); the others are free
values (log 3). -/
def FltRecord.detail (r : FltRecord) (k : Nat) : Word :=
  let w : Word :=
    if r.src = Flt.BIST ∧ k < 3 then BitVec.ofNat 32 ([r.info.unit, r.info.a, r.info.b].getD k 0)
    else if r.src = Flt.RAILRST ∧ k < 2 then BitVec.ofNat 32 ([r.info.a, r.info.b].getD k 0)
    else Config.faultDetail r.src r.info k
  if k = 3 then (w &&& 0x7FFFFFFF#32) ||| (if r.noBlk then 0x80000000#32 else 0#32) else w

/-! ### Escalation -/

/-- W of a source in ps; 0 is taken as 1 ms (Table 14.7). -/
def Hub.fltW (h : Hub) (n : Nat) : Nat := ms (max 1 (h.get (Fld.FLT_SRC_WIN_W n)))

/-- The ceiling of a source: codes above 4 stand for no class (R349) and are taken as F4 (log 161). -/
def Hub.fltCeil (h : Hub) (n : Nat) : Nat := min 4 (h.get (Fld.FLT_SRC_CFG_CEIL n))

/-- R350: the rises of one transfer; a class rises at most four times. -/
def riseLoop (ceil n : Nat) : Nat → Nat → Nat → Nat × Nat × Bool
  | 0, cur, wc => (cur, wc, false)
  | f + 1, cur, wc => if n ≤ wc ∧ cur < ceil then ((riseLoop ceil n f (cur + 1) (wc - n)).1, (riseLoop ceil n f (cur + 1) (wc - n)).2.1, true) else (cur, wc, false)

/-- R350: CUR and the window of a source after a transfer of k events. -/
def Hub.escalate (h : Hub) (src k : Nat) : Hub :=
  let r := h.fltSrc src
  let cur := h.get (Fld.FLT_SRC_STAT_CUR src)
  let ceil := h.fltCeil src
  let n := h.get (Fld.FLT_SRC_CFG_N src)
  let h1 := h.countBy (Reg.FLT_SRC_CNT src) k
  if 0 < n ∧ cur < ceil then
    let fresh : Bool := match r.wstart with
      | none => true
      | some t => decide (h.fltW src ≤ h.clock - t)
    let e := riseLoop ceil n 4 cur ((if fresh then 0 else r.wcount) + k)
    let h2 := h1.setFltSrc src { r with wstart := if fresh || e.2.2 then some h.clock else r.wstart, wcount := e.2.1, last := h.clock }
    (h2.set (Fld.FLT_SRC_STAT_CUR src) e.1).set (Fld.FLT_SRC_STAT_WCOUNT src) (min 255 e.2.1)
  else h1.setFltSrc src { r with last := h.clock }

/-- R350, Table 15.1: the identity copy follows the class and the window of FLT_RESETLOOP. -/
def Hub.loopKeep (h : Hub) (src : Nat) : Hub :=
  let i := h.log.ident
  let cur := h.get (Fld.FLT_SRC_STAT_CUR Flt.RESETLOOP)
  let n := (h.fltSrc Flt.RESETLOOP).wcount
  if src = Flt.RESETLOOP ∧ (i.loopCur ≠ cur ∨ i.loopCount ≠ n) then h.identityChange { i with loopCur := cur, loopCount := n } else h

/-! ### Reactions -/

/-- The bits of Table 14.2 for an event of a source at its class (R354). -/
def Hub.reaction (h : Hub) (src cls : Nat) : Word := (h.rd (Reg.FLT_SRC_CFG src) ||| h.rd (Reg.FLT_CLASSCFG cls)) &&& 0x1F#32

/-- INT: vector 0 where the set of R358 was empty, and an interrupt to Ploia. -/
def Hub.reactInt (h : Hub) (was : Bool) : Hub := (if was then h else h.msix 0).emit (.ploiaInt false)

/-- NMI: the trap, and a flush that commits the record at once; none while Ploia is halted (R35). -/
def Hub.reactNmi (h : Hub) (src cls : Nat) : Hub :=
  let h1 := h.emit (.ploiaInt true)
  if h.halted then h1 else (h1.journalLater 9 src cls).orderFlush .nmi

/-- R364: ERR_N is pulled low for ERRMIN ms, below 2 taken as 2. -/
def Hub.reactErr (h : Hub) : Hub := (h.set Fld.FLT_ERRN_LOW 1).arm .errn (ms (max 2 (h.get Fld.FLT_ERRN_ERRMIN)))

/-- BLKRST: the reset of the group of the event's island, where no reset holds it already; groups 0 to 2 are not reset
(R355). -/
def Hub.reactBlk (h : Hub) (island : Nat) : Hub :=
  let g := islandGroup island
  if 3 ≤ g ∧ !h.armed (.groupReset g) then h.groupReset g else h

/-- R430: an orderly or fault reset is ordered; one that is pending already stands. -/
def Hub.orderReset (h : Hub) (kind : Nat) : Hub :=
  if h.aon.order.isSome then h
  else (Hub.orderFlush { h with aon := { h.aon with order := some kind, flushed := false } } .reset).arm .reset (ms 2)

/-- R359: the grave latch of the first source that reaches F4, and the actions of the grave class; engines that do not run
give their lines up as well. -/
def Hub.graveEnter (h : Hub) (src : Nat) : Hub :=
  let h1 : Hub := if h.aon.grave.isSome then h else { h with aon := { h.aon with grave := some src } }
  let h2 := (List.range 16).foldl (fun (g : Hub) n => g.grdOff n 0) h1.showGrave
  let h3 := (List.range 8).foldl (fun (g : Hub) c =>
    (List.range 8).foldl (fun (k : Hub) e => (k.engRelease c e).2.releaseLines c e) g) h2
  let h4 := (List.range 16).foldl (fun (g : Hub) b => (g.busDisable b).2) h3
  h4.aliveCheck

/-- R350, R354, R358: the collector handles one transfer of k events; fuel bounds the event of FLT_RESETLOOP that a CHIPRST
reaction raises, one for each chip reset so ordered (log 156). -/
def Hub.collect (h : Hub) : Nat → Nat → FaultXfer → Hub
  | 0, _, _ => h
  | fuel + 1, src, x =>
    let was := h.fltIntSet
    let h1 := (h.escalate src x.count).loopKeep src
    let cls := h1.get (Fld.FLT_SRC_STAT_CUR src)
    let act := h1.reaction src cls
    let noBlk := act.getLsbD 2 && decide (islandGroup x.info.island < 3)
    let h2 := h1.fltRecord ⟨src, cls, x.count, x.first, x.last, x.inj, x.info, noBlk⟩
    let h3 := ((h2.evt ⟨Reg.FLT_PEND (src / 32), src % 32, 1⟩).setFltSrc src { h2.fltSrc src with int := act.getLsbD 0 }).pendShow
    let h4 := if x.inj then h3 else h3.logCount src x.count
    let h5 := if act.getLsbD 0 then h4.reactInt was else h4
    let h6 := if act.getLsbD 1 then h5.reactNmi src cls else h5
    let h7 := if act.getLsbD 4 then h6.reactErr else h6
    let h8 := if act.getLsbD 2 then h7.reactBlk x.info.island else h7
    let h9 := if act.getLsbD 3 ∧ h8.aon.order.isNone then
        (Hub.collect h8 fuel Flt.RESETLOOP ⟨1, h8.pulseStamp 3, h8.pulseStamp 3, false, ⟨3, 0, 0, 0⟩⟩).orderReset 5
      else h8
    (if cls = 4 then h9.graveEnter src else h9).aliveCheck

/-- FAULT_EVENT (R348, R350, R297): the collector takes the transfer that an island's EVENT crossing holds for a source; the
MGMT island's own events cross nothing. -/
def execFaultEvent (src : Fin 128) (island : Fin 26) (s : State) : Host.Outcome State Fault Refusal :=
  s.on (fun h =>
    match Assoc.get h.faultsIn (src.val, island.val) with
    | none => h
    | some x =>
      if island.val ≠ 3 ∧ !h.xOpen (eventCrossing island.val) then h
      else
        let h1 : Hub := { h with faultsIn := Assoc.del h.faultsIn (src.val, island.val) }
        if src.val < 78 then h1.collect 2 src.val x else h1)

/-- CLASS_FALL (R351): W ms after its last event, rise or fall a source above BASE, and not in F4, falls by one. -/
def execClassFall (src : Fin 128) (s : State) : Host.Outcome State Fault Refusal :=
  s.on (fun h =>
    let n := src.val
    let cur := h.get (Fld.FLT_SRC_STAT_CUR n)
    let r := h.fltSrc n
    if n < 78 ∧ h.get (Fld.FLT_SRC_CFG_BASE n) < cur ∧ cur ≠ 4 ∧ h.fltW n ≤ h.clock - r.last then
      (((h.set (Fld.FLT_SRC_STAT_CUR n) (cur - 1)).setFltSrc n { r with last := r.last + h.fltW n }).pendShow).loopKeep n
    else h)

/-- FAULT_RESET_ENTRY (R356): the fault reset enters after its flush has committed, or 2 ms after the event. -/
def execFaultResetEntry (s : State) : Host.Outcome State Fault Refusal :=
  s.on (fun h => if h.aon.order = some 5 ∧ (h.aon.flushed ∨ h.due .reset) then h.chipReset 5 else h)

/-- R358: pending bits written with 1 are cleared; vector 0 again where the set of pending sources stays non-empty. -/
def Hub.pendClear (h : Hub) (m : Nat) (v : Word) : Hub :=
  let h1 := (h.wr (Reg.FLT_PEND m) (h.rd (Reg.FLT_PEND m) &&& ~~~(v &&& ~~~h.kept (Reg.FLT_PEND m)))).pendShow
  if h1.fltIntSet then h1.msix 0 else h1

/-- FAULT_PEND_CLEAR (R358). -/
def execFaultPendClear (req : Req) (m : Fin 4) (v : Word) (s : State) : Host.Outcome State Fault Refusal :=
  s.on (fun h => h.writing req (Reg.FLT_PEND m.val) (fun g => g.pendClear m.val v))

/-- R357: a pop of the record queue: the word of FLT_RECPOP; stamps and detail words are latched. -/
def Hub.recordPop (h : Hub) : Word × Hub :=
  match h.flt.records with
  | [] => (0, h)
  | r :: t =>
    let w : Word := 1#1 ++ (if r.inj then 1#1 else 0#1) ++ BitVec.ofNat 4 (min 15 h.flt.lost) ++ BitVec.ofNat 7 r.src ++
      BitVec.ofNat 3 r.cls ++ BitVec.ofNat 16 r.count
    let h1 : Hub := { h with flt := { h.flt with records := t, lost := 0 } }
    let h2 := (List.range 4).foldl (fun (g : Hub) k => g.wr (Reg.FLT_RECDET k) (r.detail k)) h1
    (w, (((h2.wr Reg.FLT_RECFIRST_NS (BitVec.ofNat 32 r.first.ns)).wr Reg.FLT_RECFIRST_SEC (BitVec.ofNat 32 r.first.sec)).wr
      Reg.FLT_RECLAST_NS (BitVec.ofNat 32 r.last.ns)).wr Reg.FLT_RECLAST_SEC (BitVec.ofNat 32 r.last.sec))

/-- FAULT_RECORD_POP (R357). -/
def execFaultRecordPop (req : Req) (s : State) : Host.Outcome State Fault Refusal :=
  s.on (fun h => h.reading req Reg.FLT_RECPOP (fun g => g.recordPop))

/-- R350: a write of FLT_SRCn_CFG; where BASE or CEIL changes, CUR becomes the larger of the new BASE and the smaller of CUR
and the new CEIL, codes above 4 taken as F4 (log 161). -/
def Hub.srcCfgWrite (h : Hub) (n : Nat) (v m : Word) : Hub :=
  let h1 := h.fieldWrite (Reg.FLT_SRC_CFG n) v m
  let base := h1.get (Fld.FLT_SRC_CFG_BASE n)
  let ceil := h1.get (Fld.FLT_SRC_CFG_CEIL n)
  if base ≠ h.get (Fld.FLT_SRC_CFG_BASE n) ∨ ceil ≠ h.get (Fld.FLT_SRC_CFG_CEIL n) then
    ((h1.set (Fld.FLT_SRC_STAT_CUR n) (max (min 4 base) (min (h.get (Fld.FLT_SRC_STAT_CUR n)) (h1.fltCeil n)))).pendShow.loopKeep n).aliveCheck
  else h1.aliveCheck

/-- FAULT_SRC_CFG_WRITE (R350). -/
def execFaultSrcCfgWrite (req : Req) (n : Fin 78) (v : Word) (s : State) : Host.Outcome State Fault Refusal :=
  s.on (fun h => h.writing req (Reg.FLT_SRC_CFG n.val) (fun g => g.srcCfgWrite n.val v 0xFFFFFFFF#32))

/-! ### ALIVE and ERR_N -/

/-- R361: whether the present TIME tick is the first at or after an instant at which NS is a multiple of 500,000. -/
def Hub.aliveInstant (h : Hub) : Bool :=
  decide ((h.time.ns.toNat % 500000) * 0x10000000000 + h.time.frac.toNat < h.time.inc.toNat)

/-- ALIVE changes level. -/
def Hub.aliveFlip (h : Hub) : Hub :=
  Hub.set { h with flt := { h.flt with toggled := some h.clock } } Fld.FLT_ALIVE_LEVEL (1 - h.get Fld.FLT_ALIVE_LEVEL)

/-- ALIVE_TOGGLE (R361, R362): a running ALIVE toggles, once at an instant; one that has not yet run starts once every condition holds; whether
one that stopped less than 20 us ago toggles once more is open. -/
def execAliveToggle (s : State) : Host.Outcome State Fault Refusal :=
  s.on (fun h =>
    if !h.aliveInstant ∨ h.flt.toggled = some h.clock then h
    else if h.is Fld.FLT_ALIVE_RUNNING then h.aliveFlip
    else if h.get Fld.FLT_ALIVE_CAUSE = 0 then
      (if h.aliveCause = none then (h.set Fld.FLT_ALIVE_RUNNING 1).aliveFlip else h)
    else if h.clock - h.flt.failAt < us 20 then
      (if Config.freeBool h.draws then h.draw.aliveFlip else h.draw)
    else h)

/-- R363: a write of REARM. -/
def Hub.aliveRearm (h : Hub) : Hub := if h.aliveCause = none then h.set Fld.FLT_ALIVE_RUNNING 1 else h.evt Fld.FLT_EVT_REARMREF

/-- ALIVE_REARM (R363). -/
def execAliveRearm (req : Req) (s : State) : Host.Outcome State Fault Refusal :=
  s.on (fun h => h.writing req Reg.FLT_ALIVE (fun g => g.aliveRearm))

/-- ERRN_RELEASE (R364): ERRMIN has run out; ERR_N rises unless HOLD or the grave latch is set. -/
def execErrnRelease (s : State) : Host.Outcome State Fault Refusal :=
  s.on (fun h => h.onDue .errn (fun g => if g.is Fld.FLT_ERRN_HOLD ∨ g.aon.grave.isSome then g else g.set Fld.FLT_ERRN_LOW 0))

/-- R364: a write of HOLD; on clearing, ERR_N is released where ERRMIN has run out and the grave latch is clear. -/
def Hub.errnHold (h : Hub) (hold : Bool) : Hub :=
  let h1 := h.flag Fld.FLT_ERRN_HOLD hold
  if hold ∨ h.armed .errn ∨ h.aon.grave.isSome then h1 else h1.set Fld.FLT_ERRN_LOW 0

/-- ERRN_HOLD_WRITE (R364). -/
def execErrnHoldWrite (req : Req) (hold : Bool) (s : State) : Host.Outcome State Fault Refusal :=
  s.on (fun h => h.writing req Reg.FLT_ERRN (fun g => g.errnHold hold))

/-! ### Self-tests -/

/-- How many units a test of Table 14.4 has; the numbers of its units are the model's (log 37). -/
def testUnits (t : Nat) : Nat := [1, 1, 1, 1, 8, 8, 64, 16, 5, 16, 1].getD t 0
/-- Whether a test is a WINDOW test (Table 14.4). -/
def testWindow (t : Nat) : Bool := decide (6 ≤ t ∧ t ≤ 9)
/-- The unit table's number of unit n of a WINDOW test. -/
def testUnitNo (t n : Nat) : Nat := if t = 6 then n else if t = 7 then 72 + n else if t = 8 then 92 + n else 97 + n
/-- The unit n of a WINDOW test from its number in the unit table. -/
def testUnitOf (t u : Nat) : Nat := if t = 6 then u else if t = 7 then u - 72 else if t = 8 then u - 92 else u - 97
/-- How long a WINDOW test lasts (Table 14.4). -/
def testTime (t : Nat) : Nat := if t = 6 then us 20 else if t = 7 then us 200 else if t = 8 then ms 10 else us 50

/-- Table 14.4: whether a unit is in the window of a test. -/
def Hub.inWindow (h : Hub) (t n : Nat) : Bool :=
  if t = 6 then decide (h.engState (n / 8) (n % 8) = .idle) && !h.engArmed (n / 8) (n % 8) &&
    decide ((h.unit (.cluster (Fin.ofNat 8 (n / 8)))).state = .run)
  else if t = 7 then decide ((h.bus n).st = .off) || decide ((h.bus n).st = .sleep)
  else if t = 8 then decide (h.lstate n = .off)
  else if t = 9 then decide (h.grdState n = .off)
  else false

/-- The instant since which a unit has been as it is, the release of chip reset where it has not changed since. -/
def Hub.sinceUnit (h : Hub) (u : Nat) : Nat := (Assoc.get h.test.since u).getD h.born

/-- R365: whether a unit has been in its window for 1 s. -/
def Hub.windowOld (h : Hub) (t n : Nat) : Bool :=
  let u := testUnitNo t n
  let c := if t = 6 then max (h.sinceUnit u) (h.sinceUnit (64 + n / 8)) else h.sinceUnit u
  h.inWindow t n && decide (ms 1000 ≤ h.clock - c)

/-- R365: whether a unit has passed a test within the last STPERIOD s, below 60 taken as 60. -/
def Hub.testFresh (h : Hub) (t n : Nat) : Bool :=
  match Assoc.get h.test.passed (t, n) with
  | some p => decide (h.clock - p < ms (1000 * max 60 (h.get Fld.FLT_STCFG_STPERIOD)))
  | none => false

/-- A WINDOW test begins. -/
def Hub.testBegin (h : Hub) (t n : Nat) (asked : Bool) : Hub :=
  Hub.arm { h with test := { h.test with running := some (t, testUnitNo t n, asked) } } .stEnd (testTime t)

/-- FLT_STRES takes a result; the ends set STDONE (R366). -/
def Hub.testResult (h : Hub) (r : Nat) : Hub :=
  let h1 := h.set Fld.FLT_STRES_RESULT r
  if 3 ≤ r then h1.evt Fld.FLT_EVT_STDONE else h1

/-- R366: a request of a self-test. -/
def Hub.testRequest (h : Hub) (v : Word) : Hub :=
  let t := (v.extractLsb' 24 4).toNat
  let n := (v.extractLsb' 0 16).toNat
  if !v.getLsbD 31 then h
  else if h.get Fld.FLT_STRES_RESULT = 1 ∨ h.get Fld.FLT_STRES_RESULT = 2 then h.set Fld.FLT_STRES_BUSYHIT 1
  else
    let h1 := ((h.set Fld.FLT_STRES_BUSYHIT 0).set Fld.FLT_STRES_TEST t).set Fld.FLT_STRES_UNIT n
    if testUnits t ≤ n then h1.testResult 6
    else if !testWindow t then h1.testResult 1
    else match h1.test.running with
      | some (t', u, _) =>
        if t' = t ∧ u = testUnitNo t n then
          Hub.testResult { h1 with test := { h1.test with running := some (t', u, true) } } 1
        else (Hub.testResult { h1 with test := { h1.test with deferred := some (t, n) } } 2).arm .stDefer
          (ms (1000 * max 60 (h1.get Fld.FLT_STCFG_STDEFER)))
      | none =>
        if h1.inWindow t n then (h1.testBegin t n true).testResult 1
        else (Hub.testResult { h1 with test := { h1.test with deferred := some (t, n) } } 2).arm .stDefer
          (ms (1000 * max 60 (h1.get Fld.FLT_STCFG_STDEFER)))

/-- SELFTEST_REQUEST (R366). -/
def execSelftestRequest (req : Req) (v : Word) (s : State) : Host.Outcome State Fault Refusal :=
  s.on (fun h => h.writing req Reg.FLT_STREQ (fun g => g.testRequest v))

/-- Table 14.4: a vat cell that fails is retired until chip reset, 256 at most. -/
def Hub.retireCell (h : Hub) (c : Nat) : Hub :=
  if h.sw.retired.contains c ∨ h.sw.used.contains c ∨ 256 ≤ h.sw.retired.length ∨ 65536 ≤ c then h
  else (Hub.vatLevel { h with sw := { h.sw with retired := sortedInsert c h.sw.retired } }).set Fld.FLT_HEALTH_RETIRED
    (h.sw.retired.length + 1)

/-- Table 14.4: what the failure of a SHADOW test does beside FLT_BIST and its count: cells retired, keys of a slot killed
(R336), FLT_MGMTECC, FLT_LOGWR. -/
def Hub.shadowFail (h : Hub) (t unit where_ : Nat) : Hub :=
  if t = 2 then h.scrubFail where_
  else
    let h1 := { h with test := { h.test with bad := (t, unit) :: h.test.bad.filter (fun p => !decide (p = (t, unit))) } }
    let h2 := h1.bistFail t unit where_
    if t ≤ 1 then h2.retireCell where_
    else if t = 3 then h2.raise Flt.MGMTECC 3 unit where_ 0
    else if t = 10 then h2.raise Flt.LOGWR 0 unit where_ 0
    else h2

/-- The end of a SHADOW test's pass: counted where it passed, and the result of a request for it (R366). -/
def Hub.shadowEnd (h : Hub) (t unit : Nat) : Hub :=
  let bad := h.test.bad.contains (t, unit)
  let h1 := { h with test := { h.test with bad := h.test.bad.filter (fun p => !decide (p = (t, unit))) } }
  let h2 := if bad then h1 else
    Hub.countField { h1 with test := { h1.test with passed := Assoc.put h1.test.passed (t, unit) h.clock } } (Fld.FLT_HTEST_PASSES t)
  if h2.get Fld.FLT_STRES_RESULT = 1 ∧ h2.get Fld.FLT_STRES_TEST = t ∧ h2.get Fld.FLT_STRES_UNIT = unit then
    h2.testResult (if bad then 4 else 3)
  else h2

/-- SELFTEST_SHADOW_STEP (R365): one step of a SHADOW test on a unit; ok says whether it passed, where_ the cell, slot,
address or line, passEnd that the step ends the test's pass. -/
def execSelftestShadowStep (t : Fin 11) (unit where_ : Nat) (ok passEnd : Bool) (s : State) : Host.Outcome State Fault Refusal :=
  s.on (fun h =>
    if testWindow t.val ∨ testUnits t.val ≤ unit then h
    else
      let h1 := if ok then h else h.shadowFail t.val unit where_
      if passEnd then h1.shadowEnd t.val unit else h1)

/-- SELFTEST_WINDOW_START (R365, R366): a deferred test runs once its unit is in its window; a background one where the unit has
been there for 1 s and has not passed within STPERIOD; one test at a time. -/
def execSelftestWindowStart (t : Fin 11) (n : Nat) (s : State) : Host.Outcome State Fault Refusal :=
  s.on (fun h =>
    if h.test.running.isSome ∨ !testWindow t.val ∨ testUnits t.val ≤ n then h
    else if h.test.deferred = some (t.val, n) ∧ h.inWindow t.val n then
      (((Hub.testBegin { h with test := { h.test with deferred := none } } t.val n true).disarm .stDefer).testResult 1)
    else if h.windowOld t.val n ∧ !h.testFresh t.val n then h.testBegin t.val n false
    else h)

/-- SELFTEST_WINDOW_END (R365): the WINDOW test ends; ok says whether it passed. -/
def execSelftestWindowEnd (ok : Bool) (where_ : Nat) (s : State) : Host.Outcome State Fault Refusal :=
  s.on (fun h => h.onDue .stEnd (fun g =>
    match g.test.running with
    | none => g
    | some (t, u, asked) =>
      let n := testUnitOf t u
      let g1 : Hub := { g with test := { g.test with running := none } }
      let g2 := if ok then
          Hub.countField { g1 with test := { g1.test with passed := Assoc.put g1.test.passed (t, n) g.clock } } (Fld.FLT_HTEST_PASSES t)
        else g1.bistFail t n where_
      if asked then g2.testResult (if ok then 3 else 4) else g2))

/-- SELFTEST_DEFER_EXPIRY (R366): the deferred test ends CANCELLED. -/
def execSelftestDeferExpiry (s : State) : Host.Outcome State Fault Refusal :=
  s.on (fun h => h.onDue .stDefer (fun g =>
    if g.test.deferred.isSome then Hub.testResult { g with test := { g.test with deferred := none } } 5 else g))

/-! ### Factory test mode and the die sensor -/

/-- The island that an injected event of a source comes as from: that of the source's page, its first where the page spans
several (log 38). -/
def faultIsland (n : Nat) : Nat :=
  if n ≤ 4 then 3 else if n = 5 then 2 else if n ≤ 10 then 1 else if n ≤ 15 then 4 else if n = 25 then 2 else if n ≤ 26 then 3
  else if n ≤ 31 then 2 else if n ≤ 35 then 14 else if n ≤ 39 then 15 else if n ≤ 41 then 24 else if n ≤ 45 then 25
  else if n ≤ 50 then 23 else if n ≤ 52 then 3 else if n ≤ 55 then 2 else if n ≤ 60 then 3 else if n ≤ 72 then 0
  else if n ≤ 74 then 3 else if n ≤ 76 then 0 else 3

/-- R368: a write of FLT_INJ. -/
def Hub.faultInject (h : Hub) (v : Word) : Hub :=
  let n := (v.extractLsb' 16 7).toNat
  let k := (v.extractLsb' 0 16).toNat
  if h.is Fld.FLT_STATUS_TESTMODE ∧ v.getLsbD 31 ∧ n < 78 ∧ 0 < k then h.raiseK n k true ⟨faultIsland n, 0, 0, 0⟩ else h

/-- FAULT_INJECT (R368). -/
def execFaultInject (req : Req) (v : Word) (s : State) : Host.Outcome State Fault Refusal :=
  s.on (fun h => h.writing req Reg.FLT_INJ (fun g => g.faultInject v))

/-- DIE_TEMP_CROSS (R465): the die sensor reads t (0.1 C); FLT_DIETEMP at 120 C, again only after a fall below 115 C. -/
def execDieTempCross (t : Int) (s : State) : Host.Outcome State Fault Refusal :=
  s.on (fun h =>
    let h1 (hot : Bool) : Hub := { h with aon := { h.aon with dieTemp := t, dieHot := hot } }
    if 1200 ≤ t ∧ !h.aon.dieHot then (h1 true).raise Flt.DIETEMP 0 0 t.toNat 0
    else h1 (h.aon.dieHot && !decide (t < 1150)))

end Sys2Proof.Machine
end

