-- ==== Sys2Proof/Machine/LogRead.lean ====
section
/-! DEFINITION. What a read of the watermark log shows (R370, R381) and which copies are current (R371). -/

namespace Sys2Proof.Machine

/-- What an identity copy holds, as numbers (Table 15.1). -/
def Identity.numbers (i : Identity) : List Nat :=
  [i.hubA, i.ringA, i.hubB, i.ringB, i.incarn, (if i.clean then 1 else 0), i.coolMs, i.coolTj.toNat, (-i.coolTj).toNat, i.tripSeq,
   i.loopCur, i.loopCount] ++ i.resvA ++ [0] ++ i.resvB

/-- The octets of an identity copy; a copy that nothing has written reads 0. -/
def identityOctets (c : Identity × Nat × Nat) : List Byte :=
  if c.2.1 = 0 then []
  else
    let body := (List.range 0xFF0).map (fun k => Config.identityOctet c.1.numbers k)
    body ++ logTrailer body c.2.1 c.2.2

/-- The octet at an offset of the log window (Table 15.1). -/
def Hub.logOctet (h : Hub) (a : Nat) : Byte :=
  if a < 0x1000 then
    if a < 4 then ([0x57#8, 0x4D#8, 0x4C#8, 0x47#8]).getD a 0#8
    else Config.logHeader (leBytes 4 (h.rd Reg.CHIP_SERIAL_LO).toNat ++ leBytes 4 (h.rd Reg.CHIP_SERIAL_HI).toNat) a
  else if a < 0x2000 then (identityOctets h.log.idA).getD (a - 0x1000) 0#8
  else if a < 0x3000 then (identityOctets h.log.idB).getD (a - 0x2000) 0#8
  else Sparse.get zeroByte h.log.mem a

/-- R381: n octets of the log from an offset. -/
def Hub.logOctets (h : Hub) (off n : Nat) : List Byte := (List.range n).map (fun k => h.logOctet (off + k))

/-- R371: GEN of a running copy, none where its CRC fails. -/
def runningGen (m : List Host.Cell) (b : Bool) : Option Nat :=
  let body := memRead m (runningBase b) 0x3FF0
  let t := memRead m (runningBase b + 0x3FF0) 16
  let gen := ofLe (slice t 0 8)
  if logTrailer body gen (ofLe (slice t 8 4)) = t then some gen else none

/-- R371: the current running copy with its GEN, none where no copy is valid. -/
def runningCurrent (m : List Host.Cell) : Option (Bool × Nat) :=
  match runningGen m false, runningGen m true with
  | some a, some b => if a < b then some (true, b) else some (false, a)
  | some a, none => some (false, a)
  | none, some b => some (true, b)
  | none, none => none

/-- The numbers of a table of the memory, w octets each, from an address: the counters and bins of a running copy. -/
def tableOf (m : List Host.Cell) (a w n : Nat) : List (Nat × Nat) :=
  ((List.range n).map (fun i => (i, ofLe (memRead m (a + w * i) w)))).filter (fun e => e.2 != 0)

/-- R377: the journal slots whose CRC holds, as (SEQ, TYPE). -/
def journalValid (m : List Host.Cell) : List (Nat × Nat) :=
  (List.range 1024).filterMap (fun k =>
    let r := memRead m (0xB000 + 32 * k) 32
    if leBytes 4 (crc32c (slice r 0 24 ++ slice r 28 4)).toNat = slice r 24 4 then some (ofLe (slice r 28 4), ofLe (slice r 0 2))
    else none)

/-- R371: the current identity copy, none where nothing has written one. -/
def Log.currentIdentity (l : Log) : Option Identity :=
  if l.idA.2.1 = 0 ∧ l.idB.2.1 = 0 then none
  else if l.idA.2.1 < l.idB.2.1 then some l.idB.1 else some l.idA.1

/-- What a read-back of a trailer leaves where it was wrong (log 9). -/
def Hub.badTrailer (h : Hub) : List Byte := (List.range 16).map (fun k => Config.badTrailer h.draws k)

end Sys2Proof.Machine
end

