-- ==== Sys2Proof/Machine/Service.lean ====
section
/-! DEFINITION. The USB-C service port (R435 to R448) and management sessions (R38). -/

namespace Sys2Proof.Machine

/-! ### The policy engine -/

/-- ROLE of SVC_STATUS: 1 sink, 2 source. -/
def Hub.svcSink (h : Hub) : Bool := h.get Fld.SVC_STATUS_ROLE == 1
/-- ROLE of SVC_STATUS is source. -/
def Hub.svcSource (h : Hub) : Bool := h.get Fld.SVC_STATUS_ROLE == 2
/-- PESTATE (Table 19.4). -/
def Hub.pe (h : Hub) (n : Nat) : Hub := h.set Fld.SVC_STATUS_PESTATE n
/-- Whether PESTATE has a value. -/
def Hub.peIs (h : Hub) (n : Nat) : Bool := h.get Fld.SVC_STATUS_PESTATE == n

/-- Whether an atomic message sequence is in flight (R439): an answer is awaited, or a voltage transition runs. -/
def Hub.svcBusy (h : Hub) : Bool := h.svc.wait.isSome || h.peIs 5

/-- What the engine waits for; SenderResponseTimer runs for it (R440). -/
def Hub.svcAsk (h : Hub) (w : SvcWait) : Hub := Hub.arm { h with svc := { h.svc with wait := some w } } .sender (ms 27)

/-- Every sequence in flight ends. -/
def Hub.svcStop (h : Hub) : Hub :=
  ((((Hub.disarm { h with svc := { h.svc with wait := none, request := none, todo := none, waits := 0 } } .sender).disarm .capWait).disarm
    .sinkRequest).disarm .psTransition).disarm .drp

/-- The explicit contract ends. -/
def Hub.noContract (h : Hub) : Hub := (h.set Fld.SVC_STATUS_CONTRACT 0).wr Reg.SVC_CONTRACT 0

/-- Whether the port may present itself as source, as sink (Table 19.2, R443): source only with entry good. -/
def Hub.svcRoles (h : Hub) : Bool × Bool :=
  (h.is Fld.SVC_CFG_SRCOK && h.is Fld.PWR_STATUS_EGOOD, h.is Fld.SVC_CFG_SNKOK)

/-- The unattached port: it toggles where both roles are open, else presents one role; with none it presents Rd (Table 19.4).
The switches are off. -/
def Hub.svcToggle (h : Hub) : Hub :=
  let r := h.svcRoles
  let h1 : Hub := { h with svc := { h.svc with rp := r.1 && !r.2, srcen := false, snken := false } }
  let h2 := ((h1.set Fld.SVC_STATUS_ATTACHED 0).set Fld.SVC_STATUS_ROLE 0).set Fld.SVC_STATUS_RPLVL 0
  if r.1 && r.2 then (h2.pe 1).arm .drp (us 37500) else h2.pe 0

/-- R437, R444: detachment ends every sequence without a message; in a transition it sets DETXN. -/
def Hub.svcDetach (h : Hub) : Hub :=
  let h1 := if h.peIs 5 then h.evt Fld.SVC_EVT_DETXN else h
  let h2 := h1.svcStop
  ((Hub.noContract { h2 with svc := { h2.svc with hard := 0, busy := false } }).evt Fld.SVC_EVT_DETACH).svcToggle

/-- R440: ErrorRecovery opens CC1 and CC2 for 25 ms. -/
def Hub.svcRecover (h : Hub) : Hub :=
  let h1 := h.svcStop.noContract
  let h2 : Hub := { h1 with svc := { h1.svc with hard := 0, srcen := false, snken := false, busy := false } }
  ((((h2.set Fld.SVC_STATUS_ATTACHED 0).set Fld.SVC_STATUS_ROLE 0).pe 7).evt Fld.SVC_EVT_ERRREC).arm .recovery (ms 25)

/-- FLT_SVCPD. -/
def Hub.svcFault (h : Hub) : Hub := h.raise Flt.SVCPD 0 0 0 0

/-- The source offers its capabilities. -/
def Hub.svcOffer (h : Hub) : Hub := ((h.emit (.pd .sourceCapabilities)).pe 3).svcAsk .caps

/-- After an attachment or a reset the sink waits for Source_Capabilities for 465 ms; the source offers its own. -/
def Hub.svcBegin (h : Hub) : Hub := if h.svcSource then h.svcOffer else h.arm .capWait (ms 465)

/-- R440: a Hard_Reset, sent or received: counted, the contract ends; the second without an explicit contract between leads to
ErrorRecovery. SVC_SNKEN stays as it is. -/
def Hub.svcHard (h : Hub) (sent : Bool) : Hub :=
  let h1 := if sent then h.emit (.pd .hardReset) else h
  let h2 := (((h1.count Reg.SVC_CNT_HARDRST).evt Fld.SVC_EVT_HARDRST).svcFault).svcStop.noContract
  let n := h.svc.hard + 1
  if 2 ≤ n then h2.svcRecover.svcFault else Hub.svcBegin (Hub.pe { h2 with svc := { h2.svc with hard := n } } 6)

/-! ### Requests of the sink -/

/-- Voltage of a fixed PDO in 50 mV units (R8: USB PD 3.1). -/
def pdoVolt (w : Word) : Nat := (w.extractLsb' 10 10).toNat
/-- Current of a fixed PDO in 10 mA units. -/
def pdoCurr (w : Word) : Nat := (w.extractLsb' 0 10).toNat
/-- Whether a received PDO is a fixed one. -/
def pdoFixed (w : Word) : Bool := w != 0#32 && w.extractLsb' 30 2 == 0#2

/-- VMAX in V: 5, 9, 15 or 20, other values the next lower (Table 19.4). -/
def Hub.svcVmax (h : Hub) : Nat :=
  let v := h.get Fld.SVC_SNKCFG_VMAX
  if 20 ≤ v then 20 else if 15 ≤ v then 15 else if 9 ≤ v then 9 else 5
/-- IOP in 10 mA units, held to 50-300. -/
def Hub.svcIop (h : Hub) : Nat := max 50 (min 300 (h.get Fld.SVC_SNKCFG_IOP))

/-- The PDOs last received, at positions 1 to 7. -/
def Hub.svcPdos (h : Hub) : List (Nat × Word) := (List.range 7).map (fun k => (k + 1, h.rd (Reg.SVC_SRCCAP k)))

/-- R438: the engine's own choice: position, current, voltage, Capability Mismatch. -/
def Hub.svcChoice (h : Hub) : Nat × Nat × Nat × Bool :=
  let fits := h.svcPdos.filter (fun p => pdoFixed p.2 && decide (pdoVolt p.2 ≤ 20 * h.svcVmax) && decide (h.svcIop ≤ pdoCurr p.2))
  match fits.foldl (fun (b : Option (Nat × Word)) p => match b with
      | none => some p
      | some q => if pdoVolt q.2 < pdoVolt p.2 then some p else b) none with
  | some p => (p.1, h.svcIop, pdoVolt p.2, false)
  | none =>
    match h.svcPdos.find? (fun p => pdoFixed p.2 && pdoVolt p.2 == 100) with
    | some p => (p.1, min h.svcIop (pdoCurr p.2), 100, true)
    | none => (1, min h.svcIop (pdoCurr (h.rd (Reg.SVC_SRCCAP 0))), 100, true)

/-- A Request is sent. -/
def Hub.svcSend (h : Hub) (r : Nat × Nat × Nat × Bool) : Hub :=
  Hub.svcAsk ((Hub.emit { h with svc := { h.svc with request := some r } } (.pd (.request r.1 r.2.1 r.2.2.2))).pe 3) .answer

/-- R438, R439, R441: a new Request, in place of one that a Wait has put off: the override where EN is set and its index names a received PDO, else the engine's choice. -/
def Hub.svcRequest (h : Hub) : Hub :=
  let n := h.get Fld.SVC_OVRREQ_PDO
  let h1 : Hub := Hub.disarm { h with svc := { h.svc with waits := 0 } } .sinkRequest
  if h.is Fld.SVC_OVRREQ_EN then
    match h.svcPdos.find? (fun p => p.1 == n && p.2 != 0#32) with
    | some p => h1.svcSend (n, h.get Fld.SVC_OVRREQ_CURR, pdoVolt p.2, false)
    | none => (h1.evt Fld.SVC_EVT_OVRBAD).svcSend h.svcChoice
  else h1.svcSend h.svcChoice

/-- R439: what a command of SVC_OVR does: 1 RENEGOTIATE, 2 HARDRESET, 3 ERRORRECOVERY. -/
def Hub.svcCommand (h : Hub) (cmd : Nat) : Hub :=
  if !h.is Fld.SVC_STATUS_ATTACHED then h
  else if cmd = 1 then (if h.svcSink && h.svcPdos.any (fun p => p.2 != 0#32) then h.svcRequest else h)
  else if cmd = 2 then h.svcHard true
  else if cmd = 3 then h.svcRecover
  else h

/-- An atomic sequence has ended: a command that waited for its end is carried out (R439). -/
def Hub.svcDone (h : Hub) : Hub :=
  match h.svc.todo with
  | some c => Hub.svcCommand { h with svc := { h.svc with todo := none } } c
  | none => h

/-- The engine has what it waited for. -/
def Hub.svcAnswered (h : Hub) : Hub := Hub.disarm { h with svc := { h.svc with wait := none } } .sender

/-- The contract in force stays: PESTATE ready where there is one. -/
def Hub.svcKeep (h : Hub) : Hub := Hub.pe { h with svc := { h.svc with request := none } } (if h.is Fld.SVC_STATUS_CONTRACT then 4 else 2)

/-! ### Attachment -/

/-- The port attaches in a role. -/
def Hub.svcAttach (h : Hub) (sink cc2 : Bool) (rplvl : Nat) : Hub :=
  let h1 : Hub := { h.svcStop with svc := { h.svcStop.svc with hard := 0, srcen := !sink, snken := sink } }
  let h2 := ((((h1.set Fld.SVC_STATUS_ATTACHED 1).set Fld.SVC_STATUS_ROLE (if sink then 1 else 2)).flag Fld.SVC_STATUS_CCPOL cc2).set
    Fld.SVC_STATUS_RPLVL (if sink then rplvl else 0)).evt Fld.SVC_EVT_ATTACH
  ((h2.logCount 145 1).pe 2).svcBegin

/-- CC_ATTACH (R437, R435): a partner has been seen on CC for 150 ms; an accessory is counted and not attached to; a port that
would be source attaches as sink where TRYSNK is set and the partner can source. -/
def execCcAttach (cc2 : Bool) (rplvl : Fin 3) (accessory canSource : Bool) (s : State) : Host.Outcome State Fault Refusal :=
  s.on (fun h =>
    if h.is Fld.SVC_STATUS_ATTACHED ∨ h.peIs 7 ∨ !h.aon.up then h
    else if accessory then h.count Reg.SVC_CNT_ACC
    else
      let try_ := h.svc.rp && h.is Fld.SVC_CFG_TRYSNK && h.is Fld.SVC_CFG_SNKOK && canSource
      h.svcAttach (!h.svc.rp || try_) cc2 rplvl.val)

/-- CC_DETACH (R437): CC has been open for 15 ms. -/
def execCcDetach (s : State) : Host.Outcome State Fault Refusal :=
  s.on (fun h => if h.is Fld.SVC_STATUS_ATTACHED then h.svcDetach else h)

/-- VBUS_DETACH (R437, R444, R440): VBUS has stayed below 3.67 V for 15 ms; not in a transition nor through a Hard_Reset. -/
def execVbusDetach (s : State) : Host.Outcome State Fault Refusal :=
  s.on (fun h => if h.is Fld.SVC_STATUS_ATTACHED ∧ h.svcSink ∧ !h.peIs 5 ∧ !h.peIs 6 then h.svcDetach else h)

/-- DRP_TOGGLE (R435): every half of tDRP a toggling port presents the other role. -/
def execDrpToggle (s : State) : Host.Outcome State Fault Refusal :=
  s.on (fun h => h.onDue .drp (fun g =>
    if g.peIs 1 then
      (if g.svcRoles.1 && g.svcRoles.2 then Hub.arm { g with svc := { g.svc with rp := !g.svc.rp } } .drp (us 37500) else g.svcToggle)
    else g))

/-! ### Messages -/

/-- PD_SOURCE_CAPS_RX (R438): the sink notes the PDOs and requests its choice. -/
def execPdSourceCapsRx (pdos : List Word) (s : State) : Host.Outcome State Fault Refusal :=
  s.on (fun h =>
    if h.svcSink then
      let h1 := (List.range 7).foldl (fun (g : Hub) k => g.wr (Reg.SVC_SRCCAP k) (pdos.getD k 0#32)) h
      (h1.disarm .capWait).svcRequest
    else h)

/-- PD_REQUEST_RX (R438): the source accepts a Request within its PDO, 5 V and 1.5 A at position 1, and rejects every other. -/
def execPdRequestRx (pdo : Fin 8) (curr : BitVec 10) (s : State) : Host.Outcome State Fault Refusal :=
  s.on (fun h =>
    if h.svcSource then
      let h1 := h.svcAnswered
      if pdo = 1 ∧ curr.toNat ≤ 150 then
        let h2 := (((h1.emit (.pd .accept)).emit (.pd .psRdy)).set Fld.SVC_STATUS_CONTRACT 1).pe 4
        Hub.svcDone { ((h2.set Fld.SVC_CONTRACT_VOLT 100).set Fld.SVC_CONTRACT_CURR curr.toNat) with svc := { h2.svc with hard := 0 } }
      else ((h1.emit (.pd .reject)).svcKeep).svcDone
    else h)

/-- PD_ACCEPT_RX (R444, R440): of a Request, the transition begins and VBUS-based detach is suspended; of a Soft_Reset, the
sequence starts afresh. -/
def execPdAcceptRx (s : State) : Host.Outcome State Fault Refusal :=
  s.on (fun h =>
    match h.svc.wait with
    | some .answer => (h.svcAnswered.pe 5).arm .psTransition (ms 500)
    | some .soft => (h.svcAnswered.pe 2).svcBegin
    | _ => h)

/-- PD_REJECT_RX (R438): the contract in force stays. -/
def execPdRejectRx (s : State) : Host.Outcome State Fault Refusal :=
  s.on (fun h => if h.svc.wait = some .answer then (h.svcAnswered.svcKeep).svcDone else h)

/-- PD_WAIT_RX (R441). -/
def execPdWaitRx (s : State) : Host.Outcome State Fault Refusal :=
  s.on (fun h =>
    if h.svc.wait = some .answer then
      let h1 := h.svcAnswered.count Reg.SVC_CNT_WAIT
      if !h.is Fld.SVC_CFG_WAITMODE ∧ h.svc.waits < max 1 (h.get Fld.SVC_CFG_WAITMAX) then
        (Hub.arm { h1 with svc := { h1.svc with waits := h.svc.waits + 1 } } .sinkRequest (ms 100)).svcDone
      else ((h1.evt Fld.SVC_EVT_WAITGIVEUP).svcKeep).svcDone
    else h)

/-- WAIT_RETRY (R441): 100 ms after a Wait the Request is repeated. -/
def execWaitRetry (s : State) : Host.Outcome State Fault Refusal :=
  s.on (fun h => h.onDue .sinkRequest (fun g =>
    match g.svc.request with
    | some r => if g.svcSink ∧ g.svc.wait = none then g.svcSend r else g
    | none => g))

/-- PD_PS_RDY_RX (R444): the transition is complete and the new contract in force. -/
def execPdPsRdyRx (s : State) : Host.Outcome State Fault Refusal :=
  s.on (fun h =>
    match h.svc.request with
    | some r =>
      if h.peIs 5 then
        let h1 := (((h.disarm .psTransition).set Fld.SVC_STATUS_CONTRACT 1).set Fld.SVC_CONTRACT_VOLT r.2.2.1).set Fld.SVC_CONTRACT_CURR r.2.1
        (Hub.pe { h1 with svc := { h1.svc with request := none, hard := 0, snken := true } } 4).svcDone
      else h
    | none => h)

/-- PS_TRANSITION_TIMEOUT (R444). -/
def execPsTransitionTimeout (s : State) : Host.Outcome State Fault Refusal :=
  s.on (fun h => h.onDue .psTransition (fun g => g.svcHard true))

/-- An attached port answers a message. -/
def Hub.svcReply (h : Hub) (m : PdMsg) : Hub := if h.is Fld.SVC_STATUS_ATTACHED then h.emit (.pd m) else h

/-- PD_GET_SOURCE_CAP_RX (R435). -/
def execPdGetSourceCapRx (s : State) : Host.Outcome State Fault Refusal := s.on (fun h => h.svcReply .sourceCapabilities)
/-- PD_GET_SINK_CAP_RX (R435). -/
def execPdGetSinkCapRx (s : State) : Host.Outcome State Fault Refusal := s.on (fun h => h.svcReply .sinkCapabilities)
/-- PD_ROLE_SWAP_RX (R435): Reject. -/
def execPdRoleSwapRx (s : State) : Host.Outcome State Fault Refusal := s.on (fun h => h.svcReply .reject)
/-- PD_UNSUPPORTED_RX (R435): Not_Supported. -/
def execPdUnsupportedRx (s : State) : Host.Outcome State Fault Refusal := s.on (fun h => h.svcReply .notSupported)

/-- PD_SOFT_RESET_RX (R440, Table 19.2): accepted and counted; the sequence starts afresh. -/
def execPdSoftResetRx (s : State) : Host.Outcome State Fault Refusal :=
  s.on (fun h =>
    if h.is Fld.SVC_STATUS_ATTACHED then
      ((((h.svcStop.emit (.pd .accept)).count Reg.SVC_CNT_SOFTRST).evt Fld.SVC_EVT_SOFTRST).pe 2).svcBegin
    else h)

/-- PD_HARD_RESET_RX (R440). -/
def execPdHardResetRx (s : State) : Host.Outcome State Fault Refusal :=
  s.on (fun h => if h.is Fld.SVC_STATUS_ATTACHED then h.svcHard false else h)

/-- SENDER_RESPONSE_TIMEOUT (R440): Soft_Reset; where the Soft_Reset found no Accept, Hard_Reset. -/
def execSenderResponseTimeout (s : State) : Host.Outcome State Fault Refusal :=
  s.on (fun h => h.onDue .sender (fun g =>
    if g.svc.wait = some .soft then g.svcHard true
    else
      let g1 := ((g.count Reg.SVC_CNT_NOREPLY).count Reg.SVC_CNT_SOFTRST).evt Fld.SVC_EVT_SOFTRST
      (g1.svcFault.emit (.pd .softReset)).svcAsk .soft))

/-- SINK_WAIT_CAP_TIMEOUT (R440). -/
def execSinkWaitCapTimeout (s : State) : Host.Outcome State Fault Refusal :=
  s.on (fun h => h.onDue .capWait (fun g => if g.svcSink then g.svcHard true else g))

/-- ERROR_RECOVERY_END (R440). -/
def execErrorRecoveryEnd (s : State) : Host.Outcome State Fault Refusal :=
  s.on (fun h => h.onDue .recovery (fun g => if g.peIs 7 then g.svcToggle else g))

/-! ### Protection -/

/-- The voltage of the contract in mV; vSafe5V without one. -/
def Hub.svcMv (h : Hub) : Nat := if h.is Fld.SVC_STATUS_CONTRACT then 50 * h.get Fld.SVC_CONTRACT_VOLT else 5000

/-- VBUS_OVERVOLTAGE (R443): as sink, VBUS has exceeded the contract by 10 % for 10 us. -/
def execVbusOvervoltage (mv : Nat) (s : State) : Host.Outcome State Fault Refusal :=
  s.on (fun h =>
    if h.svcSink ∧ 11 * h.svcMv < 10 * mv then
      let h1 : Hub := { h with svc := { h.svc with snken := false } }
      ((h1.raise Flt.SVCFAULT 0 0 1 mv).evt Fld.SVC_EVT_VBUSOV).svcHard true
    else h)

/-- SOURCE_OCP (R443): as source, SVC_OCP_N has been low for 1 ms. -/
def execSourceOcp (s : State) : Host.Outcome State Fault Refusal :=
  s.on (fun h =>
    if h.svcSource then
      let h1 : Hub := { h with svc := { h.svc with srcen := false } }
      ((h1.raise Flt.SVCFAULT 0 0 2 0).evt Fld.SVC_EVT_SRCOCP).svcRecover
    else h)

/-! ### Firmware commands -/

/-- R439: a write of SVC_OVR, from a secure request alone; during an atomic sequence it waits for its end. -/
def Hub.svcOverride (h : Hub) (req : Req) (v : Word) : Hub :=
  if h.preSeal req then h.countPreSeal
  else if !req.secure then h.refuseWorld req Reg.SVC_OVR
  else if v.extractLsb' 8 8 ≠ 0x69#8 then h
  else
    let cmd := (v.extractLsb' 0 2).toNat
    if cmd = 0 then h
    else if h.svcBusy then { h with svc := { h.svc with todo := some cmd } }
    else h.svcCommand cmd

/-- SVC_RENEGOTIATE (R439). -/
def execSvcRenegotiate (req : Req) (s : State) : Host.Outcome State Fault Refusal := s.on (fun h => h.svcOverride req 0x6901#32)
/-- SVC_HARDRESET (R439). -/
def execSvcHardreset (req : Req) (s : State) : Host.Outcome State Fault Refusal := s.on (fun h => h.svcOverride req 0x6902#32)
/-- SVC_ERRORRECOVERY (R439). -/
def execSvcErrorrecovery (req : Req) (s : State) : Host.Outcome State Fault Refusal := s.on (fun h => h.svcOverride req 0x6903#32)

/-! ### Management over the port -/

/-- An answer goes to whoever asked; the service port is then free for its next request (R445). -/
def Hub.answer (h : Hub) (o : Origin) (a : ApiAnswer) : Hub :=
  let h1 := h.emit (.answer o a)
  if o = .service then { h1 with svc := { h1.svc with busy := false } } else h1

/-- R445: a Vendor_Defined_Extended request reaches an attached port; what answers it where none is held. -/
def Hub.svcVdm (h : Hub) (f : Hub → Hub) : Hub :=
  if !h.is Fld.SVC_STATUS_ATTACHED then h
  else
    let h1 := h.count Reg.SVC_CNT_VDEM
    if h.svc.busy then h1.emit (.answer .service .refuseBusy) else f h1

/-- A request is passed to Ploia, which answers it (DEDUCED, log 158). -/
def Hub.svcPass (h : Hub) (data : List Byte) : Hub := Hub.emit { h with svc := { h.svc with busy := true } } (.octets 2 [] data)

/-- SVC_VDM_REQUEST (R445 to R447): a request that is neither IDENT nor LOGREAD: passed to Ploia, or refused NOTREADY. -/
def execSvcVdmRequest (data : List Byte) (s : State) : Host.Outcome State Fault Refusal :=
  s.on (fun h => h.svcVdm (fun g => if g.is Fld.SVC_STATUS_PLOIA then g.svcPass data else g.answer .service .refuseNotReady))

/-- R446: what IDENT returns. -/
def Hub.identData (h : Hub) : List Byte :=
  [h.rd Reg.CHIP_ID, h.rd Reg.CHIP_REV, h.rd Reg.CHIP_SERIAL_LO, h.rd Reg.CHIP_SERIAL_HI, h.aon.reamLatch].flatMap (fun w => leBytes 4 w.toNat)

/-- SVC_IDENT (R446). -/
def execSvcIdent (s : State) : Host.Outcome State Fault Refusal :=
  s.on (fun h => h.svcVdm (fun g => if g.is Fld.SVC_STATUS_PLOIA then g.svcPass [] else g.answer .service (.data g.identData)))

/-- SVC_LOGREAD (R446, R381). -/
def execSvcLogread (off len : Nat) (s : State) : Host.Outcome State Fault Refusal :=
  s.on (fun h => h.svcVdm (fun g =>
    if g.is Fld.SVC_STATUS_PLOIA then g.svcPass []
    else if 1 ≤ len ∧ len ≤ 256 ∧ off + len ≤ 0x40000 then g.answer .service (.data (g.logOctets off len))
    else g.answer .service .refuseNotReady))

/-- R38: whether one API version is below another. -/
def verBelow (a b : Nat × Nat) : Bool := decide (a.1 < b.1) || (decide (a.1 = b.1) && decide (a.2 < b.2))

/-- MGMT_SESSION_OPEN (R38): the lower of the requester's version and 2.3, or VERSION below 2.0. -/
def execMgmtSessionOpen (req : Req) (major minor : BitVec 8) (s : State) : Host.Outcome State Fault Refusal :=
  s.on (fun h =>
    if h.halted then h
    else
      let v := (major.toNat, minor.toNat)
      let r := if verBelow v (2, 3) then v else (2, 3)
      if verBelow r (2, 0) then h.answer req.origin .refuseVersion
      else
        let h1 : Hub := { h with svc := { h.svc with sessions := Assoc.put h.svc.sessions req.origin r } }
        h1.answer req.origin (.version r.1 r.2))

/-- R446: PLOIA changes; the sessions opened over the port end. -/
def Hub.setPloia (h : Hub) (b : Bool) : Hub :=
  if h.is Fld.SVC_STATUS_PLOIA = b then h
  else
    let h1 : Hub := { h with svc := { h.svc with sessions := Assoc.del h.svc.sessions .service, busy := h.svc.busy && b },
                             aon := { h.aon with reamLatch := h.rd Reg.REAM_STATUS } }
    h1.flag Fld.SVC_STATUS_PLOIA b

/-- MGMT_HALT (R35): servo, audit, flushes and management service stop; FLT_MGMTHALT is raised. -/
def execMgmtHalt (s : State) : Host.Outcome State Fault Refusal :=
  s.on (fun h =>
    if h.halted then h
    else
      let h1 : Hub := { h with halted := true, svc := { h.svc with sessions := [] }, log := { h.log with merged := [] } }
      (((h1.setPloia false).disarm .flushInterval).disarm .mergedFlush).raise Flt.MGMTHALT 3 0 0 0)

end Sys2Proof.Machine
end

