-- ==== Sys2Proof/Machine/SupplyOps.lean ====
section
/-! DEFINITION. What the sequencer and the supervisor do (R417 to R427), shared by the power entry and the supply events. -/

namespace Sys2Proof.Machine

/-- R403, R434: a RWS field of the PWR_ page as it is in force: as written while the hub is sealed, else its reset value. -/
def Hub.pwr (h : Hub) (f : Field) : Nat := if h.sealed_ then h.get f else f.of (regReset f.reg)

/-- Power-good. -/
def Hub.pgood (h : Hub) : Bool := h.is Fld.PWR_SUPSTAT_PGOOD

/-- R419: the sequencer starts: entry good, nothing enabled, no attempt or power-down under way, not HALTED. -/
def Hub.seqStart (h : Hub) : Hub :=
  if h.is Fld.PWR_STATUS_EGOOD ∧ h.aon.rails = 0 ∧ !h.aon.dropping ∧ !h.is Fld.PWR_SUPSTAT_HALTED ∧ !h.armed .seqRetry ∧
      !h.armed .resequence then
    Hub.arm { h with aon := { h.aon with rails := 1 } } .railTimeout (ms 10)
  else h

/-- R427: one enable is dropped, the next after 100 us; power-good clears with the first drop. -/
def Hub.dropRail (h : Hub) : Hub :=
  let n := h.aon.rails - 1
  let h1 := Hub.set { h with aon := { h.aon with rails := n, dropping := decide (0 < n), goodAt := none } } Fld.PWR_SUPSTAT_PGOOD 0
  if 0 < n then h1.arm .powerStep (us 100) else h1.disarm .powerStep

/-- R427: the rails power down; a warning in force ends with the chip reset (log 40). -/
def Hub.powerDown (h : Hub) : Hub :=
  let h1 := ((h.set Fld.PWR_SUPSTAT_SUPWARN 0).set Fld.PWR_SUPSTAT_DEFER 0).disarm .clrHold
  let h2 := (h1.disarm .railTimeout).disarm .egrst
  if h2.aon.rails = 0 ∨ h2.aon.dropping then h2 else h2.dropRail

/-- R420: a failed attempt counts; the third in a row halts the sequencer. -/
def Hub.attemptFails (h : Hub) : Hub :=
  let n := min 3 (h.get Fld.PWR_SUPSTAT_ATTEMPT + 1)
  (h.set Fld.PWR_SUPSTAT_ATTEMPT n).flag Fld.PWR_SUPSTAT_HALTED (decide (3 ≤ n))

/-- R424: whether every condition for the end of a warning holds. -/
def Hub.warnClear (h : Hub) : Bool :=
  decide (h.get Fld.PWR_SUPSTAT_WARN = 0) && !(h.rd Reg.PWR_SUPSTAT).getLsbD 20 && h.is Fld.PWR_STATUS_EGOOD

/-- R422: a supply warning begins where none is in force and power-good is set. -/
def Hub.warnBegin (h : Hub) : Hub :=
  if !h.pgood ∨ h.is Fld.PWR_SUPSTAT_SUPWARN then h
  else
    let h1 := (h.set Fld.PWR_SUPSTAT_SUPWARN 1).set Fld.PWR_SUPSTAT_DEFER 1
    let h2 := ((h1.evt Fld.PWR_SUPEVT_WARN).count Reg.PWR_CNT_WARN).logCount 136 1
    let h3 := Hub.journalLater { h2 with aon := { h2.aon with warnFrom := h.clock, recross := h.clock } } 3 0 0
    (h3.raise Flt.SUPWARN 0 0 0 0).orderFlush .warning

/-- R426, R422, R443, R420: entry good falls. -/
def Hub.egoodFall (h : Hub) : Hub :=
  if h.is Fld.PWR_STATUS_EGOOD then
    let h1 := ((h.set Fld.PWR_STATUS_EGOOD 0).set Fld.PWR_SUPSTAT_HALTED 0).set Fld.PWR_SUPSTAT_ATTEMPT 0
    let h2 := ((h1.disarm .retryReset).disarm .clrHold).warnBegin.arm .egrst (ms (max 1 (h.pwr Fld.PWR_SUPCFG_EGRST)))
    if h2.svcSource then h2.svcRecover
    else if h2.peIs 0 ∨ h2.peIs 1 then h2.svcToggle else h2
  else h

/-- R415, R419: entry good is 1; the sequencer starts where it is idle, the unattached port may toggle. -/
def Hub.egoodRise (h : Hub) : Hub :=
  let h1 := h.set Fld.PWR_STATUS_EGOOD 1
  let h2 := if h1.peIs 0 ∨ h1.peIs 1 then h1.svcToggle else h1
  (h2.disarm .egrst).seqStart

/-- R423: whether non-volatile writes are deferred. -/
def Hub.deferred (h : Hub) : Bool := h.is Fld.PWR_SUPSTAT_DEFER

end Sys2Proof.Machine
end

