-- ==== Sys2Proof/Machine/Power.lean ====
section
/-! DEFINITION. The power entry (R399 to R416): feeds, window, hot-swap FET, thermal model, off-times. Voltages at the pins are
in mV, VSNS in uV. -/

namespace Sys2Proof.Machine

/-- The states of Table 17.3. -/
inductive PwrState where
  | off | qualify | ramp | on | cool | latched
deriving DecidableEq, Repr

/-- The coding of PWR_STATUS.STATE. -/
def PwrState.code : PwrState → Nat
  | .off => 0 | .qualify => 1 | .ramp => 2 | .on => 3 | .cool => 4 | .latched => 5

/-- The state that a code names. -/
def PwrState.ofCode : Nat → PwrState
  | 1 => .qualify | 2 => .ramp | 3 => .on | 4 => .cool | 5 => .latched | _ => .off

/-- The state of the power entry. -/
def Hub.pst (h : Hub) : PwrState := PwrState.ofCode (h.get Fld.PWR_STATUS_STATE)
/-- The power entry takes a state. -/
def Hub.setPst (h : Hub) (st : PwrState) : Hub := h.set Fld.PWR_STATUS_STATE st.code
/-- Whether the FET is on: RAMP or ON. -/
def Hub.fetOn (h : Hub) : Bool := h.pst == .ramp || h.pst == .on

/-! ### Effective values (R403) -/

/-- VLIM in mV: the lower of the pin value and VLIM_R. -/
def Hub.vlim (h : Hub) : Nat := min (h.get Fld.PWR_PIN1_VLIM_P) (h.pwr Fld.PWR_LIM_VLIM_R)
/-- PLIM in mV V: the lower of the pin value and PLIM_R. -/
def Hub.plim (h : Hub) : Nat := min (h.get Fld.PWR_PIN1_PLIM_P) (h.pwr Fld.PWR_LIM_PLIM_R)
/-- R407: the fast-trip threshold in uV: the higher of FTRIP, held to 25-200 mV, and 1.5 times VLIM. -/
def Hub.ftrip (h : Hub) : Nat := max (1000 * max 25 (min 200 (h.pwr Fld.PWR_CFG_FTRIP))) (1500 * h.vlim)
/-- R406: VLIMF in uV for a VDS in mV, PLIM / VDS clamped into VLIM / 8 to VLIM. -/
def Hub.vlimf (h : Hub) (vds : Nat) : Nat :=
  let v := 1000 * h.vlim
  if vds = 0 then v else max (v / 8) (min v (1000000 * h.plim / vds))
/-- R406: whether VLIMF lies at a bound. -/
def Hub.atBound (h : Hub) (vds : Nat) : Bool := h.vlimf vds == 1000 * h.vlim || h.vlimf vds == 1000 * h.vlim / 8
/-- TMAX in 0.1 C. -/
def Hub.tmax (h : Hub) : Int := 10 * (h.pwr Fld.PWR_FETM2_TMAX : Int)
/-- TRESTART in 0.1 C. -/
def Hub.trestart (h : Hub) : Int := 10 * (h.pwr Fld.PWR_FETM2_TRESTART : Int)
/-- TAMB in 0.1 C, signed. -/
def Hub.tamb (h : Hub) : Int := 10 * (BitVec.ofNat 8 (h.pwr Fld.PWR_FETM2_TAMB)).toInt
/-- R409: TJ in 0.1 C. -/
def Hub.tj (h : Hub) : Int := h.entry.tref + (h.entry.d1 + h.entry.d2) / 100000000000

/-- The comparators and the ream thresholds together: whether the window is open (R401, R403). -/
def Hub.windowOpen (h : Hub) : Bool := h.entry.uvOk && h.entry.ovOk && h.entry.uvR && !h.entry.ovR

/-! ### The states of Table 17.3 -/

/-- R404: the insertion delay: 100 ms, INSDLY within its limits after seal. -/
def Hub.insertionDelay (h : Hub) : Nat := ms (max 100 (min 4000 (h.pwr Fld.PWR_CFG_INSDLY)))

/-- OFF with the window open qualifies (Table 17.3). -/
def Hub.qualify (h : Hub) : Hub :=
  if h.pst = .off ∧ h.windowOpen then (h.setPst .qualify).arm .insertion h.insertionDelay else h

/-- R405: the FET is switched on: RAMP, with 500 ms to reach ON (R408). -/
def Hub.rampStart (h : Hub) : Hub :=
  Hub.arm (Hub.arm { h.setPst .ramp with entry := { h.entry with stress := 0, peak := 0 } } .ramp (ms 500)) .rampOn (ms 1)

/-- R31, R406: FLT_FOLDSAT is released after VLIMF has stayed off its bounds for 1 s; with the FET off the loop has no VLIMF at a bound
(log 150). -/
def Hub.foldWatch (h : Hub) (vds : Nat) : Hub :=
  if !h.entry.foldHeld then h
  else if h.fetOn ∧ h.atBound vds then h.disarm .foldsat
  else if h.armed .foldsat then h
  else h.arm .foldsat (ms 1000)

/-- The FET is off: regulation, fault timer and RAMP end. -/
def Hub.fetOff (h : Hub) : Hub :=
  Hub.foldWatch ((((((h.set Fld.PWR_STATUS_REG 0).disarm .tflt).disarm .ramp).disarm .rampOn).disarm .retryReset).egoodFall) h.entry.vds

/-- PWR_LAST: cause and peak VSNS in 10 uV. -/
def Hub.pwrLast (h : Hub) (cause : Nat) : Hub :=
  (h.set Fld.PWR_LAST_CAUSE cause).set Fld.PWR_LAST_PEAK (min 65535 (h.entry.peak / 10))

/-- R412: the owed off-time, TJ and the record's SEQ go into the identity copies. -/
def Hub.owe (h : Hub) (offMs : Nat) : Hub :=
  h.identityChange { h.log.ident with coolMs := offMs, coolTj := h.tj, tripSeq := (h.rd Reg.LOG_JSEQ).toNat - 1 }

/-- R414: of a turn-off's cause and a fault timer that has run out with it, the lower code. -/
def Hub.lowestCause (h : Hub) (cause : Nat) : Nat :=
  if h.is Fld.PWR_STATUS_REG ∧ h.due .tflt then min 2 cause else cause

/-- R411, R412, R414: a turn-off enters COOL with its off-time of max(1,000 ms, 100 S). -/
def Hub.coolEnter (h : Hub) (cause : Nat) : Hub :=
  let off := max (ms 1000) (us (100 * h.entry.stress))
  let c := h.lowestCause cause
  let h1 := ((h.setPst .cool).pwrLast c).journalDirect 5 c h.entry.peak
  ((h1.owe (off / ms 1)).arm .offTime off).fetOff

/-- R414: the window breaks with the FET on: no off-time; over-voltage is recorded as cause 5, with nothing owed (log 41). -/
def Hub.windowOff (h : Hub) (ov : Bool) : Hub :=
  let h1 := (h.raise Flt.PWRUVOV 0 (if ov then 1 else 0) 0 0).evt Fld.PWR_EVT_UVOV
  let h2 := if ov then (((h1.pwrLast 5).journalDirect 5 5 h.entry.peak).owe 0) else h1
  (h2.setPst .off).fetOff

/-- R411: nothing is owed and TJ is at or below TRESTART. -/
def Hub.cooled (h : Hub) : Bool := !h.armed .offTime && decide (h.tj ≤ h.trestart)

/-- Whether the FET may start: nothing owed, TJ at or below TRESTART, PINERR clear (R402). -/
def Hub.mayStart (h : Hub) : Bool := h.cooled && !h.is Fld.PWR_PIN1_PINERR

/-- QUALIFY or COOL goes on once its conditions hold (Table 17.3, R411). -/
def Hub.pwrNext (h : Hub) : Hub :=
  if h.pst = .qualify then (if !h.armed .insertion ∧ h.mayStart then h.rampStart else h)
  else if h.pst = .cool then
    let n := h.get Fld.PWR_STATUS_RETRIES
    let m := h.pwr Fld.PWR_CFG_RETRYMAX
    if !h.cooled then h
    else if m ≠ 0 ∧ m ≤ n then
      (if h.entry.uvOk then (h.setPst .latched).evt Fld.PWR_EVT_LATCH else (h.setPst .off).set Fld.PWR_STATUS_RETRIES 0)
    else if !h.windowOpen then h.setPst .off
    else if h.is Fld.PWR_PIN1_PINERR then h
    else (((h.set Fld.PWR_STATUS_RETRIES (min 255 (n + 1))).count Reg.PWR_CNT_RETRY).logCount 140 1).rampStart
  else h

/-- The window has opened or broken (R401, R403, Table 17.3); ov tells whether the upper limit broke it. -/
def Hub.windowJudge (h : Hub) : Hub :=
  if h.windowOpen then h.qualify
  else if h.pst = .qualify then (h.setPst .off).disarm .insertion
  else if h.fetOn then h.windowOff (!h.entry.ovOk || h.entry.ovR)
  else if h.pst = .latched ∧ !h.entry.uvOk then (h.setPst .off).set Fld.PWR_STATUS_RETRIES 0
  else h

/-! ### Feeds and the ADC -/

/-- R400, R399: FLT_PWRFEED. -/
def Hub.feedFault (h : Hub) (b : Bool) : Hub := (h.raise Flt.PWRFEED 0 (if b then 1 else 0) 0 0).evt Fld.PWR_EVT_FEED

/-- A bit of PWR_STATUS.FEED: present 0 A, 1 B; conducting 2 A, 3 B. -/
def feedBit (k : Nat) : Field := ⟨Reg.PWR_STATUS, 24 + k, 1⟩

/-- R403: the ream's under-voltage threshold with 1.0 V hysteresis, two samples to break; the count and the view. -/
def Hub.reamUv (h : Hub) (fbus : Nat) : Nat × Bool :=
  let r := 100 * h.pwr Fld.PWR_WIN_UV_R
  if r ≤ fbus then (0, true)
  else if h.entry.uvR ∧ fbus + 1000 < r then (if h.entry.uvLow + 1 ≥ 2 then (0, false) else (h.entry.uvLow + 1, true))
  else (0, h.entry.uvR)

/-- R403: the ream's over-voltage threshold, one sample. -/
def Hub.reamOv (h : Hub) (fbus : Nat) : Bool :=
  let r := 100 * h.pwr Fld.PWR_WIN_OV_R
  if r < fbus then true else if fbus + 1000 < r then false else h.entry.ovR

/-- R400: one sample of the power-entry ADC. -/
def Hub.adcSample (h : Hub) (fa fb fbus vout : Nat) : Hub :=
  let ten (v : Nat) : Nat := min 65535 (v / 10)
  let h1 := (((h.set Fld.PWR_MEAS0_FA (ten fa)).set Fld.PWR_MEAS0_FB (ten fb)).set Fld.PWR_MEAS1_VBUS (ten fbus)).set
    Fld.PWR_MEAS1_VOUT (ten vout)
  let a := decide (8000 ≤ fa)
  let b := decide (8000 ≤ fb)
  let h2 := if h.is (feedBit 0) ∧ !a ∧ b then h1.feedFault false else h1
  let h3 := if h.is (feedBit 1) ∧ !b ∧ a then h2.feedFault true else h2
  let h4 := (h3.flag (feedBit 0) a).flag (feedBit 1) b
  let h5 := (h4.onDue (.rev false) (fun g => g.feedFault false)).onDue (.rev true) (fun g => g.feedFault true)
  let u := h.reamUv fbus
  Hub.windowJudge { h5 with entry := { h5.entry with uvLow := u.1, uvR := u.2, ovR := h.reamOv fbus } }

/-- PE_ADC_SAMPLE (R400, R403). -/
def execPeAdcSample (fa fb fbus vout : Nat) (s : State) : Host.Outcome State Fault Refusal :=
  s.on (fun h => if h.aon.up then h.onPeriod .adc (us 10) (fun g => g.adcSample fa fb fbus vout) else h)

/-- FEED_REVERSE (R399, R400): the gate is turned off; one that stays off for more than 1 ms raises FLT_PWRFEED. -/
def execFeedReverse (b : Bool) (s : State) : Host.Outcome State Fault Refusal :=
  s.on (fun h =>
    if !h.aon.up ∨ !(if b then h.entry.gateB else h.entry.gateA) then h
    else
      let h1 : Hub := { h with entry := if b then { h.entry with gateB := false } else { h.entry with gateA := false } }
      ((h1.count (if b then Reg.PWR_CNT_REVB else Reg.PWR_CNT_REVA)).flag (feedBit (if b then 3 else 2)) false).arm (.rev b) (ms 1 + 1))

/-- FEED_FORWARD_RESUME (R399): the source has exceeded FBUS for 10 us; the gate is driven again. -/
def execFeedForwardResume (b : Bool) (s : State) : Host.Outcome State Fault Refusal :=
  s.on (fun h =>
    if h.aon.up then
      let h1 : Hub := { h with entry := if b then { h.entry with gateB := true } else { h.entry with gateA := true } }
      (h1.flag (feedBit (if b then 3 else 2)) true).disarm (.rev b)
    else h)

/-! ### Pins and window -/

/-- R402: a window threshold in 0.1 V, from simultaneous samples in mV; it holds at 1,023. -/
def pinWindow (fbus pin : Nat) : Nat := if pin = 0 then 1023 else min 1023 (12 * fbus / pin)

/-- R402: the values that the pins set; a resistor out of its range sets PINERR, and the last valid values stay. -/
def Hub.pinDerive (h : Hub) (p : PinSense) : Hub :=
  let bad := decide (p.ilim < 4000 ∨ 40000 < p.ilim ∨ p.plim < 2500 ∨ 50000 < p.plim)
  let h1 := (h.set Fld.PWR_PIN0_UV_P (pinWindow p.fbus p.uv)).set Fld.PWR_PIN0_OV_P (pinWindow p.fbus p.ov)
  let h2 := if bad then (if h.is Fld.PWR_PIN1_PINERR then h1 else (h1.raise Flt.PWRUVOV 0 2 p.ilim p.plim).evt Fld.PWR_EVT_UVOV)
    else (h1.set Fld.PWR_PIN1_VLIM_P (p.ilim / 400)).set Fld.PWR_PIN1_PLIM_P (p.plim / 100)
  h2.flag Fld.PWR_PIN1_PINERR bad

/-- PIN_DERIVE (R402): every 1 s. -/
def execPinDerive (p : PinSense) (s : State) : Host.Outcome State Fault Refusal :=
  s.on (fun h => if h.aon.up then h.onPeriod .pins (ms 1000) (fun g => (g.pinDerive p).pwrNext) else h)

/-- UVOV_WINDOW_CHANGE (R401, R414): the UV and OV comparators, after their filters, take these views; true is within. -/
def execUvovWindowChange (uvOk ovOk : Bool) (s : State) : Host.Outcome State Fault Refusal :=
  s.on (fun h => if h.aon.up then Hub.windowJudge { h with entry := { h.entry with uvOk := uvOk, ovOk := ovOk } } else h)

/-- INSERTION_DELAY_END (R404, R405). -/
def execInsertionDelayEnd (s : State) : Host.Outcome State Fault Refusal := s.on (fun h => h.onDue .insertion (fun g => g.pwrNext))

/-! ### The hot-swap FET -/

/-- RAMP_COMPLETE (R415): the gate is enhanced and VDS has stayed low for 1 ms with no regulation in that time. -/
def execRampComplete (s : State) : Host.Outcome State Fault Refusal :=
  s.on (fun h =>
    if h.pst = .ramp ∧ !h.is Fld.PWR_STATUS_REG ∧ (!h.armed .rampOn ∨ h.due .rampOn) then
      ((((h.setPst .on).disarm .ramp).disarm .rampOn).arm .retryReset (ms 10000)).egoodRise
    else h)

/-- FLT_PWRTIMER: the fault timer or RAMP has run out (R408). -/
def Hub.timerOff (h : Hub) (cause : Nat) : Hub :=
  (((h.raise Flt.PWRTIMER 0 cause 0 0).count Reg.PWR_CNT_TIMER).evt Fld.PWR_EVT_TIMER).coolEnter cause

/-- RAMP_TIMEOUT (R408). -/
def execRampTimeout (s : State) : Host.Outcome State Fault Refusal :=
  s.on (fun h => h.onDue .ramp (fun g => if g.pst = .ramp then g.timerOff 4 else g))

/-- R406: while the FET regulates, VLIMF at a bound raises FLT_FOLDSAT once. -/
def Hub.foldback (h : Hub) (vds : Nat) : Hub :=
  if h.atBound vds ∧ !h.entry.foldHeld then
    (Hub.raise { h with entry := { h.entry with foldHeld := true } } Flt.FOLDSAT 0 0 vds 0).evt Fld.PWR_EVT_FOLDSAT
  else h.foldWatch vds

/-- REGULATION_ENTRY (R406, R408). -/
def execRegulationEntry (vsns vds : Nat) (s : State) : Host.Outcome State Fault Refusal :=
  s.on (fun h =>
    if h.fetOn ∧ !h.is Fld.PWR_STATUS_REG ∧ h.vlimf vds ≤ vsns then
      let h1 := ((h.set Fld.PWR_STATUS_REG 1).raise Flt.PWRLIMIT 0 0 vsns vds).count Reg.PWR_CNT_LIMIT
      (((h1.logCount 139 1).arm .tflt (ms (max 1 (h.pwr Fld.PWR_CFG_TFLT)))).disarm .rampOn).foldback vds
    else h)

/-- REGULATION_END (R406): VSNS has stayed below VLIMF for 100 us; the fault timer stops and clears; in RAMP the 1 ms of R415
starts again. -/
def execRegulationEnd (s : State) : Host.Outcome State Fault Refusal :=
  s.on (fun h =>
    if h.is Fld.PWR_STATUS_REG then
      let h1 := (h.set Fld.PWR_STATUS_REG 0).disarm .tflt
      let h2 := if h.pst = .ramp then h1.arm .rampOn (ms 1) else h1
      h2.foldWatch h.entry.vds
    else h)

/-- FAST_TRIP (R407). -/
def execFastTrip (vsns : Nat) (s : State) : Host.Outcome State Fault Refusal :=
  s.on (fun h =>
    if h.fetOn ∧ h.ftrip ≤ vsns then
      let h0 : Hub := { h with entry := { h.entry with vsns := vsns, peak := max h.entry.peak vsns } }
      ((((h0.raise Flt.PWRTRIP 0 0 vsns 0).count Reg.PWR_CNT_FTRIP).evt Fld.PWR_EVT_FTRIP).logCount 138 1).coolEnter 1
    else h)

/-- FAULT_TIMER_EXPIRY (R408). -/
def execFaultTimerExpiry (s : State) : Host.Outcome State Fault Refusal :=
  s.on (fun h => h.onDue .tflt (fun g => if g.fetOn ∧ g.is Fld.PWR_STATUS_REG then g.timerOff 2 else g))

/-- R409: one pole of the model: d + (p rth - d) 1 us / tau, in 10^-12 K; tau in us. -/
def pole (d target : Int) (tau : Nat) : Int := d + (target - d) / (max 1 tau : Nat)

/-- R409: p times a thermal resistance in 0.01 K/W, in 10^-12 K: VSNS in uV, VDS in mV, RSNS in 0.1 mOhm, below 50 taken as 50. -/
def Hub.heat (h : Hub) (vsns vds rth : Nat) : Int := (vsns * vds * rth * 100000 / max 50 (h.pwr Fld.PWR_FETM2_RSNS) : Nat)

/-- R410: whether an NTC is present, and TREF in 0.1 C. -/
def Hub.tref (h : Hub) (temp : Nat) : Bool × Int :=
  if 1150 < temp then (false, h.tamb) else (true, Config.ntcTemp temp (h.pwr Fld.PWR_NTC_N25) (h.pwr Fld.PWR_NTC_BETA))

/-- R409: one update of the junction model; VDS above 1.0 V with the FET on counts as stress (R411). -/
def Hub.thermal (h : Hub) (vsns vds temp : Nat) : Hub :=
  let r := h.tref temp
  let e := h.entry
  let on := h.fetOn
  let e' : Entry := { e with
    d1 := pole e.d1 (h.heat vsns vds (h.pwr Fld.PWR_FETM0_RTH1)) (10 * h.pwr Fld.PWR_FETM1_TAU1)
    d2 := pole e.d2 (h.heat vsns vds (h.pwr Fld.PWR_FETM0_RTH2)) (1000 * h.pwr Fld.PWR_FETM1_TAU2)
    tref := r.2
    vsns := vsns
    vds := vds
    peak := if on then max e.peak vsns else e.peak
    stress := if on ∧ 1000 < vds then e.stress + 1 else e.stress }
  let h1 : Hub := { h with entry := e' }
  let h2 := ((h1.set Fld.PWR_MEAS2_VSNS (min 65535 (vsns / 10))).set Fld.PWR_MEAS2_TJ (BitVec.ofInt 16 h1.tj).toNat).flag
    Fld.PWR_STATUS_NTC r.1
  let h3 := if h2.is Fld.PWR_STATUS_REG then h2.foldback vds else h2.foldWatch vds
  if h3.fetOn ∧ h3.tmax ≤ h3.tj then
    (((h3.raise Flt.FETTEMP 0 0 h3.tj.toNat 0).count Reg.PWR_CNT_FETTEMP).evt Fld.PWR_EVT_FETTEMP).coolEnter 3
  else h3.pwrNext

/-- THERMAL_MODEL_UPDATE (R409, R410): every 1 us. -/
def execThermalModelUpdate (vsns vds temp : Nat) (s : State) : Host.Outcome State Fault Refusal :=
  s.on (fun h => if h.aon.up then h.onPeriod .thermal (us 1) (fun g => g.thermal vsns vds temp) else h)

/-- OFF_TIME_END (R411, R412): the off-time has run out; T_OFF 0 is recorded. -/
def execOffTimeEnd (s : State) : Host.Outcome State Fault Refusal :=
  s.on (fun h => h.onDue .offTime (fun g => (g.identityChange { g.log.ident with coolMs := 0 }).pwrNext))

/-- RETRY_COUNT_RESET (R411): ON has held for 10 s. -/
def execRetryCountReset (s : State) : Host.Outcome State Fault Refusal :=
  s.on (fun h => h.onDue .retryReset (fun g => if g.pst = .on then g.set Fld.PWR_STATUS_RETRIES 0 else g))

/-- FOLDSAT_RELEASE (R406). -/
def execFoldsatRelease (s : State) : Host.Outcome State Fault Refusal :=
  s.on (fun h => h.onDue .foldsat (fun g => { g with entry := { g.entry with foldHeld := false } }))

/-- R415: REARM with KEY 0x3C takes a LATCHED entry to OFF, from where an open window qualifies at once. -/
def Hub.pwrRearm (h : Hub) (v : Word) : Hub :=
  if v.extractLsb' 8 8 = 0x3C#8 ∧ v.getLsbD 0 ∧ h.pst = .latched then
    ((h.setPst .off).set Fld.PWR_STATUS_RETRIES 0).qualify
  else h

/-- PWR_REARM (Table 17.3). -/
def execPwrRearm (req : Req) (v : Word) (s : State) : Host.Outcome State Fault Refusal :=
  s.on (fun h => h.writing req Reg.PWR_CTL (fun g => g.pwrRearm v))

end Sys2Proof.Machine
end

