-- ==== Sys2Proof/Machine/Supply.lean ====
section
/-! DEFINITION. Sequencing, supervision and resets (R418 to R431), and the start of the AON island (R379, R413, R436). -/

namespace Sys2Proof.Machine

/-! ### Sequencing (R419, R420) -/

/-- RAIL_GOOD_STEP (R419): the rail enabled last has stood above its warning level for 100 us: the next enable is driven. -/
def execRailGoodStep (s : State) : Host.Outcome State Fault Refusal :=
  s.on (fun h =>
    let n := h.aon.rails
    if h.pgood ∨ h.aon.dropping ∨ n = 0 then h
    else if n < 4 then Hub.arm { h with aon := { h.aon with rails := n + 1 } } .railTimeout (ms 10)
    else h.disarm .railTimeout)

/-- POWER_GOOD (R419): all four rails have stood above their warning levels for 1 ms. -/
def execPowerGood (s : State) : Host.Outcome State Fault Refusal :=
  s.on (fun h =>
    if h.pgood ∨ h.aon.dropping ∨ h.aon.rails ≠ 4 then h
    else Hub.set { h.disarm .railTimeout with aon := { h.aon with goodAt := some h.clock } } Fld.PWR_SUPSTAT_PGOOD 1)

/-- RAIL_SEQ_TIMEOUT (R420): a rail has missed its warning level within 10 ms of its enable. -/
def execRailSeqTimeout (s : State) : Host.Outcome State Fault Refusal :=
  s.on (fun h => h.onDue .railTimeout (fun g =>
    if g.aon.rails = 0 ∨ g.aon.dropping then g
    else
      let h1 := (g.chipReset 2).set Fld.PWR_RSTCAUSE_RAIL (g.aon.rails - 1)
      let h2 := ((h1.set Fld.PWR_RSTCAUSE_OV 0).evt Fld.PWR_SUPEVT_SEQFAIL).attemptFails
      h2.powerDown.arm .seqRetry (ms 1000)))

/-- SEQ_RETRY (R420). -/
def execSeqRetry (s : State) : Host.Outcome State Fault Refusal := s.on (fun h => h.onDue .seqRetry (fun g => g.seqStart))

/-- RAIL_RESEQUENCE (R425). -/
def execRailResequence (s : State) : Host.Outcome State Fault Refusal := s.on (fun h => h.onDue .resequence (fun g => g.seqStart))

/-- POWER_DOWN_STEP (R427). -/
def execPowerDownStep (s : State) : Host.Outcome State Fault Refusal :=
  s.on (fun h => h.onDue .powerStep (fun g => if g.aon.dropping then g.dropRail else g))

/-! ### Supervision (R421 to R426) -/

/-- SUPPLY_WARNING_BEGIN (R421, R422, R424): the supervisor's view after its filters: rails below warning (with the hysteresis,
once below), rails above over-voltage; before power-good only VAON33 is compared. A warning begins with the first condition; where every condition for its end holds,
CLRHOLD runs. -/
def execSupplyWarningBegin (below above : BitVec 5) (s : State) : Host.Outcome State Fault Refusal :=
  s.on (fun h =>
    if !h.aon.up then h
    else
      let seen (v : BitVec 5) : BitVec 5 := if h.pgood then v else v &&& 0x10#5
      let h1 := (h.set Fld.PWR_SUPSTAT_WARN (seen below).toNat).set Fld.PWR_SUPSTAT_OVER (seen above).toNat
      let h2 := if below ≠ 0 ∨ above.getLsbD 4 then h1.warnBegin else h1
      if !h2.is Fld.PWR_SUPSTAT_SUPWARN then h2
      else if !h2.warnClear then h2.disarm .clrHold
      else if h2.armed .clrHold then h2
      else Hub.arm { h2 with aon := { h2.aon with recross := h.clock } } .clrHold (ms (max 1 (h2.pwr Fld.PWR_SUPCFG_CLRHOLD))))

/-- R425, R426: a reset level or an over-voltage level is crossed: chip reset, of kind 1 where entry good has fallen, else 2. -/
def Hub.railReset (h : Hub) (rail : Nat) (ov : Bool) : Hub :=
  let soon : Bool := match h.aon.goodAt with
    | some t => decide (h.clock - t < ms 10000)
    | none => false
  let h1 := (h.chipReset (if h.is Fld.PWR_STATUS_EGOOD then 2 else 1)).set Fld.PWR_RSTCAUSE_RAIL rail
  let h2 := ((h1.flag Fld.PWR_RSTCAUSE_OV ov).evt Fld.PWR_SUPEVT_RAILRST).count Reg.PWR_CNT_RAILRST
  let h3 := if soon then h2.attemptFails else h2.set Fld.PWR_SUPSTAT_ATTEMPT 0
  h3.powerDown.arm .resequence (ms 100)

/-- RAIL_RESET (R425). -/
def execRailReset (rail : Fin 4) (ov : Bool) (s : State) : Host.Outcome State Fault Refusal :=
  s.on (fun h => if h.pgood then h.railReset rail.val ov else h)

/-- EGRST_EXPIRY (R426): EGRST ms after entry good fell. -/
def execEgrstExpiry (s : State) : Host.Outcome State Fault Refusal :=
  s.on (fun h => h.onDue .egrst (fun g => if g.is Fld.PWR_STATUS_EGOOD then g else (g.chipReset 1).powerDown))

/-! ### Pins and orders (R429, R430) -/

/-- RESET_N_FALL (R429): chip reset is held; with power-good clear nothing else changes. -/
def execResetNFall (s : State) : Host.Outcome State Fault Refusal :=
  s.on (fun h =>
    let h1 : Hub := { h with aon := { h.aon with pinLow := true } }
    if h1.pgood then h1.chipReset 3 else h1)

/-- RESET_N_RISE (R429): chip reset may be released (CHIP_RESET_RELEASE). -/
def execResetNRise (s : State) : Host.Outcome State Fault Refusal :=
  s.on (fun h => { h with aon := { h.aon with pinLow := false } })

/-- R430: a write of PWR_RSTCTL. -/
def Hub.rstCtl (h : Hub) (v : Word) : Hub := if v.extractLsb' 8 8 = 0x96#8 ∧ v.getLsbD 0 then h.orderReset 4 else h

/-- ORDERLY_RESET_ORDER (R430). -/
def execOrderlyResetOrder (req : Req) (v : Word) (s : State) : Host.Outcome State Fault Refusal :=
  s.on (fun h => h.writing req Reg.PWR_RSTCTL (fun g => g.rstCtl v))

/-- ORDERLY_RESET_ENTRY (R430): at the end of the flush or 2 ms after the order. -/
def execOrderlyResetEntry (s : State) : Host.Outcome State Fault Refusal :=
  s.on (fun h => if h.aon.order = some 4 ∧ (h.aon.flushed ∨ h.due .reset) then h.chipReset 4 else h)

/-! ### The AON island -/

/-- Every island of the hub is reset with the AON island (R418): what the log memory, the flash and the fuses hold stays. -/
def Hub.aonReset (h : Hub) : Hub :=
  { Hub.reset with
    clock := h.clock
    born := h.born
    out := h.out
    draws := h.draws
    regs := h.regs.filter (fun e => partReg e.1)
    log := { Log.reset with mem := h.log.mem, idA := h.log.idA, idB := h.log.idB }
    keys := { h.keys with root := none, ktag := 0, keys := [], tags := [] }
    flash := { h.flash with write := none, waits := [], booted := false, refused := false }
    aon := { Aon.reset with pinLow := h.aon.pinLow } }

/-- AON_RESET (R418): VAON33 has fallen below 2.60 V for 1 us. -/
def execAonReset (s : State) : Host.Outcome State Fault Refusal := s.on (fun h => h.aonReset)

/-- R379, R371: the working totals and the state of the log come from the current copies. -/
def Hub.logLoad (h : Hub) : Hub :=
  let m := h.log.mem
  let seq := (journalValid m).foldl (fun n r => max n (r.1 + 1)) 0
  let c := runningCurrent m
  let base := runningBase ((c.map (fun p => p.1)).getD false)
  let totals := if c.isSome then tableOf m base 8 512 else []
  let hist := if c.isSome then tableOf m (base + 0x1000) 4 2048 else []
  let gen := (c.map (fun p => p.2)).getD 0
  let h1 : Hub := { h with log := { h.log with totals := totals, hist := hist, ident := h.log.currentIdentity.getD Identity.zero,
                                               commitAt := h.clock, committed := false } }
  let h2 := ((h1.flag Fld.LOG_STATUS_ACTIVE ((c.map (fun p => p.1)).getD false)).wr Reg.LOG_GEN_LO (BitVec.ofNat 32 gen)).wr
    Reg.LOG_GEN_HI (BitVec.ofNat 32 (gen / 0x100000000))
  (h2.wr Reg.LOG_JSEQ (BitVec.ofNat 32 seq)).set Fld.LOG_STATUS_YEARS (min 255 (Sparse.get zeroNat totals 143 / 31536000))

/-- R379, R371: INSERT, then UNCLEAN for each area without a valid copy (ARG 1) and for a clear CLEAN marker (ARG 0). -/
def Hub.powerUpRecords (h : Hub) (arg : Nat) : Hub :=
  let old := Sparse.get zeroNat h.log.totals 143
  let none_ := [h.logGen == 0, h.log.currentIdentity.isNone]
  let clear := match h.log.currentIdentity with
    | some i => !i.clean
    | none => false
  let h1 := (h.journalDirect 7 arg 0).logCount 141 1
  let h2 := (none_.filter (fun b => b)).foldl (fun (g : Hub) _ => g.journalDirect 2 1 old) h1
  let h3 := if clear then h2.journalDirect 2 0 old else h2
  if clear || none_.any (fun b => b) then (h3.logCount 142 1).set Fld.LOG_STATUS_UNCLEAN 1 else h3

/-- R413: the owed off-time of the current identity copy, and the model from its TJ, with d1 0; where the newest PWRTRIP record lies
beyond TRIPSEQ in the journal m that power-up finds, 50,000 ms and TMAX. Without a recorded turn-off TJ starts at TREF (log 162). -/
def Hub.owedLoad (h : Hub) (m : List Host.Cell) : Hub :=
  let i := h.log.ident
  let trip := ((journalValid m).filter (fun r => r.2 == 5)).foldl (fun n r => max n (r.1 + 1)) 0
  let lost := decide (i.tripSeq + 1 < trip) || (decide (0 < trip) && h.log.currentIdentity.isNone)
  let owed := if lost then 50000 else i.coolMs
  let tj := if lost then h.tmax else i.coolTj
  let d : Int := if lost ∨ i.coolMs ≠ 0 ∨ i.tripSeq ≠ 0 then (tj - h.tamb) * 100000000000 else 0
  let h1 : Hub := { h with entry := { h.entry with tref := h.tamb, d1 := 0, d2 := d } }
  if owed = 0 then h1 else (h1.journalDirect 6 0 owed).arm .offTime (ms owed)

/-- R350: FLT_RESETLOOP's class and window come back from the identity copy; the window's W starts afresh (log 42). -/
def Hub.loopLoad (h : Hub) : Hub :=
  match h.log.currentIdentity with
  | some i =>
    let h1 := h.setFltSrc Flt.RESETLOOP ⟨if i.loopCount = 0 then none else some h.clock, i.loopCount, h.clock, false⟩
    (h1.set (Fld.FLT_SRC_STAT_CUR Flt.RESETLOOP) (max 2 i.loopCur)).set (Fld.FLT_SRC_STAT_WCOUNT Flt.RESETLOOP) (min 255 i.loopCount)
  | none => h

/-- AON_START (R418, R379, R402, R413, R436): the AON island leaves reset; fa and fb tell which feeds are present, vbus that the
service port brought VAON33 up. -/
def execAonStart (fa fb vbus cc2 : Bool) (p : PinSense) (s : State) : Host.Outcome State Fault Refusal :=
  s.on (fun h =>
    if h.aon.up then h
    else
      let k := h.aonReset
      let h1 : Hub := { k with
        aon := { k.aon with up := true, held := true, heldAt := h.clock, kind := 0 }
        entry := { Entry.reset with uvR := true } }
      let h2 := (h1.logLoad).powerUpRecords ((if fa then 1 else 0) + (if fb then 2 else 0) + (if vbus then 4 else 0))
      let h3 := ((h2.pinDerive p).owedLoad k.log.mem).loopLoad
      if vbus then (h3.set Fld.SVC_STATUS_DEADBAT 1).svcAttach true cc2 0 else h3.svcToggle)

end Sys2Proof.Machine
end

