-- ==== Sys2Proof/Machine/Log.lean ====
section
/-! DEFINITION. Flushes, year roll-ups, histograms and direct records of the watermark log (R371 to R380). -/

namespace Sys2Proof.Machine

/-! ### Flushes -/

/-- FLUSH_INTERVAL (R373): the interval since the previous flush's start ends. -/
def execFlushInterval (s : State) : Host.Outcome State Fault Refusal := s.on (fun h => h.onDue .flushInterval (fun g => g.orderFlush .interval))

/-- R373: a write of LOG_CTL. -/
def Hub.logCtl (h : Hub) (v : Word) : Hub := if v.getLsbD 0 then h.orderFlush .command else h

/-- LOG_FLUSH_CMD (R373). -/
def execLogFlushCmd (req : Req) (v : Word) (s : State) : Host.Outcome State Fault Refusal :=
  s.on (fun h => h.writing req Reg.LOG_CTL (fun g => g.logCtl v))

/-- MERGED_FLUSH_START (R373): 100 ms after the previous flush's start, the flush into which triggers merged. -/
def execMergedFlushStart (s : State) : Host.Outcome State Fault Refusal :=
  s.on (fun h => h.onDue .mergedFlush (fun g =>
    if g.halted ∨ g.log.merged.isEmpty then g else g.flushStart g.log.merged))

/-- R376: where year record y lies. -/
def yearBase (y : Nat) : Nat := 0x13000 + 6272 * (y % 25)

/-- R376: whether a year record holds a valid trailer with GEN equal to y. -/
def yearValid (m : List Host.Cell) (y : Nat) : Bool :=
  let t := memRead m (yearBase y + 0x1840) 16
  decide (logTrailer (memRead m (yearBase y) 0x1840) y (ofLe (slice t 8 4)) = t)

/-- R376: Y, whole powered years. -/
def yearsOf (totals : List (Nat × Nat)) : Nat := Sparse.get zeroNat totals 143 / 31536000

/-- R376: a roll-up is owed, and starts at the end of a flush that neither a supply warning nor a reset ordered, while DEFER is
clear. -/
def Hub.rollupStart (h : Hub) (f : Flush) : Hub :=
  let y := yearsOf f.totals
  if 1 ≤ y ∧ !yearValid h.log.mem (y - 1) ∧ !f.why.contains .warning ∧ !f.why.contains .reset ∧ !h.deferred then
    { h with log := { h.log with rollup := some f } }
  else h

/-- R379, R430: the flush of an orderly reset sets CLEAN, the first commit after power-up clears it. -/
def Hub.cleanMark (h : Hub) (f : Flush) : Hub :=
  let i := h.log.ident
  if f.why.contains .reset ∧ h.aon.order = some 4 then h.identityChange { i with clean := true }
  else if !h.log.committed ∧ i.clean then h.identityChange { i with clean := false }
  else h

/-- R372: a trailer that reads back right commits the copy. -/
def Hub.flushDone (h : Hub) (f : Flush) (gen : Nat) : Hub :=
  let h1 := ((h.cleanMark f).set Fld.LOG_STATUS_BUSY 0).flag Fld.LOG_STATUS_ACTIVE f.toB
  let h2 := (h1.wr Reg.LOG_GEN_LO (BitVec.ofNat 32 gen)).wr Reg.LOG_GEN_HI (BitVec.ofNat 32 (gen / 0x100000000))
  let h3 := ((h2.evt Fld.LOG_EVT_FLUSHED).count Reg.LOG_CNT_FLUSH).logCount 146 1
  let h4 : Hub := { h3 with
    log := { h3.log with flush := none, commitAt := h.clock, committed := true }
    aon := { h3.aon with flushed := h.aon.flushed || (f.why.contains .reset && h.aon.order.isSome) } }
  h4.rollupStart f

/-- FLUSH_COMMIT (R372, R371): phase 2: the trailer is written and read back; ok says whether it reads back right. The first
failure repeats the flush into the same copy, the second raises FLT_LOGWR. -/
def execFlushCommit (ok : Bool) (s : State) : Host.Outcome State Fault Refusal :=
  s.on (fun h =>
    match h.log.flush with
    | none => h
    | some f =>
      let base := runningBase f.toB
      let writes := ofLe (memRead h.log.mem (base + 0x3FF8) 4) + 1
      let gen := h.logGen + 1
      let t := if ok then logTrailer (runningBody f.totals f.hist) gen writes else h.badTrailer
      let h1 := Hub.wear { h with log := { h.log with mem := memWrite h.log.mem (base + 0x3FF0) t } } writes
      if ok then h1.flushDone f gen
      else
        let h2 := (h1.draw.evt Fld.LOG_EVT_WRFAIL).count Reg.LOG_CNT_RETRY
        if f.again then
          (Hub.raise { h2 with log := { h2.log with flush := none } } Flt.LOGWR 0 0 base 0).set Fld.LOG_STATUS_BUSY 0
        else { h2 with log := { h2.log with flush := some { f with again := true } } })

/-- ROLLUP_DONE (R376): the year record is written, its trailer last; ok says whether it reads back right. -/
def execRollupDone (ok : Bool) (s : State) : Host.Outcome State Fault Refusal :=
  s.on (fun h =>
    match h.log.rollup with
    | none => h
    | some f =>
      let y := yearsOf f.totals - 1
      let c143 := Sparse.get zeroNat f.totals 143
      let body := (List.range 64).map (fun k => Config.yearHeader [y, f.stamp.toNat, c143] k) ++
        (List.range 512).flatMap (fun i => leBytes 4 (Sparse.get zeroNat f.totals i)) ++
        (List.range 1024).flatMap (fun i => leBytes 4 (Sparse.get zeroNat f.hist i))
      let writes := ofLe (memRead h.log.mem (yearBase y + 0x1848) 4) + 1
      let t := if ok then logTrailer body y writes else h.badTrailer
      let h1 : Hub := { h with log := { h.log with mem := memWrite h.log.mem (yearBase y) (body ++ t), rollup := none } }
      let h2 := h1.wear writes
      if ok then h2.evt Fld.LOG_EVT_ROLLUP else h2.draw)

/-! ### Histograms -/

/-- R375, Table 15.3: the periodic samples that the AON island takes of itself: LO and STEP in the quantity's own unit. -/
def Hub.aonSamples (h : Hub) (die : Int) (vdd vaon : Nat) : Hub :=
  let pct : Int := if h.vlim = 0 then 0 else (100 * h.entry.vsns / (1000 * h.vlim) : Nat)
  let l : List (Nat × Nat) :=
    [(0, histBin die (-400) 25), (1, histBin h.tj (-400) 25), (2, histBin (h.get Fld.PWR_MEAS0_FA) 0 100),
     (3, histBin (h.get Fld.PWR_MEAS0_FB) 0 100), (4, histBin pct 0 2), (5, histBin vdd 700 5), (6, histBin vaon 2900 10)]
  l.foldl (fun (g : Hub) p => g.logBin p.1 p.2) h

/-- Table 15.3: the periodic samples of the core islands: mean codes of SIREF0-7, CTLE codes of the lanes in steps of 0.5. -/
def Hub.coreSamples (h : Hub) : Hub :=
  let h1 := (List.range 8).foldl (fun (g : Hub) n => g.logBin (7 + n) (histBin (g.get (Fld.SEN_GREF_V n)) 0 64)) h
  (List.range 5).foldl (fun (g : Hub) l => g.logBin (20 + l) (histBin (2 * g.get (Fld.RING_EQ_NOW0_CTLE l)) 0 1)) h1

/-- HISTOGRAM_SAMPLE (R375, R374, R465): every 1 s of AON time; die is the die sensor's reading (0.1 C), rails VDD, VDDS, VDDSH,
VIO33, VDDAON and VAON33 in mV, which PWR_RAIL0-2 show. -/
def execHistogramSample (die : Int) (vdd vdds vddsh vio33 vddaon vaon33 : BitVec 16) (s : State) :
    Host.Outcome State Fault Refusal :=
  s.on (fun h =>
    if !h.aon.up then h
    else h.onPeriod .histogram (ms 1000) (fun g =>
      let g0 := ((g.wr Reg.PWR_RAIL0 (vdds ++ vdd)).wr Reg.PWR_RAIL1 (vio33 ++ vddsh)).wr Reg.PWR_RAIL2 (vaon33 ++ vddaon)
      let g1 := Hub.logCount { g0 with aon := { g0.aon with dieTemp := die } } 143 1
      let g2 := g1.aonSamples die vdd.toNat vaon33.toNat
      let g3 := if g2.pgood && !g2.aon.held then g2.coreSamples else g2
      (if g3.pgood then g3.logCount 144 1 else g3).set Fld.LOG_STATUS_YEARS (min 255 (yearsOf g3.log.totals))))

/-! ### Direct records -/

/-- DIRECT_RECORD (R378, Table 15.4): the AON island writes a record of a type that is written directly. -/
def execDirectRecord (typ : Fin 11) (arg : BitVec 16) (data : BitVec 48) (s : State) : Host.Outcome State Fault Refusal :=
  s.on (fun h =>
    if h.aon.up ∧ (typ = 2 ∨ typ = 5 ∨ typ = 6 ∨ typ = 7 ∨ typ = 8) then h.journalDirect typ.val arg.toNat data.toNat else h)

/-- IDENTITY_WRITE_DEFERRED (R378, R129): the 100 ms since the last identity write end; a number that waited for its record is adopted. -/
def execIdentityWriteDeferred (s : State) : Host.Outcome State Fault Refusal :=
  s.on (fun h => h.onDue .identity (fun g => (if g.log.identOwed then g.identityWrite else g).adoptOwed))

end Sys2Proof.Machine
end

