-- ==== Sys2Proof/Machine/Pair.lean ====
section
/-! DEFINITION. The mirror pair: formation, versions, digests, role swaps, the lead fence (R141 to R146). A beat of the
partner is taken as one path beat (TETHER_RX), one PARTNER_BEAT_RX and, by its swap phase, one of the SWAP_ steps. -/

namespace Sys2Proof.Machine

/-- Microseconds on the counter. -/
def usec (n : Nat) : Stamp := nsec (1000 * n)

/-- R141, R5: the lower of the two highest versions, where both ranges hold it, as PVER shows it; versions of two octets compare major
first, and this hub implements 1.0 and 1.1. -/
def pairVersion (b : PartnerBeat) : Option Nat :=
  let v := min 0x101 (256 * b.hiMaj.toNat + b.hiMin.toNat)
  if 0x100 ≤ v ∧ 256 * b.loMaj.toNat + b.loMin.toNat ≤ v then some (0x10 + v % 256) else none

/-- The first 16 octets of this hub's ream digest. -/
def Hub.ownDigest (h : Hub) : List Byte := (List.range 4).flatMap (fun k => leBytes 4 (h.rd (Reg.REAM_DIGEST k)).toNat)

/-- PAIR_DIGEST_MISMATCH (R142): the digests compared over the octets that both carry; FLT_PAIRREAM on a change to
differing. -/
def Hub.pairDigest (h : Hub) (v : Nat) (b : PartnerBeat) : Hub :=
  let n := if v = 0x10 then 8 else 16
  let differ := decide ((beBytes 16 b.digest.toNat).take n ≠ h.ownDigest.take n)
  let h1 := h.flag Fld.MBR_STATUS_PAIRREAM differ
  if differ ∧ !h.is Fld.MBR_STATUS_PAIRREAM then h1.raise Flt.PAIRREAM 3 0 0 0 else h1

/-- Table 05.5: what a partner beat on the pair link does to the role. slot is the partner's slot code (log 33). -/
def Hub.pairForm (h : Hub) (b : PartnerBeat) (slot : BitVec 4) : Hub :=
  let other := managerKey slot.toNat (h.rd (Reg.RING_PSERIAL_HI 4) ++ h.rd (Reg.RING_PSERIAL_LO 4))
  match h.role with
  | .unpaired => match Role.ofCode b.role.toNat with
    | .unpaired => (if h.ownKey < other then h.takeLead .leader false else h.setRole .follower false).sendPartnerBeats
    | .leader => (h.setRole .follower false).sendPartnerBeats
    | .solo => (h.setRole .follower false).sendPartnerBeats
    | _ => h
  | .solo => (h.setRole .leader false).sendPartnerBeats
  | _ => h

/-- PARTNER_BEAT_RX (R6, R141, R142, R145): a beat with Table 05.4's payload on the pair link or a ring way; a hub that refuses its
partner's versions stays UNPAIRED. -/
def execPartnerBeatRx (l : Fin 5) (hdr : Header) (b : PartnerBeat) (slot : BitVec 4) (s : State) :
    Host.Outcome State Fault Refusal :=
  s.on (fun h =>
    if !h.is Fld.MBR_PAIRCFG_EN then h
    else match pairVersion b with
      | none =>
        if h.pair.refused then h
        else (Hub.raise { h with pair := { h.pair with refused := true } } Flt.PAIRVER 3 0 b.hiMaj.toNat b.hiMin.toNat).disarm .unpaired
      | some v =>
        let h1 := { h with pair := { h.pair with partner := some b, refused := false } }
        let h2 := ((h1.set Fld.MBR_PAIR_PVER v).set Fld.MBR_PAIR_PHUB hdr.shub.toNat).pairDigest v b
        if l.val = 4 then (h2.disarm .unpaired).pairForm b slot else h2)

/-- The swap phase in MBR_PAIR and the beats. -/
def Hub.setPhase (h : Hub) (n : Nat) : Hub := h.set Fld.MBR_PAIR_PHASE n

/-- Nothing confirmed yet for a new swap. -/
def Hub.clearSwap (h : Hub) (t : Stamp) : Hub :=
  { h with pair := { h.pair with t := t, readyPl := false, readyRing := false, commitPl := false, commitRing := false,
                                 committedPl := false, committedRing := false, tReached := false } }

/-- ABORT is sent, and the swap is over for this hub. -/
def Hub.sendAbort (h : Hub) : Hub := ((h.setPhase 5).sendPartnerBeats).setPhase 0

/-- MBR_CTL.SWAP (R145): LEADER with a FOLLOWER and no path of MBR_PATH faulted proposes; otherwise SWAPREF. -/
def Hub.swapCmd (h : Hub) : Hub :=
  let fol : Bool := match h.pair.partner with
    | some b => decide (Role.ofCode b.role.toNat = .follower)
    | none => false
  if h.role = .leader ∧ fol ∧ !((List.range 4) ++ h.partnerPaths).any h.faulted then
    let t := h.now + usec (1000 * h.get Fld.MBR_PAIRCFG_SWAPLEAD)
    let h1 := (h.clearSwap t).set Fld.MBR_PAIR_SWAPNUM ((h.get Fld.MBR_PAIR_SWAPNUM + 1) % 256)
    ((h1.setRole .lProposed false).setPhase 1).sendPartnerBeats
  else h.evt Fld.MBR_EVT_SWAPREF

/-- MBR_SWAP_CMD (R145). -/
def execMbrSwapCmd (req : Req) (s : State) : Host.Outcome State Fault Refusal :=
  s.on (fun h => h.writing req Reg.MBR_CTL Hub.swapCmd)

/-- Whether a swap number is that of the swap under way. -/
def Hub.swapIs (h : Hub) (n : BitVec 8) : Bool := decide (h.get Fld.MBR_PAIR_SWAPNUM = n.toNat)

/-- SWAP_PROPOSE_RX (R145): READY, where T lies at least 1,000 us ahead. -/
def execSwapProposeRx (n : BitVec 8) (t : BitVec 80) (s : State) : Host.Outcome State Fault Refusal :=
  s.on (fun h =>
    let at_ := Stamp.ofFrame h.now t
    if h.role = .follower ∧ h.now + usec 1000 ≤ at_ then
      let h1 := (h.clearSwap at_).set Fld.MBR_PAIR_SWAPNUM n.toNat
      ((h1.setRole .fReady false).setPhase 2).sendPartnerBeats
    else h)

/-- SWAP_READY_RX (R145): READY on the pair link and on a ring path, before T - 1,000 us: COMMIT. -/
def execSwapReadyRx (pl : Bool) (n : BitVec 8) (s : State) : Host.Outcome State Fault Refusal :=
  s.on (fun h =>
    if h.role = .lProposed ∧ h.get Fld.MBR_PAIR_PHASE = 1 ∧ h.swapIs n ∧ h.now + usec 1000 < h.pair.t then
      let p := h.pair
      let h1 := { h with pair := { p with readyPl := p.readyPl || pl, readyRing := p.readyRing || !pl } }
      if h1.pair.readyPl ∧ h1.pair.readyRing then (h1.setPhase 3).sendPartnerBeats else h1
    else h)

/-- SWAP_COMMIT_RX (R145): COMMIT on both kinds before T - 500 us: F_COMMITTED. -/
def execSwapCommitRx (pl : Bool) (n : BitVec 8) (s : State) : Host.Outcome State Fault Refusal :=
  s.on (fun h =>
    if h.role = .fReady ∧ h.swapIs n ∧ h.now + usec 500 < h.pair.t then
      let p := h.pair
      let h1 := { h with pair := { p with commitPl := p.commitPl || pl, commitRing := p.commitRing || !pl } }
      if h1.pair.commitPl ∧ h1.pair.commitRing then ((h1.setRole .fCommitted false).setPhase 4).sendPartnerBeats else h1
    else h)

/-- SWAP_COMMITTED_RX (R145): COMMITTED on both kinds before T - 250 us: L_COMMITTED. -/
def execSwapCommittedRx (pl : Bool) (n : BitVec 8) (s : State) : Host.Outcome State Fault Refusal :=
  s.on (fun h =>
    if h.role = .lProposed ∧ h.get Fld.MBR_PAIR_PHASE = 3 ∧ h.swapIs n ∧ h.now + usec 250 < h.pair.t then
      let p := h.pair
      let h1 := { h with pair := { p with committedPl := p.committedPl || pl, committedRing := p.committedRing || !pl } }
      if h1.pair.committedPl ∧ h1.pair.committedRing then (h1.setRole .lCommitted false).sendPartnerBeats else h1
    else h)

/-- L_PROPOSED fails: back to LEADER with ABORT and FLT_SWAP. -/
def Hub.swapFails (h : Hub) : Hub := ((h.setRole .leader false).sendAbort).raise Flt.SWAP 3 0 0 0

/-- SWAP_ABORT_RX (R145). -/
def execSwapAbortRx (n : BitVec 8) (s : State) : Host.Outcome State Fault Refusal :=
  s.on (fun h =>
    if !h.swapIs n then h
    else match h.role with
      | .lProposed => h.swapFails
      | .fReady => (h.setRole .follower false).sendAbort
      | _ => h)

/-- SWAP_DEADLINE (R145): in L_PROPOSED T - 1,000 us passes without READY, or T - 250 us without COMMITTED. -/
def execSwapDeadline (s : State) : Host.Outcome State Fault Refusal :=
  s.on (fun h =>
    let lead := if h.get Fld.MBR_PAIR_PHASE = 3 then usec 250 else usec 1000
    if h.role = .lProposed ∧ h.pair.t ≤ h.now + lead then h.swapFails else h)

/-- SWAP_T_REACHED (R145, R146): no new shared-bus frame is started; a committed follower whose PAIR_PEER has been low for 1 us
leads. -/
def execSwapTReached (s : State) : Host.Outcome State Fault Refusal :=
  s.on (fun h =>
    if h.now < h.pair.t then h
    else match h.role with
      | .lCommitted => Hub.fenceMoved { h with pair := { h.pair with tReached := true } }
      | .fCommitted => if h.pair.peerLowLong then ((h.setPhase 0).setRole .leader true).sendPartnerBeats else h
      | _ => h)

/-- SWAP_SHARED_FRAMES_END (R145, R146): PAIR_LEAD is released; a hub whose partner has gone meanwhile leads again. -/
def execSwapSharedFramesEnd (s : State) : Host.Outcome State Fault Refusal :=
  s.on (fun h =>
    if !h.pair.tReached ∨ h.sharedBusy then h
    else match h.role with
      | .lCommitted => ((h.setPhase 0).setRole .follower true).sendPartnerBeats
      | .solo => (h.takeLead .solo false).sendPartnerBeats
      | _ => h)

/-- F_READY_DEADLINE (R145). -/
def execFReadyDeadline (s : State) : Host.Outcome State Fault Refusal :=
  s.on (fun h => if h.role = .fReady ∧ h.pair.t ≤ h.now + usec 500 then (h.setRole .follower false).sendAbort else h)

/-- SWAPWAIT_EXPIRY (R145). -/
def execSwapwaitExpiry (s : State) : Host.Outcome State Fault Refusal :=
  s.on (fun h =>
    if h.role = .fCommitted ∧ h.pair.t + usec (1000 * h.get Fld.MBR_PAIRCFG_SWAPWAIT) ≤ h.now ∧ h.pair.peer then
      (((h.setPhase 0).setRole .follower false).sendPartnerBeats).raise Flt.SWAP 3 1 0 0
    else h)

/-- PAIR_PEER_LOW (R143 to R145): PAIR_PEER has been low for 1 us: a committed follower leads, even before T where the
leader has been reset; HELD becomes SOLO. -/
def execPairPeerLow (s : State) : Host.Outcome State Fault Refusal :=
  s.on (fun h =>
    let h1 := Hub.fenceMoved { h with pair := { h.pair with peer := false, peerLowLong := true } }
    match h1.role with
    | .fCommitted => ((h1.setPhase 0).setRole .leader true).sendPartnerBeats
    | .held => (h1.setRole .solo true).sendPartnerBeats
    | _ => h1)

/-- PAIR_PEER_RISE (R143, R290): the fence withholds transmission at once. -/
def execPairPeerRise (s : State) : Host.Outcome State Fault Refusal :=
  s.on (fun h => Hub.fenceMoved { h with pair := { h.pair with peer := true, peerLowLong := false } })

/-- UNPAIRED_TIMEOUT (R144, R145): 500 ms after the join without partner beats on the pair link (log 148): SOLO, or HELD while
PAIR_PEER is high. -/
def execUnpairedTimeout (s : State) : Host.Outcome State Fault Refusal :=
  s.on (fun h => h.onDue .unpaired (fun g => if g.role = .unpaired then (g.takeLead .solo false).sendPartnerBeats else g))

end Sys2Proof.Machine
end

