-- ==== Sys2Proof/Machine/TimeServo.lean ====
section
/-! DEFINITION. The servo's writes that reach other blocks: phase steps (R46 to R49, R244, R281) and TIME_OFFSET (R66, R76). -/

namespace Sys2Proof.Machine

/-! ### Phase steps -/

/-- The step S in 2^-16 ns (Table 02.11, TIME_STEP_CTL.FRAC). -/
def Hub.stepValue (h : Hub) : Int :=
  ((h.rd Reg.TIME_STEP_SEC).toInt * 1000000000 + (h.rd Reg.TIME_STEP_NS).toInt) * 65536 + h.get Fld.TIME_STEP_CTL_FRAC

/-- R47, R48, Table 02.11: whether a GO is rejected. -/
def Hub.stepRejected (h : Hub) : Bool :=
  let ns := (h.rd Reg.TIME_STEP_NS).toInt
  let big := decide (h.get Fld.TIME_LOCK_CTL_STEPMAX * nsec 1000 < h.stepValue.natAbs)
  h.is Fld.TIME_STEP_CTL_BUSY || decide (999999999 < ns.natAbs) ||
    (big && (h.get Fld.TIME_STATUS_LOCK == 1 || h.get Fld.TIME_STATUS_LOCK == 2))

/-- R49: what a jump from the counter value b does to the release stage: the pending events that become due are marked and
handed over, those not due before are counted, engines and bus entries whose T it skips go on (R244, R281). -/
def Hub.jumped (h : Hub) (b : Stamp) (back : Bool) : Hub :=
  let due (p : Pending) : Bool := back || decide (p.release ≤ h.now)
  let skipped := (h.time.store.filter (fun p => due p && !p.due && decide (b < p.release))).length
  let h1 := h.force ((h.time.store.filter due).map (fun p => p.ev.copyId))
  let h2 : Hub := { h1 with time := { h1.time with
    store := h1.time.store.map (fun p => if due p then { p with due := true, handed := p.handed || p.ev.timed } else p) } }
  let h3 := (h.time.store.filter (fun p => due p && p.ev.timed && !p.handed)).foldl (fun (g : Hub) p => g.handOver p.ev p.release false) h2
  let h4 := if skipped = 0 then h3 else (h3.countBy Reg.TIME_SKIPCNT skipped).evt Fld.TIME_STATUS_SKIPPED
  if back then h4
  else
    let h5 := (List.range 8).foldl (fun (g : Hub) c => if b < g.armT c ∧ g.armT c ≤ g.now then g.startArmed c true else g) h4
    (List.range 16).foldl (fun (g : Hub) k => g.busJump k (g.bus k).timed.length) h5

/-- R46: a jump is applied whole on the next TIME tick. -/
def Hub.jump (h : Hub) (s : Int) : Hub :=
  let b := h.now
  let t := h.tick
  let x := ((t.time.fine : Int) + s * 0x1000000) % (281474976710656 * 1000000000 * 0x10000000000 : Int)
  Hub.jumped { t with time := t.time.setFine x.toNat } b (decide (s < 0))

/-- TIME_STEP_CTL is written: FRAC is taken, and GO starts the step (R46). -/
def Hub.stepCtl (h : Hub) (v : Word) : Hub :=
  let h1 := h.set Fld.TIME_STEP_CTL_FRAC (v.extractLsb' 0 16).toNat
  if !v.getLsbD 31 then h1
  else if h1.stepRejected then h1.evt Fld.TIME_STATUS_STEPREJ
  else
    let s := h1.stepValue
    if s < 0 ∧ s.natAbs ≤ h1.get Fld.TIME_LOCK_CTL_STEPMAX * nsec 1000 then
      (Hub.set { h1 with time := { h1.time with slew := some (s.natAbs * 0x1000000) } } Fld.TIME_STEP_CTL_BUSY 1).set
        Fld.TIME_STEP_CTL_SLEW 1
    else h1.jump s

/-- STEP_GO (R46 to R49, R65): the servo owner writes TIME_STEP_CTL. -/
def execStepGo (req : Req) (v : Word) (s : State) : Host.Outcome State Fault Refusal :=
  s.on (fun h => h.ownerWrite req Reg.TIME_STEP_CTL (fun g => g.stepCtl v))

/-! ### TIME_OFFSET -/

/-- R66, Table 02.3: LOCKED is entered or kept; the first entry opens the release stage (R76), whose INIT events follow
(R259), and sets LOCKMS. -/
def Hub.lockIn (h : Hub) : Hub :=
  let h1 := (h.set Fld.TIME_STATUS_LOCK 1).disarm .holdover
  if h1.is Fld.TIME_STATUS_OPEN then h1
  else
    ((Hub.set { h1 with time := { h1.time with opened := h1.now } } Fld.TIME_STATUS_OPEN 1).set Fld.REAM_T1_LOCKMS (min 65535 ((h1.clock - h1.born) / ms 1))).senOpened

/-- R66: a write of TIME_OFFSET, in 1/16 ns: 250 ns are 4,000; fresh for 100 ms; a sample of histogram 15. -/
def Hub.offsetWrite (h : Hub) (v : Word) : Hub :=
  let m := v.toInt.natAbs
  let h1 := ((h.wr Reg.TIME_OFFSET v).arm .fresh (ms 100)).logBin 15 (min 63 (m / 64))
  if m ≤ 4000 then h1.lockIn
  else if h1.get Fld.TIME_STATUS_LOCK = 0 then h1 else h1.unlock

/-- TIME_OFFSET_WRITE (R65, R66, R76). -/
def execTimeOffsetWrite (req : Req) (v : Word) (s : State) : Host.Outcome State Fault Refusal :=
  s.on (fun h => h.ownerWrite req Reg.TIME_OFFSET (fun g => g.offsetWrite v))

end Sys2Proof.Machine
end

