-- ==== Sys2Proof/Machine/Update.lean ====
section
/-! DEFINITION. The configuration flash and the update of Ploia (R383 to R398). -/

namespace Sys2Proof.Machine

/-! ### The flash -/

/-- What an octet of erased flash reads. -/
def erased : Nat → Byte := fun _ => 0xFF#8

/-- n octets of the flash from an offset. -/
def flashRead (m : List Host.Cell) (a n : Nat) : List Byte := (List.range n).map (fun k => Sparse.get erased m (a + k))

/-- Octets written into the flash from an offset. -/
def flashWrite (m : List Host.Cell) : Nat → List Byte → List Host.Cell
  | _, [] => m
  | a, b :: t => flashWrite (Sparse.put erased m a b) (a + 1) t

/-- n octets of the flash erased from an offset. -/
def flashErase (m : List Host.Cell) (a n : Nat) : List Host.Cell := m.filter (fun e => decide (e.1 < a ∨ a + n ≤ e.1))

/-- The hub with another content of its flash. -/
def Hub.setFlash (h : Hub) (m : List Host.Cell) : Hub := { h with flash := { h.flash with mem := m } }

/-- Table 12.1: the Ploia slots. -/
def activeSlot : Nat := 0x10000
/-- Table 12.1: the staging slot. -/
def stagingSlot : Nat := 0x410000
/-- R389: the chunk table. -/
def chunkTable : Nat := 0xA30000

/-! ### Images -/

/-- A Ploia image header (Table 16.1). -/
structure ImageHead where
  major : Nat
  minor : Nat
  patch : Nat
  svn : Nat
  key : Nat
  setMajor : Nat
  setMinor : Nat
  len : Nat
deriving DecidableEq, Repr

/-- Table 16.1: the header of the image in a slot, none where MAGIC, LEN or KEYIDX is wrong. -/
def imageHead (m : List Host.Cell) (slot : Nat) : Option ImageHead :=
  let b := flashRead m slot 64
  let len := ofLe (slice b 12 4)
  let o (k : Nat) : Nat := (b.getD k 0#8).toNat
  if b.take 4 = [0x50#8, 0x4C#8, 0x4F#8, 0x49#8] ∧ len % 512 = 0 ∧ 65536 ≤ len ∧ len ≤ 4194304 ∧ o 9 ≤ 3 then
    some ⟨o 4, o 5, ofLe (slice b 6 2), o 8, o 9, o 10, o 11, len⟩
  else none

/-- R383: whether the signature of the image in a slot verifies. -/
def imageSigned (m : List Host.Cell) (slot : Nat) (i : ImageHead) : Bool :=
  ecdsaOk (Config.romKey i.key) (sha384 (flashRead m slot (i.len - 96))) (flashRead m (slot + i.len - 96) 96)

/-- R383, R384: the image in a slot, where it verifies. -/
def Hub.goodImage (h : Hub) (slot : Nat) : Option ImageHead :=
  match imageHead h.flash.mem slot with
  | some i => if imageSigned h.flash.mem slot i ∧ h.flash.fused ≤ i.svn then some i else none
  | none => none

/-! ### Update state -/

/-- UPD_STATUS.STATE codes (Table 16.5). -/
inductive UState16 where
  | idle | receiving | staged | couch | trial | fallback
deriving DecidableEq, Repr

/-- The code of an update state. -/
def UState16.code : UState16 → Nat
  | .idle => 0 | .receiving => 1 | .staged => 2 | .couch => 3 | .trial => 4 | .fallback => 5

/-- Whether the update state is st. -/
def Hub.updIs (h : Hub) (st : UState16) : Bool := h.flash.upd.state == st.code

/-- Chunks of the open session. -/
def Hub.updTotal (h : Hub) : Nat := ((h.flash.upd.session.map (fun p => p.2)).getD 0) / 512

/-- R386: whether chunk k is present: its mark is written and the flash content has its CRC. -/
def chunkPresent (m : List Host.Cell) (k : Nat) : Bool :=
  let mark := flashRead m (chunkTable + 8 * k) 8
  mark.drop 4 == [0x00#8, 0xFF#8, 0xFF#8, 0xFF#8] && mark.take 4 == leBytes 4 (crc32c (flashRead m (stagingSlot + 512 * k) 512)).toNat

/-- Chunks of the open session that are present. -/
def Hub.updPresent (h : Hub) : Nat := ((List.range h.updTotal).filter (fun k => chunkPresent h.flash.mem k)).length

/-- The UPD_ page follows the update state (Table 16.5). -/
def Hub.showUpd (h : Hub) : Hub :=
  let u := h.flash.upd
  let id := (u.session.map (fun p => p.1)).getD 0#64
  let h1 := (((h.set Fld.UPD_STATUS_STATE u.state).set Fld.UPD_PROGRESS_TOTAL h.updTotal).set Fld.UPD_PROGRESS_PRESENT h.updPresent)
  let h2 := (h1.wr Reg.UPD_SESSID_LO (id.setWidth 32)).wr Reg.UPD_SESSID_HI ((id >>> 32).setWidth 32)
  let staged := u.state == 2 || u.state == 3 || u.state == 4
  let head := if staged then imageHead h.flash.mem (if u.state == 4 then activeSlot else stagingSlot) else none
  let h3 := match head with
    | some i => (((h2.set Fld.UPD_STAGEREL_MAJ i.major).set Fld.UPD_STAGEREL_MIN i.minor).set Fld.UPD_STAGEREL_PATCH i.patch).set
        Fld.UPD_SVN_STAGESVN i.svn
    | none => (h2.wr Reg.UPD_STAGEREL 0).set Fld.UPD_SVN_STAGESVN 0
  h3.set Fld.UPD_SVN_FUSED h.flash.fused

/-- The update state changes (R389). -/
def Hub.setUpd (h : Hub) (u : UpdState) : Hub := Hub.showUpd { h with flash := { h.flash with upd := u } }

/-- R397: an UPDATE record of an event. -/
def Hub.updRecord (h : Hub) (event : Nat) : Hub :=
  let u := h.flash.upd
  h.journalLater 10 event (u.oldRel.1 + 0x100 * u.oldRel.2 + 0x10000 * u.newRel.1 + 0x1000000 * u.newRel.2 + 0x100000000 * u.newSvn +
    0x10000000000 * h.flash.fused)

/-! ### Requests (R385 to R388) -/

/-- Whether the hub's boot ROM is in recovery (R395). -/
def Hub.inRecovery (h : Hub) : Bool := h.is Fld.UPD_STATUS_RECOVERY

/-- R385, R325, R395: whether a request of Table 16.2 is served: Ploia runs, or the boot ROM in recovery with a usable flash,
over the service port. -/
def Hub.updServed (h : Hub) (req : Req) : Bool :=
  if h.inRecovery then decide (req.origin = .service) && !h.flash.refused else !h.halted

/-- R385: a request is judged for its world, which the recovery set drops. -/
def Hub.updReq (h : Hub) (req : Req) (f : Hub → Hub) : Hub :=
  if !h.updServed req then h
  else if req.secure ∨ h.is Fld.REAM_STATUS_BYPASS ∨ h.inRecovery then f h
  else h.refuseWorld req Reg.UPD_CTL

/-- A request ends with a RESULT code of Table 16.5. -/
def Hub.updEnd (h : Hub) (req : Req) (code : Nat) (data : List Nat) : Hub :=
  (h.set Fld.UPD_RESULT_RESULT code).answer req.origin (.result code data)

/-- R387: whether the state refuses requests other than CONFIRM. -/
def Hub.updLocked (h : Hub) : Bool := decide (2 ≤ h.flash.upd.state)

/-- R389, R390: a session opens: the chunk table is erased. -/
def Hub.sessionOpen (h : Hub) (id : BitVec 64) (len : Nat) : Hub :=
  (h.setFlash (flashErase h.flash.mem chunkTable 0x10000)).setUpd { h.flash.upd with state := 1, session := some (id, len) }

/-- The session ends. -/
def Hub.sessionEnd (h : Hub) : Hub := h.setUpd { h.flash.upd with state := 0, session := none }

/-- START (Table 16.2, R387). -/
def Hub.updStart (h : Hub) (req : Req) (id : BitVec 64) (len : Nat) (force : Bool) : Hub :=
  if h.updLocked then h.updEnd req 3 []
  else
    let open_ (g : Hub) : Hub :=
      if len % 512 ≠ 0 ∨ len < 65536 ∨ 4194304 < len then g.updEnd req 5 []
      else g.unlessDefer req (.start id len force) (fun k => (k.sessionOpen id len).updEnd req 1 [len / 512])
    match h.flash.upd.session with
    | some p =>
      if p.1 = id then h.showUpd.updEnd req 1 [h.updTotal - h.updPresent]
      else if force then open_ h else h.updEnd req 2 []
    | none => open_ h

/-- UPD_START (R385, R387). -/
def execUpdStart (req : Req) (id : BitVec 64) (len : Nat) (force : Bool) (s : State) : Host.Outcome State Fault Refusal :=
  s.on (fun h => h.updReq req (fun g => g.updStart req id len force))

/-- R386: where the target area is neither erased nor identical to the chunk, its 4 KiB sub-sector is erased and its other
present chunks are written back (log 157). -/
def chunkErase (m : List Host.Cell) (index : Nat) (data : List Byte) : List Host.Cell :=
  let t := flashRead m (stagingSlot + 512 * index) 512
  if t.all (fun b => b == 0xFF#8) || t == data then m
  else (List.range 8).foldl (fun g j =>
    let k := 8 * (index / 8) + j
    if k ≠ index ∧ chunkPresent m k then g else flashErase g (stagingSlot + 512 * k) 512) m

/-- R386: the chunk is written and read back, then its mark; a mark once written stays. -/
def Hub.chunkStore (h : Hub) (index : Nat) (crc : Word) (data : List Byte) : Hub :=
  let m := flashWrite (chunkErase h.flash.mem index (slice data 0 512)) (stagingSlot + 512 * index) (slice data 0 512)
  let mark := flashRead m (chunkTable + 8 * index) 8
  let m1 := if mark.all (fun b => b == 0xFF#8) then
      flashWrite m (chunkTable + 8 * index) (leBytes 4 crc.toNat ++ [0x00#8, 0xFF#8, 0xFF#8, 0xFF#8])
    else m
  ((h.setFlash m1).count Reg.UPD_CNT_CHUNK).showUpd

/-- CHUNK (R386, R387); ok tells whether the flash takes and reads back the chunk (R386), else its octets are free values. -/
def Hub.updChunk (h : Hub) (req : Req) (id : BitVec 64) (index : Nat) (crc : Word) (data : List Byte) (ok : Bool) : Hub :=
  if h.updLocked then h.updEnd req 3 []
  else match h.flash.upd.session with
    | none => h.updEnd req 3 []
    | some p =>
      if p.1 ≠ id then h.updEnd req 2 []
      else if h.updTotal ≤ index then h.updEnd req 5 []
      else if crc32c (slice data 0 512) ≠ crc then h.updEnd req 4 []
      else if chunkPresent h.flash.mem index then (h.count Reg.UPD_CNT_DUP).updEnd req 1 []
      else h.unlessDefer req (.chunk id index crc data ok) (fun g =>
        if ok then (g.chunkStore index crc data).updEnd req 1 []
        else ((g.setFlash (flashWrite (chunkErase g.flash.mem index (slice data 0 512)) (stagingSlot + 512 * index)
          ((List.range 512).map (fun k => Config.badTrailer g.draws k)))).draw).updEnd req 10 [])

/-- UPD_CHUNK (R386). -/
def execUpdChunk (req : Req) (id : BitVec 64) (index : Nat) (crc : Word) (data : List Byte) (ok : Bool) (s : State) :
    Host.Outcome State Fault Refusal :=
  s.on (fun h => h.updReq req (fun g => g.updChunk req id index crc data ok))

/-- FLT_UPDFAIL. -/
def Hub.updFail (h : Hub) (code : Nat) : Hub := h.raise Flt.UPDFAIL 3 0 code 0

/-- R388: the checks of COMMIT in their order: the code of the first that fails, or the image. -/
def Hub.commitCheck (h : Hub) : Except Nat ImageHead :=
  if h.updPresent < h.updTotal then .error 6
  else match imageHead h.flash.mem stagingSlot with
    | none => .error 7
    | some i =>
      if i.len ≠ 512 * h.updTotal then .error 7
      else if !imageSigned h.flash.mem stagingSlot i then .error 8
      else if i.svn < h.flash.fused ∨ 64 < i.svn then .error 9
      else .ok i

/-- COMMIT (R388, R390): a whole image is staged; with RESET an orderly reset follows 10 ms after. -/
def Hub.updCommit (h : Hub) (req : Req) (id : BitVec 64) (reset : Bool) : Hub :=
  if h.updLocked then h.updEnd req 3 []
  else match h.flash.upd.session with
    | none => h.updEnd req 3 []
    | some p =>
      if p.1 ≠ id then h.updEnd req 2 []
      else match h.commitCheck with
        | .error 6 => (h.updFail 6).updEnd req 6 []
        | .error c => h.unlessDefer req (.commit id reset) (fun g => (g.updFail c).sessionEnd.updEnd req c [])
        | .ok i => h.unlessDefer req (.commit id reset) (fun g =>
            let u : UpdState := { g.flash.upd with
              state := 2, window := max 1 (min 1440 (g.get Fld.UPD_CFG_WINDOW)),
              oldRel := (g.get Fld.UPD_RUNREL_MAJ, g.get Fld.UPD_RUNREL_MIN), newRel := (i.major, i.minor), newSvn := i.svn, step := 0 }
            let g1 := ((g.setUpd u).evt Fld.UPD_EVT_STAGED).updRecord 1
            (if reset then g1.arm .stagedReset (ms 10) else g1).updEnd req 1 [])

/-- UPD_COMMIT (R388). -/
def execUpdCommit (req : Req) (id : BitVec 64) (reset : Bool) (s : State) : Host.Outcome State Fault Refusal :=
  s.on (fun h => h.updReq req (fun g => g.updCommit req id reset))

/-- ABORT (Table 16.3): in RECEIVING and STAGED the session ends and the staging slot is free (log 43). -/
def Hub.updAbort (h : Hub) (req : Req) : Hub :=
  if h.updIs .receiving ∨ h.updIs .staged then
    h.unlessDefer req .abort (fun g => ((g.updRecord 5).sessionEnd.disarm .stagedReset).updEnd req 1 [])
  else h.updEnd req 3 []

/-- UPD_ABORT (R390). -/
def execUpdAbort (req : Req) (s : State) : Host.Outcome State Fault Refusal := s.on (fun h => h.updReq req (fun g => g.updAbort req))

/-- R393, R384: security-version fuses are blown until their number equals an SVN. -/
def Hub.svnRaise (h : Hub) (svn : Nat) : Hub :=
  if h.flash.fused < svn then
    let h1 : Hub := { h with flash := { h.flash with fused := svn } }
    ((h1.set Fld.UPD_SVN_FUSED svn).evt Fld.UPD_EVT_SVNUP).updRecord 6
  else h

/-- R394: the settings store not in force is retired. -/
def Flash.retire (f : Flash) : Flash := if f.useB then { f with storeA := none } else { f with storeB := none }

/-- CONFIRM (R393, Table 16.3). -/
def Hub.updConfirm (h : Hub) (req : Req) : Hub :=
  if h.inRecovery then h
  else if !h.updIs .trial then h.updEnd req 3 []
  else if !h.sealed_ then h.updEnd req 11 []
  else h.unlessDefer req .confirm (fun g =>
    let g1 := ((g.setUpd { g.flash.upd with state := 0, session := none }).evt Fld.UPD_EVT_CONFIRMED).updRecord 3
    let g2 := g1.svnRaise g1.flash.upd.newSvn
    (Hub.disarm { g2 with flash := g2.flash.retire } .trial).updEnd req 1 [])

/-- UPD_CONFIRM (R393). -/
def execUpdConfirm (req : Req) (s : State) : Host.Outcome State Fault Refusal := s.on (fun h => h.updReq req (fun g => g.updConfirm req))

/-- A write of UPD_CTL with KEY 0xA5 (Table 16.5). -/
def Hub.updCtl (h : Hub) (req : Req) (v : Word) : Hub :=
  if v.extractLsb' 8 8 ≠ 0xA5#8 then h
  else
    let h1 := if v.getLsbD 1 then h.updReq req (fun g => g.updAbort req) else h
    if v.getLsbD 0 then h1.updReq req (fun g => g.updConfirm req) else h1

/-! ### The boot ROM (R391, R392, R395) -/

/-- R394: the settings as an image that starts on trial makes them: converted into the other store. -/
def Flash.trialStore (f : Flash) (i : ImageHead) : Flash :=
  let gen := (((if f.useB then f.storeB else f.storeA).map (fun s => s.gen)).getD 0) + 1
  let s : Settings := ⟨i.setMajor, i.setMinor, gen⟩
  if f.useB then { f with storeA := some s, useB := false } else { f with storeB := some s, useB := true }

/-- R394: on fall-back the trial's store is erased, the old one in force again. -/
def Flash.dropTrial (f : Flash) : Flash := if f.useB then { f with storeB := none, useB := false } else { f with storeA := none, useB := true }

/-- R331, R395: Ploia runs from a slot: measured, its release and SVN shown, the service port declared (R446). In IDLE it blows
the fuses that its own SVN is ahead of (R393). -/
def Hub.bootRun (h : Hub) (slot : Nat) (i : ImageHead) (fromStage : Bool) : Hub :=
  let dig := sha384 (flashRead h.flash.mem slot i.len)
  let h0 : Hub := { h with flash := { h.flash with booted := true }, halted := false }
  let h1 := (h0.wrOctets48 Reg.KEY_MEASP (beBytes 48 dig.toNat)).set Fld.KEY_MEASSVN_SVN h.flash.fused
  let h2 := ((((h1.set Fld.UPD_RUNREL_MAJ i.major).set Fld.UPD_RUNREL_MIN i.minor).set Fld.UPD_RUNREL_PATCH i.patch).set
    Fld.UPD_SVN_RUNSVN i.svn).flag Fld.UPD_STATUS_FROMSTAGE fromStage
  let h3 := (if fromStage then h2.updFail 0 else h2).showUpd
  let h4 := if h3.updIs .idle ∧ !h3.deferred then h3.svnRaise i.svn else h3
  (h4.bootOtk).setPloia true

/-- R395: the boot ROM enters recovery. -/
def Hub.bootRecovery (h : Hub) : Hub :=
  let h1 : Hub := { h with flash := { h.flash with booted := true }, halted := true }
  ((h1.set Fld.UPD_STATUS_RECOVERY 1).updRecord 7).showUpd

/-- R395: the active image where it verifies, else the one in the staging slot, else recovery. -/
def Hub.bootChoose (h : Hub) : Hub :=
  match h.goodImage activeSlot with
  | some i => h.bootRun activeSlot i false
  | none =>
    match h.goodImage stagingSlot with
    | some i => h.bootRun stagingSlot i true
    | none => h.bootRecovery

/-- R391: how many sectors a swap of the two slots takes. -/
def Hub.couchSectors (h : Hub) : Nat :=
  let len (slot : Nat) : Nat := ((imageHead h.flash.mem slot).map (fun i => i.len)).getD 0
  (max (len activeSlot) (len stagingSlot) + 65535) / 65536

/-- BOOT_IMAGE_VERIFY (R306, R384, R390, R395): the boot ROM of a hub out of chip reset: a staged image is verified again and its
swap begins, a trial is put back, a swap goes on; otherwise an image runs. sfdp tells whether the flash is accepted (R306). -/
def execBootImageVerify (sfdp : Bool) (s : State) : Host.Outcome State Fault Refusal :=
  s.on (fun h =>
    if h.aon.held ∨ h.flash.booted then h
    else if !sfdp then Hub.bootRecovery { h with flash := { h.flash with refused := true } }
    else
      let u := h.flash.upd
      if h.updIs .staged then
        match h.goodImage stagingSlot with
        | some _ => h.setUpd { u with state := 3, step := 0, sectors := h.couchSectors }
        | none => ((h.setUpd { u with state := 0, session := none }).updFail 8).bootChoose
      else if h.updIs .trial then (h.disarm .trial).setUpd { u with state := 5, step := 0, sectors := h.couchSectors }
      else if h.updIs .couch ∨ h.updIs .fallback then h.showUpd
      else h.bootChoose)

/-- R391: one step of the swap of a sector: 0 active to scratch, 1 staging to active, 2 scratch to staging. -/
def couchStep (m : List Host.Cell) (k : Nat) : List Host.Cell :=
  let off := 0x10000 * (k / 3)
  let copy (src dst : Nat) : List Host.Cell := flashWrite (flashErase m dst 0x10000) dst (flashRead m src 0x10000)
  if k % 3 = 0 then copy (activeSlot + off) 0xA40000
  else if k % 3 = 1 then copy (stagingSlot + off) (activeSlot + off)
  else copy 0xA40000 (stagingSlot + off)

/-- R390, R392: the swap is complete: a couch ends in the trial of the new image, a swap back with the old image. -/
def Hub.couchDone (h : Hub) : Hub :=
  let u := h.flash.upd
  match imageHead h.flash.mem activeSlot with
  | none => h.bootChoose
  | some i =>
    if h.updIs .couch then
      let h1 := (((h.setUpd { u with state := 4 }).evt Fld.UPD_EVT_TRIAL).updRecord 2).arm .trial (ms (60000 * u.window))
      Hub.bootRun { h1 with flash := h1.flash.trialStore i } activeSlot i false
    else
      let h1 := (((h.setUpd { u with state := 0, session := none }).evt Fld.UPD_EVT_FELLBACK).count Reg.UPD_CNT_FALLBACK).updRecord 4
      Hub.bootRun (Hub.raise { h1 with flash := h1.flash.dropTrial } Flt.TRIALBACK 3 0 0 0) activeSlot i false

/-- COUCH_STEP_DONE (R391, R423): a step of the swap is done; ok tells whether it read back right and is recorded, else it is
repeated. None starts while DEFER is set. -/
def execCouchStepDone (ok : Bool) (s : State) : Host.Outcome State Fault Refusal :=
  s.on (fun h =>
    let u := h.flash.upd
    if h.aon.held ∨ h.flash.booted ∨ !(h.updIs .couch || h.updIs .fallback) ∨ h.deferred ∨ !ok then h
    else
      let h1 := (h.setFlash (couchStep h.flash.mem u.step)).setUpd { u with step := u.step + 1 }
      if 3 * u.sectors ≤ u.step + 1 then h1.couchDone else h1)

/-- TRIAL_EXPIRY (R392): the trial window ends; the AON island orders a chip reset of kind 6. A CONFIRM of the same AONCLK cycle is given
before it (DESIGN CHOICE, log 159). -/
def execTrialExpiry (s : State) : Host.Outcome State Fault Refusal :=
  s.on (fun h => h.onDue .trial (fun g => if g.updIs .trial then g.chipReset 6 else g))

end Sys2Proof.Machine
end

