-- ==== Sys2Proof/Machine/Bus.lean ====
section
/-! DEFINITION. The register bus: what a read or a write of any register of the hub-local map does, the memory windows, and the
order in which an access is judged (R82, R83, R90, R91, R94, R95). Commands REGISTER_WRITE, COUNTER_READ,
PRESEAL_HOST_ACCESS, UNIT_NOP. -/

namespace Sys2Proof.Machine

/-! ### Islands -/

/-- The island that holds the registers of a page (R14, R84, Tables 01.1 and 11.1); for GRD_ that of EVA. Table 01.1 names MBR_
with the receive sides of five lanes: its page is taken as held in MGMT (DESIGN CHOICE, log 127). -/
def regIsland (a : Nat) : Nat :=
  let p := a / 0x10000
  if p = 0x01 then 1
  else if p = 0x02 then 4 + a % 0x10000 / 0x4000
  else if p = 0x04 ∨ p = 0x20 then 2
  else if p = 0x05 ∨ p = 0x06 then 14
  else if p = 0x07 then 10 + a % 0x10000 / 0x1000 % 4
  else if p = 0x08 then (if a % 0x10000 < 0x4000 then 8 else 9)
  else if 0x10 ≤ p ∧ p ≤ 0x17 then 15 + (p - 0x10)
  else if p = 0x18 ∨ p = 0x19 then 24
  else if p = 0x1A then 23
  else if p = 0x22 ∨ p = 0x24 ∨ p = 0x25 then 0
  else 3

/-- R301: whether the crossing from MGMT to an island is STOPPED; MGMT reaches itself always. -/
def Hub.islandStopped (h : Hub) (i : Nat) : Bool := decide (i ≠ 3) && h.xStopped (cmdCrossing i)
/-- Whether the crossing from MGMT to an island is in RESET or RESYNC (Table 11.4). -/
def Hub.islandWaits (h : Hub) (i : Nat) : Bool := decide (i ≠ 3) && !h.xOpen (cmdCrossing i) && !h.xStopped (cmdCrossing i)
/-- R248, R298: a register write waits for the crossing to its island to open; a read is answered at once (DESIGN CHOICE, log 140). -/
def Hub.writeWaits (h : Hub) (i : Nat) (req : Req) (a : Nat) (v : Word) : Hub := { h with xwaits := h.xwaits ++ [(i, req, .write a v)] }

/-! ### Unit commands by their registers (R23, Table 01.5) -/

/-- The units whose command registers stand in a page. -/
def pageUnits (p : Nat) : List UnitId :=
  if p = 0x02 then (List.range 4).map laneUnit
  else if p = 0x08 then [laneUnit 4]
  else if p = 0x07 then (List.range 4).map stUnit
  else if 0x10 ≤ p ∧ p ≤ 0x17 then cluUnit (p - 0x10) :: (List.range 8).map (engUnit (p - 0x10))
  else if p = 0x18 then (List.range 8).map grpUnit
  else if p = 0x19 then (List.range 16).map grdUnit
  else if p = 0x1A then (List.finRange 16).map .bus
  else []

/-- The unit whose command register stands at an address; its status register is the next one. -/
def unitAt (a : Nat) : Option UnitId := (pageUnits (a / 0x10000)).find? (fun u => decide (u.cmdStat = some (a + 4)))

/-- The registers that MGMT holds for a unit (R21, R23): its shadow and its command status. -/
def mgmtHeld (a : Nat) : Bool := allUnits.any (fun u => decide (u.shadow = a) || decide (u.cmdStat = some a))

/-- What a unit does with CMD and ARG; NOP is DONE (R23), a code that its chapter does not list BADCMD (log 44). -/
def Hub.unitBody (h : Hub) (u : UnitId) (cmd arg : Nat) : CmdResult × Hub :=
  if cmd = 0 then (.done, h)
  else match u with
  | .engine c e => match cmd with
    | 1 => h.engStartCmd c.val e.val (arg % 64)
    | 2 => h.engStopCmd c.val e.val
    | 3 => h.engRestart c.val e.val
    | 4 => h.engStep c.val e.val
    | 5 => h.engRelease c.val e.val
    | _ => (.badcmd, h)
  | .cluster c => match cmd with
    | 1 => h.cluSync c.val (BitVec.ofNat 8 arg)
    | 2 => h.cluArm c.val (BitVec.ofNat 8 arg)
    | 3 => h.cluDisarm c.val (BitVec.ofNat 8 arg)
    | 4 => h.cluStop c.val (BitVec.ofNat 8 arg)
    | _ => (.badcmd, h)
  | .bus b => match cmd with
    | 1 => h.busDisable b.val
    | 2 => h.busEnable b.val
    | 3 => h.busRecover b.val
    | 4 => h.busSleep b.val
    | 5 => h.busWakeCmd b.val
    | 6 => h.busAbort b.val
    | 7 => h.busFlush b.val
    | _ => (.badcmd, h)
  | .station p => match cmd with
    | 1 => h.stDisable p.val
    | 2 => h.stEnable p.val
    | 3 => h.stRestart p.val
    | _ => (.badcmd, h)
  | .lane l => match cmd with
    | 1 => h.laneDisable l.val
    | 2 => h.laneEnable l.val
    | 3 => h.laneRetrain l.val
    | _ => (.badcmd, h)
  | .guarded n => match cmd with
    | 1 => h.grdDisable n.val
    | 2 => h.grdEnable n.val
    | 3 => h.grdClear n.val
    | _ => (.badcmd, h)
  | .sensed g => match cmd with
    | 1 => h.senDisableCmd g.val
    | 2 => h.senEnableCmd g.val
    | _ => (.badcmd, h)
  | .host => (.badcmd, h)

/-- A write of a unit's command register (Table 01.5). -/
def Hub.unitCommand (h : Hub) (u : UnitId) (req : Req) (v : Word) : Hub :=
  h.command u req (v.extractLsb' 0 8).toNat (v.extractLsb' 8 16).toNat (v.extractLsb' 24 8)
    (fun g => g.unitBody u (v.extractLsb' 0 8).toNat (v.extractLsb' 8 16).toNat)

/-- UNIT_NOP (R23): a write of CMD 0 with EXPECT to a unit's command register. -/
def execUnitNop (req : Req) (u : UnitId) (expect : BitVec 8) (s : State) : Host.Outcome State Fault Refusal :=
  s.on (fun h => h.command u req 0 0 expect (fun g => (.done, g)))

/-! ### Pops of the transaction block -/

/-- R202: a read of XB_PFQ pops the oldest notice and latches its address and SEQ. -/
def Hub.pfqPop (h : Hub) : Word × Hub :=
  match h.xact.pfq with
  | [] => (0#32, h)
  | n :: t =>
    let w := 0x80000000 + 0x1000000 * min 127 h.xact.pfqLost + 0x20000 * n.cause + (if n.world then 0x10000 else 0) + n.stream.toNat % 4096
    let h1 := { h with xact := { h.xact with pfq := t, pfqLost := 0 } }
    (BitVec.ofNat 32 w,
     (h1.wr Reg.XB_PFQ_ADDR_LO (n.addr.extractLsb' 0 32)).wr Reg.XB_PFQ_ADDR_HI (n.seq ++ n.addr.extractLsb' 32 16))

/-- XB_DBLVL shows the number of doorbells queued. -/
def Hub.showDoorbells (h : Hub) : Hub := h.set Fld.XB_DBLVL_LEVEL h.xact.doorbells.length

/-- R211: a read of XB_DOORBELL pops the oldest doorbell; 0 when empty. -/
def Hub.doorbellPop (h : Hub) : Word × Hub :=
  match h.xact.doorbells with
  | [] => (0#32, h)
  | w :: t => (w, Hub.showDoorbells { h with xact := { h.xact with doorbells := t } })

/-- R213: a write of XB_SB_DATA sends a side-band message on HP's stream to XB_SB_DST: in C0-C3 on every path, in C4-C7 by its
route, and within the hub where HUB names it. -/
def Hub.sbSend (h : Hub) (v : Word) : Hub :=
  let ring := h.get Fld.XB_SB_DST_RING
  let hub := h.get Fld.XB_SB_DST_HUB
  let cls := h.get Fld.XB_SB_DST_CLASS
  let kind := h.get Fld.XB_SB_DST_KIND
  let arg : BitVec 48 := BitVec.ofNat 5 (h.get Fld.XB_SB_DST_PORT) ++ 0#11 ++ v
  let stream := h.get Fld.XB_STREAM_HPSTR
  let q := h.nextSeq stream
  if cls ≤ 3 then q.2.sendEvent 9 ⟨h.blockHeader 9 10 cls kind ring hub stream q.1 h.now arg 0, [], 0⟩
  else if hub = 0 ∨ h.isSelf ring hub then
    let f : Frame := ⟨h.blockHeader 9 10 cls kind ring hub stream q.1 h.now arg 0, [], 0⟩
    let o := q.2.localOuts f
    if o.1.isEmpty then o.2 else o.2.offer 9 f o.1 false false
  else
    let r := h.sendXact 9 10 cls kind (h.portSecure 9) ring hub stream 0 arg []
    match r.1 with
    | some _ => r.2
    | none => (h.count Reg.XB_CNT_NOROUTE).evt Fld.XB_EVT_NOROUTE

/-! ### Reads -/

/-- R12, R13: the read that clears a counter returns what it held before the present tick; what the hub counts in this tick stays. -/
def Hub.counterTake (h : Hub) (a : Nat) : Word × Hub :=
  match Assoc.get h.fresh a with
  | none => (h.rd a, h.wr a 0#32)
  | some c => (c.before, Hub.wr { h with fresh := Assoc.put h.fresh a { c with before := 0#32 } } a (BitVec.ofNat 32 (min 0xFFFFFFFF c.events)))

/-- A read of a register without behaviour of its own (R12): WO bits read 0, a counter (RC) is cleared. -/
def Hub.plainRead (h : Hub) (a : Nat) : Word × Hub :=
  if rcBits a = 0#32 then (h.rd a &&& ~~~woBits a, h) else h.counterTake a

/-- The remaining time of a timer in units of d ps, rounded up; 0 where it does not run. -/
def Hub.left (h : Hub) (t : Timer) (d : Nat) : Nat :=
  match Assoc.get h.timers t with
  | none => 0
  | some e => (e - h.clock + d - 1) / d

/-- The tags that requests of HP or MC hold (XB_TAGUSE). -/
def Hub.tagsUsed (h : Hub) (mc : Bool) : Nat := (h.xact.out.filter (fun o => o.req.mc == mc)).length

/-- ISL_CLKSTAT (Table 11.6): the clocks that run. -/
def Hub.clkStat (h : Hub) : Word :=
  BitVec.ofNat 32 ((List.range 26).foldl (fun n i => if h.clocksOff.contains i then n else n + 2 ^ i) 0)

/-- Whether an address is one of the registers of host window 0. -/
def isWindow0 (a : Nat) : Bool := decide (Reg.HP_WIN_CTL 0 ≤ a) && decide (a < Reg.HP_WIN_CTL 0 + 0x14)

/-- What a read of a listed register returns and does (R12, and the rules that the registers' chapters give reads). -/
def Hub.regRead (h : Hub) (req : Req) (a : Nat) : Word × Hub :=
  let p := a / 0x10000
  let off := a % 0x10000
  if h.islandStopped (regIsland a) && !mgmtHeld a then (Config.freeWord h.draws, h.draw)
  else if a = Reg.CHIP_CALLER then (if req.secure then 1#32 else 0#32, h)
  else if a = Reg.TIME_NOW_NS then h.timeNowRead
  else if a = Reg.SW_VATMIN then h.vatMinRead
  else if p = 0x04 ∧ 0x2000 ≤ off ∧ off < 0x4000 ∧ off % 0x10 = 0 then h.queuePop (off % 0x2000 / 0x10)
  else if p = 0x04 ∧ 0x4000 ≤ off then
    let q := (off - 0x4000) / 0x1000
    let k := off % 0x1000
    (BitVec.ofNat 32 (ofLe ((List.range 4).map (fun i => h.windowOctet q (k + i)))), h)
  else if a = Reg.XB_PFQ then h.pfqPop
  else if a = Reg.XB_DOORBELL then h.doorbellPop
  else if a = Reg.XB_TAGUSE then (BitVec.ofNat 32 (0x10000 * h.tagsUsed true + h.tagsUsed false), h)
  else if p = 0x07 ∧ off % 0x1000 = 0x20 then h.tsPop (off / 0x1000)
  else if 0x10 ≤ p ∧ p ≤ 0x17 ∧ 0x1000 ≤ off ∧ off < 0x1800 ∧ off % 0x100 = 0x28 then h.rxqPop (p - 0x10) ((off - 0x1000) / 0x100)
  else if 0x10 ≤ p ∧ p ≤ 0x17 ∧ a = Reg.BRD_LINEIN (p - 0x10) ∧ !h.is (Fld.BRD_CCFG_EN (p - 0x10)) then (0#32, h)
  else if a = Reg.FLT_RECPOP then h.recordPop
  else if a = Reg.LOG_AGE then
    (BitVec.ofNat 32 (if h.log.committed then min 0xFFFFFFFF ((h.clock - h.log.commitAt) / ms 1) else 0), h)
  else if a = Reg.PWR_COOL then (BitVec.ofNat 32 (h.left .offTime (ms 1)), h)
  else if a = Reg.UPD_TRIAL then (BitVec.ofNat 32 (h.left .trial (ms 1000)), h)
  else if a = Reg.ISL_CLKSTAT then (h.clkStat, h)
  else h.plainRead a

/-! ### Writes -/

/-- All octets of a word. -/
def fullMask : Word := 0xFFFFFFFF#32

/-- The engines of a cluster that refuse a change of word w of the program store (R247). -/
def Hub.windowBusy (h : Hub) (c w : Nat) : List Nat :=
  (List.range 8).filter (fun e =>
    (h.engRuns c e || h.engArmed c e) &&
      decide ((w + 512 - h.get (Fld.BRD_EWIN_BASE c e)) % 512 < h.get (Fld.BRD_EWIN_LEN c e)))

/-- R247, R249: a write of the program store or of an engine's configuration, which the engines es refuse: ignored with
FLT_SEALWR where LOCK was sealed and it would change the register; dropped with PROGERR where an engine refuses. -/
def Hub.progWrite (h : Hub) (c a : Nat) (v : Word) (es : List Nat) : Hub :=
  if h.sealed_ ∧ h.is (Fld.BRD_CCFG_LOCK c) then
    if (h.rd a ^^^ v) &&& rwBits a = 0#32 then h else h.raise Flt.SEALWR 3 0 a v.toNat
  else if es.isEmpty then h.fieldWrite a v fullMask
  else es.foldl (fun (g : Hub) e => g.evt ⟨Reg.BRD_EVT c, e, 1⟩) h

/-- R249: whether a write to a register of a cluster would change a register that LOCK has sealed. -/
def Hub.breaksLock (h : Hub) (a : Nat) (v : Word) : Bool :=
  let p := a / 0x10000
  let off := a % 0x10000
  decide (0x10 ≤ p) && decide (p ≤ 0x17) && h.sealed_ && h.is (Fld.BRD_CCFG_LOCK (p - 0x10)) &&
    (decide (0x8000 ≤ off) || (decide (0x1000 ≤ off) && decide (off < 0x1800) && decide (off % 0x100 ≤ 0x10))) &&
    decide ((h.rd a ^^^ v) &&& rwBits a ≠ 0#32)

/-- A write that reaches no field of a register: one of the fixed window 0, or one behind a STOPPED crossing (R301). After seal it raises
FLT_SEALWR where it would change a sealed field (R94). -/
def Hub.lostWrite (h : Hub) (a : Nat) (v : Word) : Hub := if h.breaksSeal a v fullMask then h.raise Flt.SEALWR 3 0 a v.toNat else h

/-- A write of a cluster's registers (Tables 08.8 and 08.9). -/
def Hub.brdWrite (h : Hub) (c a : Nat) (v : Word) : Hub :=
  let off := a % 0x10000
  if a = Reg.BRD_FLAGSET c then h.flagMask c (v.extractLsb' 0 8) true
  else if a = Reg.BRD_FLAGS c then h.flagMask c (v.extractLsb' 0 8) false
  else if 0x8000 ≤ off then h.progWrite c a v (h.windowBusy c ((off - 0x8000) / 4))
  else if 0x1000 ≤ off ∧ off < 0x1800 then
    let e := (off - 0x1000) / 0x100
    let k := off % 0x100
    if k ≤ 0x10 then
      let h1 := h.progWrite c a v (if h.engRuns c e || h.engArmed c e then [e] else [])
      if k = 8 then h1.joined c e else h1
    else if k = 0x24 then h.txqPush c e v
    else h.fieldWrite a v fullMask
  else h.fieldWrite a v fullMask

/-- R261: a write of a GRD_ register reaches the copies of EVA and of EVB together; one behind a STOPPED crossing keeps
what it held (R301). SENSE follows RBPOL (R266). -/
def Hub.grdWrite (h : Hub) (a : Nat) (v : Word) : Hub :=
  let w := if h.sealed_ then rwBits a else rwBits a ||| rwsBits a
  let hB := if h.islandStopped 25 then h else h.wrB a (mergedWord a (h.rdB a) v fullMask w (h.kept a))
  let h1 := if h.islandStopped 24 then hB.lostWrite a v else hB.fieldWrite a v fullMask
  if a % 0x100 = 0 ∧ a % 0x10000 < 0x1000 then h1.rbShow (a % 0x10000 / 0x100) else h1

/-- A write of MBR_CTL (Table 05.8): FREE, CENSUS and SWAP in the order of their bits. -/
def Hub.mbrCtl (h : Hub) (v : Word) : Hub :=
  let h1 := if v.getLsbD 29 then h.freeCmd (v.extractLsb' 0 7).toNat else h
  let h2 := if v.getLsbD 30 then h1.swapCmd else h1
  if v.getLsbD 31 then h2.censusCmd else h2

/-- A write of KEY_OP (R346): OP 1 APPLY, 2 DESTROY; the other codes do nothing. -/
def Hub.keyOp (h : Hub) (v : Word) : Hub :=
  match (v.extractLsb' 0 2).toNat with
  | 1 => h.keyApply
  | 2 => h.keyDestroy (v.extractLsb' 8 7).toNat
  | _ => h

/-- A write of TIME_ registers with behaviour of their own (R44, R46, R65, R66, R73). -/
def Hub.timeWrite (h : Hub) (req : Req) (a : Nat) (v : Word) : Hub :=
  if a = Reg.TIME_INC_HI then h.ownerWrite req a (fun g => g.incCommit v)
  else if a = Reg.TIME_STEP_CTL then h.ownerWrite req a (fun g => g.stepCtl v)
  else if a = Reg.TIME_OFFSET then h.ownerWrite req a (fun g => g.offsetWrite v)
  else if Reg.TIME_HORIZON 0 ≤ a ∧ a ≤ Reg.TIME_HORIZON 7 then h.horizonWrite ((a - Reg.TIME_HORIZON 0) / 4) v
  else if Reg.TIME_INC_MIN_LO ≤ a ∧ a ≤ Reg.TIME_INC_MAX_HI then (h.fieldWrite a v fullMask).incJudge
  else h.fieldWrite a v fullMask

/-- A write of FLT_ registers with behaviour of their own (R350, R355, R362, R364, R366, R368). -/
def Hub.fltWrite (h : Hub) (a : Nat) (v : Word) : Hub :=
  if a = Reg.FLT_ALIVE then (if v.getLsbD 31 then h.aliveRearm else h)
  else if a = Reg.FLT_ERRN then (h.fieldWrite a v 0x7FFFFFFF#32).errnHold (v.getLsbD 31)
  else if Reg.FLT_PEND 0 ≤ a ∧ a ≤ Reg.FLT_PEND 3 then h.pendClear ((a - Reg.FLT_PEND 0) / 4) v
  else if a = Reg.FLT_STREQ then h.testRequest v
  else if a = Reg.FLT_INJ then h.faultInject v
  else if 0x211000 ≤ a ∧ a < 0x211800 ∧ a % 16 = 0 then h.srcCfgWrite ((a - 0x211000) / 16) v fullMask
  else h.fieldWrite a v fullMask

/-- What a whole-word write of a listed register does once R90 and R83 accept it. -/
def Hub.regWrite (h : Hub) (req : Req) (a : Nat) (v : Word) : Hub :=
  let p := a / 0x10000
  let off := a % 0x10000
  match unitAt a with
  | some u => h.unitCommand u req v
  | none =>
    if p = 0x19 then (if h.islandWaits 24 then h.writeWaits 24 req a v else if h.islandWaits 25 then h.writeWaits 25 req a v else h.grdWrite a v)
    else if h.islandStopped (regIsland a) then h.lostWrite a v
    else if h.islandWaits (regIsland a) then h.writeWaits (regIsland a) req a v
    else if p = 0x01 then h.timeWrite req a v
    else if a = Reg.MBR_CTL then h.mbrCtl v
    else if a = Reg.XB_SB_DATA then h.sbSend v
    else if Reg.SW_TSCFG 0 0 ≤ a ∧ a ≤ Reg.SW_TSCFG 21 7 then
      (h.fieldWrite a v fullMask).tsWrite ((a - Reg.SW_TSCFG 0 0) / 32) ((a - Reg.SW_TSCFG 0 0) / 4 % 8)
    else if isWindow0 a then h.lostWrite a v
    else if 0x10 ≤ p ∧ p ≤ 0x17 then h.brdWrite (p - 0x10) a v
    else if p = 0x1A ∧ off % 0x1000 = 0x94 then h.txGo (off / 0x1000) v
    else if a = Reg.KEY_OP then h.keyOp v
    else if Reg.KEY_STAGE 0 ≤ a ∧ a ≤ Reg.KEY_STAGE 15 then h.wr a v
    else if Reg.KEY_RSEL 0 ≤ a ∧ a ≤ Reg.KEY_RSEL 15 then h.rselWrite ((a - Reg.KEY_RSEL 0) / 4) v
    else if p = 0x21 then h.fltWrite a v
    else if a = Reg.LOG_CTL then h.logCtl v
    else if a = Reg.UPD_CTL then h.updCtl req v
    else if a = Reg.PWR_CTL then h.pwrRearm v
    else if a = Reg.PWR_RSTCTL then h.rstCtl v
    else if a = Reg.SVC_OVR then h.svcOverride req v
    else if a = Reg.SVC_OVRREQ ∧ !req.secure then h.refuseWorld req a
    else if a = Reg.ISL_GRESET then h.groupOrder v
    else h.fieldWrite a v fullMask

/-! ### Crossings that open -/

/-- R248: an entry that waited for its crossing acts: a command that is still PENDING is judged (R24), a write reaches its register. -/
def Hub.entryActs (h : Hub) (req : Req) : XEntry → Hub
  | .write a v => h.regWrite req a v
  | .command u cmd arg expect =>
    match u.cmdStat with
    | none => h
    | some a =>
      if (h.rd a).extractLsb' 0 4 = 1#4 then
        ((h.disarm (.command u.num)).wr a (h.rd a &&& 0xFFFFFFF0#32)).command u req cmd arg expect (fun g => g.unitBody u cmd arg)
      else h

/-- R248: what waited for the command crossing of an island acts in the order in which it was sent. -/
def Hub.crossed (h : Hub) (i : Nat) : Hub :=
  (h.xwaits.filter (fun e => decide (e.1 = i))).foldl (fun (g : Hub) e => g.entryActs e.2.1 e.2.2)
    { h with xwaits := h.xwaits.filter (fun e => !decide (e.1 = i)) }

/-- CROSSING_RESYNC_DONE (R300): the crossing opens; the units behind it catch up, what waited for it crosses, and a group whose
crossings are all OPEN starts. -/
def execCrossingResyncDone (x : Crossing) (s : State) : Host.Outcome State Fault Refusal :=
  s.on (fun h =>
    if Assoc.get h.xings x = some XState.resync then
      let h1 := h.setXing x none
      let h2 := (if x = pushCrossing x.src.val then h1.catchUp x.src.val else h1).groupsDone
      if x = cmdCrossing x.dst.val then h2.crossed x.dst.val else h2
    else h)

/-! ### Accesses to the hub-local map -/

/-- Table 03.2: whether n octets from an address lie in the vat diagnostic window. -/
def inVat (a n : Nat) : Bool := decide (0x10000000 ≤ a) && decide (a + n ≤ 0x10800000)
/-- Table 03.2: whether n octets from an address lie in the watermark log window. -/
def inLog (a n : Nat) : Bool := decide (0x20000000 ≤ a) && decide (a + n ≤ 0x20040000)

/-- R85, R90: the world of the item that holds a word: true secure; none where it belongs to no world. -/
def Hub.itemWorld (h : Hub) (a : Nat) : Option Bool :=
  if a < 0x1000000 then (if (pageRows (a / 0x10000)).isEmpty then none else some (h.pageSecure (a / 0x10000)))
  else if inVat a 1 then some true
  else if inLog a 1 then some (h.is Fld.CHIP_MISCWLD_LOGWIN)
  else none

/-- R90: whether a word of an access is refused for its world. -/
def Hub.worldBarsWord (h : Hub) (req : Req) (a : Nat) : Bool := !req.secure && decide (h.itemWorld a = some true)

/-- The addresses of the aligned words that n octets from an address touch. -/
def wordsOf (a n : Nat) : List Nat := (List.range ((a % 4 + n + 3) / 4)).map (fun k => a / 4 * 4 + 4 * k)

/-- Table 03.2: whether n octets from an address are a naturally aligned 32-bit or 64-bit word of listed registers. -/
def regShape (a n : Nat) : Bool :=
  decide (a < 0x1000000) && (decide (n = 4 ∧ a % 4 = 0) || decide (n = 8 ∧ a % 8 = 0)) &&
    (wordsOf a n).all (fun w => (regRow w).isSome)

/-- Table 03.2: whether n octets from an address are a read that a window accepts. -/
def windowShape (a n : Nat) : Bool := (inVat a n || inLog a n) && decide (1 ≤ n) && decide (n ≤ 2048)

/-- R91: FLT_WORLD for the first word that is refused, at its address beside the access's fabric address fa. -/
def Hub.worldRefused (h : Hub) (req : Req) (a n fa : Nat) : Hub :=
  match (wordsOf a n).find? (fun w => h.worldBarsWord req w) with
  | some w => h.refuseWorld req (fa + (w - a))
  | none => h

/-- R83: FLT_DECODE, once for a request. -/
def Hub.decodeRefused (h : Hub) (req : Req) (fa : Nat) : Hub := h.raise Flt.DECODE 3 req.port.val fa req.origin.code

/-- The words of a register access, read in order, lower address first. -/
def Hub.regReads (h : Hub) (req : Req) : List Nat → List Byte × Hub
  | [] => ([], h)
  | w :: t =>
    let r := h.regRead req w
    let s := Hub.regReads r.2 req t
    (leBytes 4 r.1.toNat ++ s.1, s.2)

/-- R152: n octets of the vat diagnostic window, single-bit errors corrected and counted (R153); a word with two errors reads as stored
and raises FLT_VATECC. -/
def Hub.vatRead (h : Hub) (off n : Nat) : List Byte × Hub :=
  let octet (k : Nat) : Byte :=
    let b := h.sw.wrong (k / 8)
    Sparse.get zeroByte h.sw.vat k ^^^ (if 2 ≤ bitCount b then b.extractLsb' (8 * (k % 8)) 8 else 0#8)
  let words := (List.range ((off % 8 + n + 7) / 8)).map (fun k => off / 8 + k)
  let e := h.sw.eccScan words
  let bad := words.filter (fun k => decide (2 ≤ bitCount (h.sw.wrong k)))
  ((List.range n).map (fun k => octet (off + k)), bad.foldl (fun (g : Hub) k => g.raise Flt.VATECC 2 22 (k / 16) (k % 16)) (h.corrected e.1))

/-- A read of n octets of the local map outside the bridged windows (R82, R83, R90, R91): its completion status (0 SC, 1 UR)
and data. An access with words of both kinds is SC (log 45). -/
def Hub.localRead (h : Hub) (req : Req) (a n fa : Nat) : Nat × List Byte × Hub :=
  let ws := wordsOf a n
  if ws.any (fun w => h.worldBarsWord req w) then
    let h1 := h.worldRefused req a n fa
    (0, List.replicate n 0xFF, if ws.all (fun w => h.worldBarsWord req w) then h1 else h1.decodeRefused req fa)
  else if regShape a n then
    let r := h.regReads req ws
    (0, r.1, r.2)
  else if windowShape a n then
    if inVat a n then
      let r := h.vatRead (a - 0x10000000) n
      (0, r.1, r.2)
    else (0, h.logOctets (a - 0x20000000) n, h)
  else (1, List.replicate n 0xFF, h.decodeRefused req fa)

/-- R27, R91: a command that the world rules refuse is recorded as DENIED beside FLT_WORLD; while another is pending it only sets
BUSYHIT (R25). -/
def Hub.denyAt (h : Hub) (a : Nat) (v : Word) : Hub :=
  match unitAt a with
  | some u => h.commandDenied u (v.extractLsb' 0 8).toNat
  | none => h

/-- The words of a register access, written in order, lower address first; whether R94 or R249 kept a sealed field. -/
def Hub.regWrites (h : Hub) (req : Req) : List (Nat × Word) → Bool × Hub
  | [] => (false, h)
  | (a, v) :: t =>
    let s := Hub.regWrites (h.regWrite req a v) req t
    (h.breaksSeal a v fullMask || h.breaksLock a v || s.1, s.2)

/-- The words that aligned data holds, with their addresses. -/
def dataWords (a : Nat) (data : List Byte) : List (Nat × Word) :=
  (wordsOf a data.length).map (fun w => (w, BitVec.ofNat 32 (ofLe (slice data (w - a) 4))))

/-- A write of the local map outside the bridged windows (R82, R83, R90, R91, R94); masked tells that a mask leaves octets out
(R181). It answers the notice cause where the write draws one. -/
def Hub.localWrite (h : Hub) (req : Req) (a : Nat) (data : List Byte) (masked : Bool) (fa : Nat) : Option Nat × Hub :=
  let ws := wordsOf a data.length
  if ws.any (fun w => h.worldBarsWord req w) then
    let h1 := (dataWords a data).foldl (fun (g : Hub) e => if h.worldBarsWord req e.1 then g.denyAt e.1 e.2 else g) h
    let h2 := h1.worldRefused req a data.length fa
    (some causeWORLD, if ws.all (fun w => h.worldBarsWord req w) then h2 else h2.decodeRefused req fa)
  else if regShape a data.length && !masked then
    let r := h.regWrites req (dataWords a data)
    (if r.1 then some causeSEALED else none, r.2)
  else (some causeDECODE, h.decodeRefused req fa)

/-! ### Commands -/

/-- REGISTER_WRITE (R82, R83, R90, R91, R94 to R96, R247, R249): a 32-bit write with octet enables be at a local address. -/
def execRegisterWrite (req : Req) (a : BitVec 36) (v : Word) (be : BitVec 4) (s : State) : Host.Outcome State Fault Refusal :=
  s.on (fun h =>
    if h.preSeal req then h.countPreSeal
    else (h.localWrite req a.toNat (leBytes 4 v.toNat) (decide (be ≠ 0xF#4)) a.toNat).2)

/-- COUNTER_READ (R12, R82, R83, R90, R91): a 32-bit read at a local address; RC fields are cleared by the read that returns
them. -/
def execCounterRead (req : Req) (a : BitVec 36) (s : State) : Host.Outcome State Fault Refusal :=
  s.on (fun h =>
    if h.preSeal req then h.countPreSeal.emit (.reply req a.toNat 0xFFFFFFFF#32)
    else
      let r := h.localRead req a.toNat 4 a.toNat
      r.2.2.emit (.reply req a.toNat (BitVec.ofNat 32 (ofLe r.2.1))))

/-- PRESEAL_HOST_ACCESS (R95): a host memory request before seal; a read returns all ones. -/
def execPresealHostAccess (read : Bool) (req : Req) (a : BitVec 36) (s : State) : Host.Outcome State Fault Refusal :=
  s.on (fun h =>
    if h.preSeal req then
      (if read then h.countPreSeal.emit (.reply req a.toNat 0xFFFFFFFF#32) else h.countPreSeal)
    else h)

/-- NOTICE_QUEUE_POP (R202): a read of XB_PFQ. -/
def execNoticeQueuePop (req : Req) (s : State) : Host.Outcome State Fault Refusal :=
  s.on (fun h => h.reading req Reg.XB_PFQ Hub.pfqPop)

/-- DOORBELL_POP (R211): a read of XB_DOORBELL. -/
def execDoorbellPop (req : Req) (s : State) : Host.Outcome State Fault Refusal :=
  s.on (fun h => h.reading req Reg.XB_DOORBELL Hub.doorbellPop)

/-- SB_DATA_WRITE (R213): a write of XB_SB_DATA. -/
def execSbDataWrite (req : Req) (v : Word) (s : State) : Host.Outcome State Fault Refusal :=
  s.on (fun h => h.writing req Reg.XB_SB_DATA (fun g => g.sbSend v))

end Sys2Proof.Machine
end

