-- ==== Sys2Proof/Machine/Ream.lean ====
section
/-! DEFINITION. The ream as an octet string: its parts, and the slot checks of Table 12.5 up to the entries (R308 to R316). -/

namespace Sys2Proof.Machine

/-- A register-list entry (R312): OFFSET, MASK, VALUE. -/
structure RegEntry where
  off : Nat
  mask : Word
  value : Word
deriving DecidableEq, Repr

/-- A sheet as it lies in a ream (Table 12.3): its index in ream order, header fields, body and pad. -/
structure Sheet where
  index : Nat
  typ : Nat
  vmaj : Nat
  vmin : Nat
  optional : Bool
  bcrc : Word
  body : List Byte
  pad : List Byte
deriving DecidableEq, Repr

/-- What a sheet's body holds: key entries (KEY), register entries, the Kazex header (HORIZON 2.0), and for an ENGINE sheet its
cluster and the place and words of its program. -/
structure SheetBody where
  keys : List (List Byte)
  regs : List RegEntry
  kazex : Option (List Byte)
  cluster : Nat
  pbase : Nat
  words : List Word
deriving DecidableEq, Repr

/-- A ream whose checks up to ENTRY have passed: format, GEN, digest (R311), the sheets that apply in the order of R319, and the
indexes of the OPTIONAL sheets that are skipped (R314). -/
structure Ream where
  major : Nat
  minor : Nat
  gen : Nat
  digest : BitVec 384
  sheets : List (Sheet × SheetBody)
  skipped : List Nat
deriving DecidableEq, Repr

/-- Why a slot is not valid (Table 12.5): the code, and the failing sheet where there is one. -/
structure ReamBad where
  code : Nat
  sheet : Option (Nat × Nat)
deriving DecidableEq, Repr

/-! ### Parsing -/

/-- n register entries of 12 octets from an offset. -/
def regEntries (b : List Byte) (off n : Nat) : List RegEntry :=
  (List.range n).map (fun k =>
    ⟨ofLe (slice b (off + 12 * k) 4), BitVec.ofNat 32 (ofLe (slice b (off + 12 * k + 4) 4)),
     BitVec.ofNat 32 (ofLe (slice b (off + 12 * k + 8) 4))⟩)

/-- R312: a register list from an offset of a body to its end, where its shape holds. -/
def regList (b : List Byte) (off : Nat) : Option (List RegEntry) :=
  let n := ofLe (slice b off 4)
  if n ≤ 4096 ∧ ofLe (slice b (off + 4) 4) = 0 ∧ b.length = off + 8 + 12 * n then some (regEntries b (off + 8) n) else none

/-- The body of a sheet by its TYPE (R312, R315, Table 12.6, and the KEY sheet of "Keys and measured boot"), where its shape
holds. -/
def sheetBody (s : Sheet) : Option SheetBody :=
  let b := s.body
  if s.typ = 3 then
    let n := ofLe (slice b 0 4)
    let r := ofLe (slice b 4 4)
    if n ≤ 63 ∧ r ≤ 4096 ∧ b.length = 8 + 64 * n + 12 * r then
      some ⟨(List.range n).map (fun k => slice b (8 + 64 * k) 64), regEntries b (8 + 64 * n) r, none, 0, 0, []⟩
    else none
  else if s.typ = 14 then
    let r := ofLe (slice b 4 4)
    let p := ofLe (slice b 8 2)
    let w := ofLe (slice b 10 2)
    if (b.getD 0 0#8).toNat ≤ 7 ∧ ofLe (slice b 1 3) = 0 ∧ r ≤ 4096 ∧ p ≤ 511 ∧ w ≤ 512 ∧ p + w ≤ 512 ∧ ofLe (slice b 12 4) = 0 ∧
        b.length = 16 + 12 * r + 4 * w then
      some ⟨[], regEntries b 16 r, none, (b.getD 0 0#8).toNat, p,
        (List.range w).map (fun k => BitVec.ofNat 32 (ofLe (slice b (16 + 12 * r + 4 * k) 4)))⟩
    else none
  else if s.typ = 7 ∧ s.vmaj = 2 then
    if ofLe (slice b 12 4) = 0 then (regList b 16).map (fun l => ⟨[], l, some (slice b 0 12), 0, 0, []⟩) else none
  else (regList b 0).map (fun l => ⟨[], l, none, 0, 0, []⟩)

/-- R308, Table 12.3: n sheets from an offset, and the offset behind the last pad octet; none where one reaches past the end. -/
def sheetChain (b : List Byte) : Nat → Nat → Nat → Option (List Sheet × Nat)
  | 0, _, off => some ([], off)
  | n + 1, i, off =>
    let len := ofLe (slice b (off + 4) 4)
    let next := off + 16 + (len + 7) / 8 * 8
    if b.length < next then none
    else
      let o (k : Nat) : Nat := (b.getD (off + k) 0#8).toNat
      let s : Sheet := ⟨i, ofLe (slice b off 2), o 2, o 3, o 12 % 2 == 1, BitVec.ofNat 32 (ofLe (slice b (off + 8) 4)),
        slice b (off + 16) len, slice b (off + 16 + len) (next - (off + 16 + len))⟩
      (sheetChain b n (i + 1) next).map (fun r => (s :: r.1, r.2))

/-! ### What a sheet may hold (Table 12.4, R313) -/

/-- Whether a TYPE is reserved (Table 12.4). -/
def reservedType (t : Nat) : Bool := decide (t = 0 ∨ 19 ≤ t)

/-- Table 12.4: the versions accepted, in a ream of a format major. -/
def versionOk (major : Nat) (s : Sheet) : Bool :=
  if s.typ = 2 ∨ s.typ = 8 then decide (s.vmaj = 1 ∧ s.vmin ≤ 1)
  else if s.typ = 7 then (if major = 1 then decide (s.vmaj = 1 ∧ s.vmin = 0) else decide (s.vmaj = 2 ∧ s.vmin = 0))
  else if s.typ = 14 then decide (s.vmaj = 2 ∨ (s.vmaj = 3 ∧ s.vmin = 0))
  else decide (s.vmaj = 1 ∧ s.vmin = 0)

/-- Whether an address is a lane's RING_CTL. -/
def isRingCtl (a : Nat) : Bool := (List.range 5).any (fun l => decide (a = Reg.RING_CTL l))
/-- The registers of the HORIZON sheet. -/
def horizonReg (a : Nat) : Bool :=
  (List.range 8).any (fun c => decide (a = Reg.TIME_HORIZON c ∨ a = Reg.TIME_HBOUND c)) ||
  (List.range 22).any (fun i => (List.range 8).any (fun c => decide (a = Reg.SW_BUDGET i c))) || decide (a = Reg.MBR_DDCFG)

/-- Table 12.4: whether a sheet of a TYPE may write a register; for ENGINE, of one cluster. -/
def sheetMayWrite (typ cluster a : Nat) : Bool :=
  let p := a / 0x10000
  if typ = 1 then p == 0x24
  else if typ = 2 then
    (List.range 8).any (fun m => decide (a = Reg.CHIP_PAGEWLD m)) ||
      decide (a = Reg.CHIP_WINWLD ∨ a = Reg.CHIP_PORTWLD ∨ a = Reg.CHIP_MISCWLD) || isRingCtl a
  else if typ = 3 then decide (a = Reg.KEY_AUTHCFG) || (List.range 16).any (fun r => decide (a = Reg.KEY_RSEL r))
  else if typ = 4 then p == 0x21
  else if typ = 5 then p == 0x22
  else if typ = 6 then p == 0x01 && !horizonReg a
  else if typ = 7 then horizonReg a
  else if typ = 8 then p == 0x03 && decide (a ≠ Reg.MBR_DDCFG)
  else if typ = 9 then p == 0x02 || p == 0x08
  else if typ = 10 then p == 0x04 && !horizonReg a
  else if typ = 11 then p == 0x05
  else if typ = 12 then p == 0x06
  else if typ = 13 then p == 0x07
  else if typ = 14 then p == 0x10 + cluster && decide (a % 0x10000 < 0x8000)
  else if typ = 15 then p == 0x18
  else if typ = 16 then p == 0x19
  else if typ = 17 then p == 0x1A
  else if typ = 18 then p == 0x25
  else false

/-- The bits of a register that RWS and RW fields hold, as the field tables give them (R313). -/
def openBits (a : Nat) : Word :=
  if a = Reg.CHIP_PORTWLD then 0x3FFFFF#32
  else match regRow a with
    | none => 0#32
    | some r => BitVec.ofNat 32 r.rw ||| BitVec.ofNat 32 r.rws

/-- The bits of RING_CTL.SECAUTH. -/
def secAuthMask : Word := (Fld.RING_CTL_SECAUTH 0).mask

/-- The bits that an entry of a sheet may have in its MASK: SECAUTH of RING_CTL belongs to the SECURITY sheet, and the rest of
RING_CTL to the RING sheet. -/
def sheetBits (typ a : Nat) : Word :=
  if isRingCtl a then (if typ = 2 then openBits a &&& secAuthMask else openBits a &&& ~~~secAuthMask) else openBits a

/-- R313: whether an entry is valid in a sheet. -/
def entryOk (typ cluster : Nat) (e : RegEntry) : Bool :=
  decide (e.off % 4 = 0) && decide (e.off < 0x1000000) && (regRow e.off).isSome && sheetMayWrite typ cluster e.off &&
    decide (e.mask &&& ~~~sheetBits typ e.off = 0#32) && decide (e.value &&& ~~~e.mask = 0#32)

/-- R314: whether a TYPE stands twice: once for each cluster in ENGINE sheets. -/
def repeatedType (l : List Sheet) (s : Sheet) : Bool :=
  l.any (fun t => decide (t.index < s.index ∧ t.typ = s.typ) && (decide (s.typ ≠ 14) || decide (slice t.body 0 1 = slice s.body 0 1)))

/-- R319: the sheets that apply, in ascending TYPE, ENGINE sheets in ascending CLUSTER. -/
def applyOrder (l : List (Sheet × SheetBody)) : List (Sheet × SheetBody) :=
  (List.range 19).flatMap (fun t => (List.range 8).flatMap (fun c => l.filter (fun e => decide (e.1.typ = t ∧ e.2.cluster = c))))

/-! ### The slot checks (R316, Table 12.5) -/

/-- The first sheet that fails a check, as the failure of a code. -/
def firstBad (code : Nat) (l : List Sheet) (bad : Sheet → Bool) : Option ReamBad :=
  (l.find? bad).map (fun s => ⟨code, some (s.index, s.typ)⟩)

/-- The header length of a format (R310); of another format, the one that HDRLEN gives, where it is one of the two. -/
def headLen (major hdrlen : Nat) : Nat := if major = 1 then 32 else if major = 2 then 64 else if hdrlen = 32 then 32 else 64

/-- Checks 2 to 4, 5 and 13: the header, the sheet chain, TARGET and MINPLOIA; the sheets where they pass. -/
def Hub.reamHead (h : Hub) (b : List Byte) : Except Nat (List Sheet) :=
  let o (k : Nat) : Nat := (b.getD k 0#8).toNat
  let hl := headLen (o 4) (ofLe (slice b 6 2))
  let covered := if hl = 64 then 56 else 28
  let tot := ofLe (slice b 8 4)
  let n := ofLe (slice b 16 2)
  let target := slice b 20 8
  let need := if o 4 = 1 then (0, 0) else (o 28, o 29)
  if b.take 4 ≠ [0x52#8, 0x45#8, 0x41#8, 0x4D#8] then .error 1
  else if ofLe (slice b 6 2) ≠ hl ∨ slice b covered 4 ≠ leBytes 4 (crc32c (slice b 0 covered)).toNat then .error 2
  else if ¬((o 4 = 2 ∧ o 5 = 0) ∨ o 4 = 1) then .error 3
  else if tot % 8 ≠ 0 ∨ tot < 288 ∨ 1048576 < tot ∨ b.length ≠ tot ∨ n < 1 ∨ 64 < n then .error 4
  else match sheetChain b n 0 hl with
    | none => .error 4
    | some r =>
      if r.2 + 200 ≠ tot then .error 4
      else if ofLe target ≠ 0 ∧ target ≠ h.serialLe then .error 5
      else if verBelow (h.get Fld.UPD_RUNREL_MAJ, h.get Fld.UPD_RUNREL_MIN) need then .error 13
      else .ok r.1

/-- Checks 6 and 7: the trailer's key against the owner fuses (R332), the signature under R311. -/
def Hub.reamSigned (h : Hub) (b : List Byte) : Option Nat :=
  let t := b.length - 200
  let key := slice b (t + 8) 96
  let fused := h.keys.fuses.any (fun f => decide (f.digest = some (sha384 key)) && !f.revoked)
  if slice b t 4 ≠ [0x53#8, 0x49#8, 0x47#8, 0x4E#8] ∨ ofLe (slice b (t + 4) 2) ≠ 1 ∨ !fused then some 6
  else if !ecdsaOk key (sha384 (b.take (t + 104))) (slice b (t + 104) 96) then some 7
  else none

/-- Checks 8 to 11: BCRC and pads, types, versions, entries; each over every sheet in ream order. -/
def sheetsBad (major : Nat) (l : List Sheet) : Option ReamBad :=
  let used := l.filter (fun s => !reservedType s.typ)
  (firstBad 8 l (fun s => decide (crc32c s.body ≠ s.bcrc) || s.pad.any (· ≠ 0#8))).orElse (fun _ =>
  (firstBad 9 l (fun s => (reservedType s.typ && !s.optional) || (decide (s.typ = 18 ∧ major = 1)) || repeatedType l s)).orElse (fun _ =>
  (firstBad 10 used (fun s => !versionOk major s)).orElse (fun _ =>
  firstBad 11 used (fun s => match sheetBody s with
    | none => true
    | some c => c.regs.any (fun e => !entryOk s.typ c.cluster e)))))

/-- The checks of Table 12.5 up to ENTRY: the ream, or the first failure. -/
def Hub.reamParse (h : Hub) (b : List Byte) : Except ReamBad Ream :=
  match h.reamHead b with
  | .error c => .error ⟨c, none⟩
  | .ok l =>
    match h.reamSigned b with
    | some c => .error ⟨c, none⟩
    | none =>
      let major := (b.getD 4 0#8).toNat
      match sheetsBad major l with
      | some e => .error e
      | none =>
        let used := l.filter (fun s => !reservedType s.typ)
        .ok ⟨major, (b.getD 5 0#8).toNat, ofLe (slice b 12 4), sha384 (b.take (b.length - 200)),
          applyOrder (used.filterMap (fun s => (sheetBody s).map (fun c => (s, c)))),
          (l.filter (fun s => reservedType s.typ)).map (fun s => s.index)⟩

/-! ### Sheets on the registers (R312, R317, R319) -/

/-- A note of class F0 (R317). -/
def Hub.reamNote (h : Hub) (cause sheet entry : Nat) : Hub :=
  (((h.countField Fld.REAM_NOTE_COUNT).set Fld.REAM_NOTE_CAUSE cause).set Fld.REAM_NOTE_SHEET sheet).set Fld.REAM_NOTE_ENTRY entry

/-- Ploia's request on its own hub. -/
def ploiaReq : Req := ⟨true, .ploia, 10⟩

/-- A register as a sheet writes it: TIME_INC_HI, TIME_OFFSET and KEY_RSELr act as at run time; the rest as R12 says. -/
def Hub.sheetWrite (h : Hub) (a : Nat) (v : Word) : Hub :=
  if a = Reg.TIME_INC_HI then h.incCommit v
  else if a = Reg.TIME_OFFSET then h.offsetWrite v
  else h.regWrite ploiaReq a v

/-- Table 03.4: the bits of the world map that name items of a fixed world. -/
def fixedWorldBits (a : Nat) : Word :=
  if a = Reg.CHIP_PAGEWLD 0 then 0x1#32 else if a = Reg.CHIP_PAGEWLD 1 then 0x9#32
  else if a = Reg.CHIP_PORTWLD then 0x200400#32 else 0#32

/-- R33: the fields of PWR_WIN and PWR_LIM that an entry would set looser than the pins. -/
def Hub.looseBits (h : Hub) (a : Nat) (w m : Word) : Word :=
  let f (f p : Field) (higher : Bool) : Word :=
    if f.mask &&& m ≠ 0#32 ∧ (if higher then h.get p < f.of w else f.of w < h.get p) then f.mask else 0#32
  if a = Reg.PWR_WIN then f Fld.PWR_WIN_UV_R Fld.PWR_PIN0_UV_P false ||| f Fld.PWR_WIN_OV_R Fld.PWR_PIN0_OV_P true
  else if a = Reg.PWR_LIM then f Fld.PWR_LIM_VLIM_R Fld.PWR_PIN1_VLIM_P true ||| f Fld.PWR_LIM_PLIM_R Fld.PWR_PIN1_PLIM_P true
  else 0#32

/-- R312: the register with the masked bits replaced; event bits are left as they are. -/
def Hub.entryWord (h : Hub) (e : RegEntry) (m : Word) : Word := ((h.rd e.off &&& ~~~m) ||| (e.value &&& m)) &&& ~~~w1cBits e.off

/-- One entry of a sheet (R312), with the notes of R33 and R85. -/
def Hub.sheetEntry (h : Hub) (s : Sheet) (j : Nat) (e : RegEntry) : Hub :=
  if (h.rd e.off ^^^ e.value) &&& e.mask &&& fixedWorldBits e.off ≠ 0#32 then h.reamNote 2 s.index j
  else
    let loose := h.looseBits e.off (h.entryWord e e.mask) e.mask
    let h1 := h.sheetWrite e.off (h.entryWord e (e.mask &&& ~~~loose))
    if loose ≠ 0#32 then h1.reamNote 1 s.index j else h1

/-- The key entries of a KEY sheet, and whether each is accepted (R339). -/
def Hub.keyEntries (h : Hub) : List (List Byte) → Bool × Hub
  | [] => (true, h)
  | e :: t =>
    let r := h.applyEntry e
    let q := Hub.keyEntries r.2 t
    (decide (r.1 = .done) && q.1, q.2)

/-- The register entries of a sheet, and whether each KEY_RSELr write is accepted (R343). -/
def Hub.regsRun (h : Hub) (s : Sheet) : Nat → List RegEntry → Bool × Hub
  | _, [] => (true, h)
  | j, e :: t =>
    let ok := if s.typ = 3 ∧ Reg.KEY_RSEL 0 ≤ e.off then h.rselOk (h.entryWord e e.mask) else true
    let q := Hub.regsRun (h.sheetEntry s j e) s (j + 1) t
    (ok && q.1, q.2)

/-- R321: the Kazex header of the HORIZON sheet. -/
def Hub.kazex (h : Hub) (o : List Byte) : Hub :=
  let w (k : Nat) : Word := BitVec.ofNat 32 (ofLe (slice o (4 * k) 4))
  ((h.wr Reg.REAM_KAZEX_REL (w 0)).wr Reg.REAM_KAZEX_LO (w 1)).wr Reg.REAM_KAZEX_HI (w 2)

/-- One sheet applied; and whether every key entry and KEY_RSELr write of it was accepted. -/
def Hub.sheetRun (h : Hub) (p : Sheet × SheetBody) : Bool × Hub :=
  let k := h.keyEntries p.2.keys
  let r := k.2.regsRun p.1 0 p.2.regs
  let h1 := p.2.words.zipIdx.foldl (fun (g : Hub) w => g.wr (Reg.BRD_PROG p.2.cluster (p.2.pbase + w.2)) w.1) r.2
  let h2 := match p.2.kazex with
    | some o => h1.kazex o
    | none => h1
  (k.1 && r.1, h2)

/-- R250: whether a program word may stand in a 2.x image: no STMP, no EMIT, no WAIT on WIRE or EDGE. -/
def word2x (w : Word) : Bool :=
  !(decide (opOf w = 9 ∨ opOf w = 10) || (decide (opOf w = 1) && decide (opnd w 12 3 = 3 ∨ opnd w 12 3 = 4)))

/-- R32, R352: whether the bounds that a sheet of a TYPE sets hold once it is applied. -/
def Hub.boundsOk (h : Hub) (typ : Nat) : Bool :=
  if typ = 4 then (List.range 78).all (fun n =>
    decide (h.get (Fld.FLT_SRC_CFG_BASE n) ≤ h.get (Fld.FLT_SRC_CFG_CEIL n)) && decide (h.get (Fld.FLT_SRC_CFG_BASE n) ≤ 4))
  else if typ = 6 then decide (h.incAt Reg.TIME_INC_MIN_LO Reg.TIME_INC_MIN_HI ≤ h.incAt Reg.TIME_INC_MAX_LO Reg.TIME_INC_MAX_HI)
  else if typ = 7 then (List.range 8).all (fun c => decide (h.get (Fld.TIME_HBOUND_HMIN c) ≤ h.get (Fld.TIME_HBOUND_HMAX c)))
  else if typ = 9 then (List.range 5).all (fun l => (h.eqQuantities l).all (fun q => decide (q.2.1 ≤ q.2.2)))
  else if typ = 15 then (List.range 8).all (fun g => decide (h.get (Fld.SEN_GBND_TMIN g) ≤ h.get (Fld.SEN_GBND_TMAX g)))
  else true

/-- R317: the first sheet that is rejected, each judged on a copy of the registers on which the sheets before it are applied. -/
def Hub.firstReject (h : Hub) : List (Sheet × SheetBody) → Option ReamBad
  | [] => none
  | p :: t =>
    let r := h.sheetRun p
    let ok := r.1 && r.2.boundsOk p.1.typ && (decide (p.1.typ ≠ 14 ∨ p.1.vmaj ≠ 2) || p.2.words.all word2x)
    if ok then Hub.firstReject r.2 t else some ⟨12, some (p.1.index, p.1.typ)⟩

/-- The copy of the registers on which a ream is validated: as a chip reset leaves them, the root reconstructed, slot 0 filled,
the measurements of the running Ploia and of the ream. -/
def Hub.reamCopy (h : Hub) (d : BitVec 384) : Hub :=
  let h1 : Hub := { Hub.reset with
    clock := h.clock
    draws := h.draws
    regs := h.regs.filter (fun e => partReg e.1 || decide (Reg.KEY_MEASP 0 ≤ e.1 ∧ e.1 ≤ Reg.KEY_MEASP 11) || decide (e.1 = Reg.KEY_MEASSVN) ||
      decide (e.1 = Reg.PWR_PIN0 ∨ e.1 = Reg.PWR_PIN1))
    keys := { h.keys with root := none, ktag := 0, keys := [], tags := [] } }
  (h1.bootRoot.bootOtk).wrOctets48 Reg.KEY_MEASR (beBytes 48 d.toNat)

/-- R316, R317: every check of Table 12.5. -/
def Hub.reamCheck (h : Hub) (b : List Byte) : Except ReamBad Ream :=
  match h.reamParse b with
  | .error e => .error e
  | .ok r =>
    match (h.reamCopy r.digest).firstReject r.sheets with
    | some e => .error e
    | none => .ok r

/-! ### Slots -/

/-- Table 12.1: where a ream slot lies. -/
def reamSlot (n : Nat) : Nat := 0x810000 + 0x100000 * n

/-- The octets of the ream in a slot: as many as its TOTLEN says, at least a header. -/
def Hub.slotImage (h : Hub) (n : Nat) : List Byte :=
  let t := ofLe (flashRead h.flash.mem (reamSlot n + 8) 4)
  flashRead h.flash.mem (reamSlot n) (max 64 (min t 1048576))

/-- REAM_CHKn and REAM_GENn as a check leaves them (Table 12.9). -/
def Hub.showCheck (h : Hub) (n : Nat) (b : List Byte) (r : Except ReamBad Ream) : Hub :=
  let bad : ReamBad := match r with
    | .error e => e
    | .ok _ => ⟨0, none⟩
  let where_ : Nat × Nat := bad.sheet.getD (0xFF, 0)
  let w := BitVec.ofNat 32 (0x10000000 * bad.code + 0x10000 * (where_.1 % 256) + where_.2 % 65536)
  let gen := if 1 ≤ bad.code ∧ bad.code ≤ 3 then 0 else ofLe (slice b 12 4)
  if n = 0 then (h.wr Reg.REAM_CHK0 w).wr Reg.REAM_GEN0 (BitVec.ofNat 32 gen)
  else (h.wr Reg.REAM_CHK1 w).wr Reg.REAM_GEN1 (BitVec.ofNat 32 gen)

/-- The ream of a slot, where it is valid. -/
def Hub.slotReam (h : Hub) (n : Nat) : Option Ream :=
  match h.reamCheck (h.slotImage n) with
  | .ok r => some r
  | .error _ => none

/-- R325, R147, R373: bypass forwarding: EA, WA, EB and WB are enabled, 10GBASE-KR first, PL off; Ploia goes on ordering log
flushes, the first one interval of LOG_CFG.FLUSH after bypass is entered (log 71). -/
def Hub.bypassEnter (h : Hub) : Hub :=
  let h1 := (((h.set Fld.REAM_STATUS_BYPASS 1).set Fld.MBR_STATUS_BYPASS 1).set Fld.REAM_STATUS_SLOT 3).raise Flt.NOREAM 3 0 0 0
  let h2 := (List.range 4).foldl (fun (g : Hub) l => (g.setLane l { g.lane l with kr := true }).laneStart l) h1
  Hub.hostDetect (h2.arm .flushInterval (ms (1000 * max 10 (min 3600 (h2.get Fld.LOG_CFG_FLUSH)))))

/-- R316: the slot that Ploia takes: the valid one of the higher GEN, slot 0 on equal generations. -/
def chooseSlot (a b : Option Ream) : Option (Nat × Ream) :=
  match a, b with
  | some x, some y => if x.gen < y.gen then some (1, y) else some (0, x)
  | some x, none => some (0, x)
  | none, some y => some (1, y)
  | none, none => none

/-- The ream taken is measured (R331); where the other slot holds MAGIC and is not valid, FALLBACK and FLT_REAMSLOT. -/
def Hub.takeSlot (h : Hub) (n : Nat) (r : Ream) : Hub :=
  let h1 := (h.set Fld.REAM_STATUS_SLOT n).wrOctets48 Reg.KEY_MEASR (beBytes 48 r.digest.toNat)
  let other := if n = 0 then h.get Fld.REAM_CHK1_CODE else h.get Fld.REAM_CHK0_CODE
  if other ≠ 0 ∧ other ≠ 1 then (h1.set Fld.REAM_STATUS_FALLBACK 1).raise Flt.REAMSLOT 3 (1 - n) other 0 else h1

/-- Whether Ploia runs. -/
def Hub.ploia (h : Hub) : Bool := h.is Fld.SVC_STATUS_PLOIA

/-- REAM_SLOT_CHECK (R316, R325, R360): Ploia checks both slots and takes one; with none valid, or with the grave latch set, the
hub enters bypass forwarding. -/
def execReamSlotCheck (s : State) : Host.Outcome State Fault Refusal :=
  s.on (fun h =>
    if !h.ploia ∨ h.aon.held ∨ h.sealed_ ∨ h.get Fld.REAM_CHK0_CODE ≠ 15 then h
    else
      let b0 := h.slotImage 0
      let b1 := h.slotImage 1
      let h1 := (h.showCheck 0 b0 (h.reamCheck b0)).showCheck 1 b1 (h.reamCheck b1)
      if h.aon.grave.isSome then h1.bypassEnter
      else match chooseSlot (h.slotReam 0) (h.slotReam 1) with
        | some p => h1.takeSlot p.1 p.2
        | none => h1.bypassEnter)

end Sys2Proof.Machine
end

