-- ==== Sys2Proof/Machine/HostOut.lean ====
section
/-! DEFINITION. The bridged host windows and byte lanes (R197, R204, R206 to R209): how a fabric request becomes a request
towards host memory, and what leaves the outbound buffers. -/

namespace Sys2Proof.Machine

/-! ### Byte lanes -/

/-- R209: where the octet of an address stands through a window of the lane rule di. -/
def laneMap (di : Bool) (a : Nat) : Nat := if di then a / 4 * 4 + (3 - a % 4) else a

/-- The runs of addresses that n octets from an address reach through the lane rule di, each as start and length. -/
def laneRuns (di : Bool) (a n : Nat) : List (Nat × Nat) :=
  if n = 0 then []
  else if !di then [(a, n)]
  else if a / 4 = (a + n - 1) / 4 then [(laneMap true (a + n - 1), n)]
  else
    let head := if a % 4 = 0 then [] else [(a / 4 * 4, 4 - a % 4)]
    let lo := (a + 3) / 4 * 4
    let hi := (a + n) / 4 * 4
    let tail := if (a + n) % 4 = 0 then [] else [(hi + 4 - (a + n) % 4, (a + n) % 4)]
    head ++ (if lo < hi then [(lo, hi - lo)] else []) ++ tail

/-- The octets that a write of data at an address puts at the runs of the lane rule di. -/
def lanePieces (di : Bool) (a : Nat) (data : List Byte) : List (Nat × List Byte) :=
  (laneRuns di a data.length).map (fun r => (r.1, (List.range r.2).map (fun k => data.getD (laneMap di (r.1 + k) - a) 0)))

/-- The octet of an address among pieces. -/
def pieceOctet : List (Nat × List Byte) → Nat → Byte
  | [], _ => 0#8
  | (a, bs) :: t, x => if a ≤ x ∧ x < a + bs.length then bs.getD (x - a) 0 else pieceOctet t x

/-- n octets from an address, gathered from pieces that the lane rule di fetched. -/
def laneGather (di : Bool) (a n : Nat) (parts : List (Nat × List Byte)) : List Byte :=
  (List.range n).map (fun k => pieceOctet parts (laneMap di (a + k)))

/-- The octets of a masked word that its mask keeps, one by one. -/
def maskPieces (di : Bool) (a : Nat) (data : List Byte) (mask : BitVec 4) : List (Nat × List Byte) :=
  ((List.range 4).filter (fun k => mask.getLsbD k)).map (fun k => (laneMap di (a + k), [data.getD k 0]))

/-! ### Windows -/

/-- The size of window w in octets, none where SIZELOG disables it (R207, Table 07.15). -/
def Hub.winSize (h : Hub) (w : Nat) : Option Nat :=
  let s := h.get (Fld.HP_WIN_CTL_SIZELOG w)
  if 12 ≤ s ∧ s ≤ 35 then some (2 ^ s) else none

/-- SRC or DST of a window: bits below SIZELOG are ignored (Table 07.15). -/
def Hub.winAddr (h : Hub) (lo hi : Nat) (size : Nat) : Nat :=
  ((h.rd hi).toNat * 0x100000000 + (h.rd lo).toNat) / size * size

/-- Window w maps n octets from an address, where it is enabled with direction out and holds them all; the mapped address. -/
def Hub.winMaps (h : Hub) (out : Bool) (w a n : Nat) : Option Nat :=
  match h.winSize w with
  | none => none
  | some size =>
    let src := h.winAddr (Reg.HP_WIN_SRC_LO w) (Reg.HP_WIN_SRC_HI w) size
    if h.is (Fld.HP_WIN_CTL_EN w) ∧ h.is (Fld.HP_WIN_CTL_OUT w) = out ∧ src ≤ a ∧ a + n ≤ src + size then
      some (h.winAddr (Reg.HP_WIN_DST_LO w) (Reg.HP_WIN_DST_HI w) size + (a - src))
    else none

/-- R208: the enabled window of a direction with the lowest number that decides, and the mapped address (log 49). -/
def Hub.window (h : Hub) (out : Bool) (a n : Nat) : Option (Nat × Nat) :=
  ((List.range 32).drop 1).findSome? (fun w => (h.winMaps out w a n).map (fun m => (w, m)))

/-- Whether a local address lies in the range of bridged windows (Table 03.2). -/
def bridged (a : Nat) : Bool := decide (0x100000000 ≤ a)

/-- What keeps a request from host memory (Table 07.6, R204): the link down, Bus Master Enable clear or D3hot. -/
def Hub.hostBar (h : Hub) : Option Nat :=
  if !h.is Fld.HP_LINK_UP then some causeLINKDOWN
  else if !h.is Fld.HP_LINK_BME ∨ h.host.d3 then some causeNOBM
  else none

/-- The request as the world rules judge it: its frame's WORLD, its source and port of entry; for one that never left this hub
the host or Ploia. -/
def reqOf (f : Frame) (inp : Nat) : Req :=
  ⟨f.hdr.world, if inp = 9 then .host else if inp = 10 then .ploia else .fabric f.hdr.sring f.hdr.shub, Fin.ofNat 22 inp⟩

/-- The octets that wait in the outbound posted buffer. -/
def Hub.postedLoad (h : Hub) : Nat :=
  h.host.posted.foldl (fun n e => match e with
    | .write ps _ _ _ => n + ps.foldl (fun k p => k + p.2.length) 0
    | .msix _ => n + 4
    | .mark _ => n) 0

/-- R197: whether the outbound posted buffer of 32 KiB has room for the data of a frame; one that is not for host memory needs none. -/
def Hub.postedRoom (h : Hub) (f : Frame) : Bool :=
  !bridged (f.hdr.arg.extractLsb' 0 36).toNat || decide (h.postedLoad + f.payload.length ≤ 32768)

/-- R197: whether the outbound non-posted buffer of 32 requests has room for a request; one that is not for host memory needs none. -/
def Hub.npRoom (h : Hub) (f : Frame) : Bool := !bridged (f.hdr.arg.extractLsb' 0 36).toNat || decide (h.host.nps.length < 32)

/-- R90, R91: the first word of an access of n octets in the bridged range that a window of the secure world holds, where the access is
non-secure; the window with the lowest number that holds a word decides (R208). -/
def Hub.bridgedBars (h : Hub) (world : Bool) (a n : Nat) : Option Nat :=
  ((List.range ((a % 4 + n + 3) / 4)).map (fun k => a / 4 * 4 + 4 * k)).find? (fun w => !world && (match h.window true w 1 with
    | some (k, _) => (h.rd Reg.CHIP_WINWLD).getLsbD k
    | none => false))

/-- A write towards host memory enters the outbound posted buffer; where it cannot, the notice cause (R207, R208, Table 07.6). -/
def Hub.hostWrite (h : Hub) (inp : Nat) (f : Frame) (data : List Byte) (mask : Option (BitVec 4)) (answers : Option Nat) :
    Option Nat × Hub :=
  let a := (f.hdr.arg.extractLsb' 0 36).toNat
  match h.bridgedBars f.hdr.world a data.length with
  | some k => (some causeWORLD, h.refuseWorld (reqOf f inp) (f.hdr.arg.toNat + (k - a)))
  | none => match h.window true a data.length with
  | none => (some causeNOWIN, h)
  | some (w, m) =>
    match h.hostBar with
      | some c => (some c, h)
      | none =>
        let di := h.is (Fld.HP_WIN_CTL_DI w)
        let ps := match mask with
          | some b => maskPieces di m data b
          | none => lanePieces di m data
        (none, { h with host := { h.host with posted := h.host.posted ++ [.write ps inp f answers] } })

/-! ### What leaves the outbound buffers -/

/-- TLPs of at most size octets that do not cross a 4 KiB boundary (R208), as address and octets. -/
def tlps (size : Nat) : Nat → Nat → List Byte → List (Nat × List Byte)
  | 0, _, _ => []
  | fuel + 1, a, data =>
    if data.isEmpty then []
    else
      let n := min (max 1 size) (4096 - a % 4096)
      (a, data.take n) :: tlps size fuel (a + n) (data.drop n)

/-- A memory write TLP goes to the root complex. -/
def Hub.emitWrite (h : Hub) (p : Nat × List Byte) : Hub := h.emit (.octets 5 [p.1] p.2)

/-- The writes of pieces, split by Max_Payload_Size (R208). -/
def Hub.emitPieces (h : Hub) (ps : List (Nat × List Byte)) : Hub :=
  ps.foldl (fun (g : Hub) p => (tlps g.host.maxPayload p.2.length p.1 p.2).foldl Hub.emitWrite g) h

/-- R204: the PCIe requests into which a request of the outbound non-posted buffer is split. -/
def Hub.npTlps (h : Hub) (e : NpOut) : Nat :=
  if e.frame.hdr.sub = 0 then
    (laneRuns e.di e.addr e.len).foldl (fun n r => n + (tlps h.host.maxRead r.2 r.1 (List.replicate r.2 0)).length) 0
  else 1

/-- R197, R198: the space of the outbound completion buffer in use: reserved by what has gone to the root complex, and held by completions
that the switch core has not taken. -/
def Hub.completionLoad (h : Hub) : Nat :=
  (h.host.nps.filter (fun e => e.sent)).foldl (fun n e => n + e.len) 0 +
  (h.sw.offered.filter (fun x => decide (x.inp = 9) && decide (x.frame.hdr.typ = 7))).foldl (fun n x => n + x.frame.payload.length) 0

/-- R197, R204: whether a request may go to the root complex: its completion has its space of 16 KiB, and it keeps to 256 PCIe requests in
flight. -/
def Hub.npMayGo (h : Hub) (e : NpOut) : Bool :=
  decide (h.completionLoad + e.len ≤ 16384) &&
  decide ((h.host.nps.filter (fun x => x.sent)).foldl (fun n x => n + h.npTlps x) 0 + h.npTlps e ≤ 256)

/-- A read or an atomic goes to the root complex: number, kind, address and length; reads split by Max_Read_Request_Size. -/
def Hub.emitNp (h : Hub) (e : NpOut) : Hub :=
  if e.frame.hdr.sub = 0 then
    (laneRuns e.di e.addr e.len).foldl (fun (g : Hub) r =>
      (tlps g.host.maxRead r.2 r.1 (List.replicate r.2 0)).foldl
        (fun (k : Hub) p => k.emit (.note 14 [e.id, 0, p.1, p.2.length])) g) h
  else
    let ops := e.frame.payload.drop 8
    h.emit (.octets 6 [e.id, e.frame.hdr.sub.toNat, e.addr]
      ((List.range ops.length).map (fun k => ops.getD (laneMap e.di k) 0)))

end Sys2Proof.Machine
end

