-- ==== Sys2Proof/Machine/Xact.lean ====
section
/-! DEFINITION. Transactions (R180 to R203): the requester's tags, completions and timeouts; the completer's posted writes,
non-posted requests, fence and notices. -/

namespace Sys2Proof.Machine

/-! ### The requester: ends of requests -/

/-- R204: a bit of AER's uncorrectable error status is set: 15 Completer Abort, 16 Unexpected Completion, 20 Unsupported Request (log 152). -/
def Hub.aerSet (h : Hub) (k : Nat) : Hub :=
  { h with host := { h.host with aer := (h.host.aer.1 ||| BitVec.ofNat 32 (2 ^ k), h.host.aer.2) } }

/-- R208: a host read has all its parts: a PCIe completion goes to the host. -/
def Hub.hostAnswer (h : Hub) (r : HostRead) : Hub :=
  let ok := decide (r.status = stSC)
  let st := if r.status = stSC then 0 else if r.status = stUR then 1 else 4
  let h1 := if st = 4 then (h.count Reg.HP_CNT_CA).aerSet 15 else if st = 1 then h.aerSet 20 else h
  h1.emit (.octets 4 [r.id, st] (if ok then laneGather r.di r.base r.len r.parts else []))

/-- A part of a host read ends (R208); the link may have gone down since. -/
def Hub.hostPart (h : Hub) (id addr status : Nat) (data : List Byte) : Hub :=
  match h.host.reads.find? (fun r => r.id = id) with
  | none => h
  | some r =>
    let r1 := { r with left := r.left - 1, parts := r.parts ++ [(addr, data)], status := if r.status = stSC then status else r.status }
    let others := h.host.reads.filter (fun x => x.id != id)
    if r1.left = 0 then Hub.hostAnswer { h with host := { h.host with reads := others } } r1
    else { h with host := { h.host with reads := others ++ [r1] } }

/-- The request ends at its requester with a fabric status (Table 07.3): for the host a part of its read, for MC Ploia hears of it. -/
def Hub.reqEnd (h : Hub) (r : WaitReq) (status : Nat) (data : List Byte) : Hub :=
  if r.mc then h.emit (.octets 3 [status, r.addr.toNat] data) else h.hostPart r.hostId r.addr.toNat status data

/-- RDLEN of a request. -/
def XKindReq.rdlen : XKindReq → Nat
  | .read n => n
  | _ => 0

/-- What a requester takes as the data of a request that ended in a status other than SC (R183). -/
def WaitReq.ones (r : WaitReq) : List Byte := List.replicate r.kind.rdlen 0xFF#8

/-- An outstanding request ends: its tag and space are free, its timers stop. -/
def Hub.outEnd (h : Hub) (o : Outstanding) (status : Nat) (data : List Byte) : Hub :=
  let h1 := { h with xact := { h.xact with out := h.xact.out.filter (fun x => x.tag != o.tag) } }
  ((h1.disarm (.tag o.tag)).disarm (.busy o.tag)).reqEnd o.req status (if status = stSC then data else o.req.ones)

/-- RING of a fabric address (Table 03.1). -/
def faRing (a : BitVec 48) : Nat := (a.extractLsb' 44 4).toNat
/-- HUB of a fabric address. -/
def faHub (a : BitVec 48) : Nat := (a.extractLsb' 36 8).toNat
/-- LOCAL of a fabric address. -/
def faLocal (a : BitVec 48) : Nat := (a.extractLsb' 0 36).toNat

/-- R190 to R192, R206: a completion from a ring and hub reaches the requester; one for a host read that the fall of the link has ended is
discarded and counted. -/
def Hub.completionIn (h : Hub) (own : Bool) (hdr : Header) (data : List Byte) : Hub :=
  let t := hdr.tag.toNat
  match h.xact.out.find? (fun o => o.tag = t) with
  | none =>
    if h.xact.quarantine.contains t ∨ h.xact.allQuarantined then h.count Reg.XB_CNT_LATECPL else h.count Reg.XB_CNT_BADCPL
  | some o =>
    let a := o.req.addr
    let from_ := own || decide (faHub a = 0xFE) || (decide (hdr.sring.toNat = faRing a) && decide (hdr.shub.toNat = faHub a))
    if !from_ ∨ hdr.arg ≠ a then h.count Reg.XB_CNT_BADCPL
    else
      let st := hdr.sub.toNat
      if !o.req.mc ∧ !h.host.reads.any (fun r => decide (r.id = o.req.hostId)) then
        (h.count Reg.HP_CNT_DROPCPL).outEnd o stCA []
      else if st = stBUSY then
        if o.tries < 3 then
          Hub.arm { h with xact := { h.xact with out := h.xact.out.map (fun x => if x.tag = t then { x with tries := x.tries + 1 } else x) } }
            (.busy t) (us 10)
        else h.outEnd o stCA []
      else h.outEnd o (if st ≤ stCA then st else stCA) data

/-- COMPLETION_RX (R190, R191): a completion taken at HP or MC. -/
def execCompletionRx (mc : Bool) (s : State) : Host.Outcome State Fault Refusal :=
  s.on (fun h => h.perform (if mc then 10 else 9) (fun f => f.hdr.typ = 7) (fun a g => g.completionIn false a.frame.hdr a.frame.payload))

/-- CTO in ps, 1 to 10,000 units of 100 us (Table 07.13). -/
def Hub.cto (h : Hub) : Nat := us (100 * max 1 (min 10000 (h.get Fld.XB_CFG_CTO)))

/-- COMPLETION_TIMEOUT (R192). -/
def execCompletionTimeout (t : BitVec 10) (s : State) : Host.Outcome State Fault Refusal :=
  s.on (fun h => h.onDue (.tag t.toNat) (fun g =>
    match g.xact.out.find? (fun o => o.tag = t.toNat) with
    | none => g
    | some o =>
      let g1 := ((g.count Reg.XB_CNT_CTO).evt Fld.XB_EVT_CTO).raise Flt.CTO 14 (if o.req.mc then 10 else 9) o.req.addr.toNat t.toNat
      let g2 := { g1 with xact := { g1.xact with quarantine := t.toNat :: g1.xact.quarantine } }
      (g2.arm (.tagFree t.toNat) (g2.cto + ms 1)).outEnd o stTIMEOUT []))

/-- TAG_QUARANTINE_END (R192): of one tag, or of all after a chip reset. -/
def execTagQuarantineEnd (t : Option (BitVec 10)) (s : State) : Host.Outcome State Fault Refusal :=
  s.on (fun h => match t with
    | none => h.onDue .tagsBoot (fun g => { g with xact := { g.xact with allQuarantined := false } })
    | some k => h.onDue (.tagFree k.toNat) (fun g =>
        { g with xact := { g.xact with quarantine := g.xact.quarantine.filter (fun x => x != k.toNat) } }))

/-! ### The completer -/

/-- R183: the completion of a request; one of this hub's own ends here. -/
def Hub.finish (h : Hub) (inp : Nat) (hdr : Header) (rdlen status : Nat) (data : List Byte) : Hub :=
  if inp = 9 ∨ inp = 10 then
    h.completionIn true { hdr with sub := BitVec.ofNat 6 status } data
  else h.complete hdr rdlen status data

/-- RDLEN of a non-posted request (R180). -/
def Frame.rdlen (f : Frame) : Nat := ofBe (slice f.payload 0 2)
/-- PWV of a non-posted request. -/
def Frame.pwv (f : Frame) : Bool := (f.payload.getD 2 0).getLsbD 0
/-- PWSEQ of a non-posted request. -/
def Frame.pwseq (f : Frame) : BitVec 16 := BitVec.ofNat 16 (ofBe (slice f.payload 4 2))
/-- The data after the request word. -/
def Frame.operands (f : Frame) : List Byte := f.payload.drop 8

/-- Table 07.2: whether a request of a kind has the fields and data that the table gives it (log 50); how many octets a READ or a
WRITE_NP may reach is judged with its address (R83). -/
def Frame.npShape (f : Frame) : Bool :=
  let n := f.operands.length
  match f.hdr.sub.toNat with
  | 0 => decide (n = 0)
  | 1 => decide (f.rdlen = 0)
  | 2 => decide (f.rdlen = 0 ∧ n = 4 ∧ f.hdr.arg.toNat % 4 = 0)
  | 3 => decide (f.rdlen = 0 ∧ n = 8 ∧ f.hdr.arg.toNat % 4 = 0)
  | _ => false

/-- The number under which a request waits at its completer. -/
def Hub.newHeld (h : Hub) : Nat × Hub :=
  (h.xact.nextHeld, { h with xact := { h.xact with nextHeld := h.xact.nextHeld + 1 } })

/-- A request towards host memory enters the outbound non-posted buffer, to be abandoned CTO after its arrival (R192). -/
def Hub.npWait (h : Hub) (inp : Nat) (f : Frame) (till addr len : Nat) (di : Bool) : Hub :=
  let n := h.newHeld
  Hub.armAt { n.2 with host := { n.2.host with nps := n.2.host.nps ++ [⟨n.1, inp, addr, len, di, false, f⟩] } } (.held n.1) till

/-- A READ or an atomic through a bridged window (R207, R208); R90 and R91 judge each of its words (log 49). -/
def Hub.hostNp (h : Hub) (inp : Nat) (f : Frame) (till len : Nat) : Hub :=
  let a := faLocal f.hdr.arg
  match h.bridgedBars f.hdr.world a len with
  | some k => (h.refuseWorld (reqOf f inp) (f.hdr.arg.toNat + (k - a))).finish inp f.hdr f.rdlen stSC (List.replicate len 0xFF)
  | none => match h.window true a len with
  | none => h.finish inp f.hdr f.rdlen stUR []
  | some (w, m) =>
    if (f.hdr.sub ≠ 0 ∧ !h.host.atomicEn) ∨ len = 0 ∨ 2048 < len then h.finish inp f.hdr f.rdlen stUR []
    else match h.hostBar with
      | some _ => h.finish inp f.hdr f.rdlen stCA []
      | none => h.npWait inp f till m len (h.is (Fld.HP_WIN_CTL_DI w))

/-- The status of a WRITE_NP whose posted form would draw a notice of a cause (Table 07.3, R91). -/
def npStatus : Option Nat → Nat
  | none => 0
  | some c => if c = causeWORLD ∨ c = causeSEALED then 0 else if c = causeNOBM ∨ c = causeLINKDOWN then 2 else 1

/-- A READ is performed (R182, R183); till is the instant at which it is abandoned. -/
def Hub.npRead (h : Hub) (inp : Nat) (f : Frame) (till : Nat) : Hub :=
  if bridged (faLocal f.hdr.arg) then h.hostNp inp f till f.rdlen
  else
    let r := h.localRead (reqOf f inp) (faLocal f.hdr.arg) f.rdlen f.hdr.arg.toNat
    r.2.2.finish inp f.hdr f.rdlen r.1 r.2.1

/-- A WRITE_NP is performed; through a bridged window it completes once its writes have gone to the root complex (log 51). -/
def Hub.npWrite (h : Hub) (inp : Nat) (f : Frame) (till : Nat) : Hub :=
  if bridged (faLocal f.hdr.arg) then
    let n := h.newHeld
    let r := if f.operands.isEmpty ∨ 2040 < f.operands.length then (some causeMALF, h) else n.2.hostWrite inp f f.operands none (some n.1)
    match r.1 with
    | none => r.2.armAt (.held n.1) till
    | some c => r.2.finish inp f.hdr 0 (npStatus (some c)) []
  else
    let r := h.localWrite (reqOf f inp) (faLocal f.hdr.arg) f.operands false f.hdr.arg.toNat
    r.2.finish inp f.hdr 0 (npStatus r.1) []

/-- A SWAP or CAS is performed: through a bridged window alone; elsewhere UR, after R90 (log 52), and with FLT_DECODE where its address is
no listed register (R83). -/
def Hub.npAtomic (h : Hub) (inp : Nat) (f : Frame) (till : Nat) : Hub :=
  let a := faLocal f.hdr.arg
  if bridged a then h.hostNp inp f till 4
  else if h.worldBarsWord (reqOf f inp) a then
    (h.refuseWorld (reqOf f inp) f.hdr.arg.toNat).finish inp f.hdr 0 stSC (List.replicate 4 0xFF)
  else (if regShape a 4 then h else h.decodeRefused (reqOf f inp) f.hdr.arg.toNat).finish inp f.hdr 0 stUR []

/-- A non-posted request is performed by its kind (R182); till is the instant at which it is abandoned (R192). -/
def Hub.npPerform (h : Hub) (inp : Nat) (f : Frame) (till : Nat) : Hub :=
  if !f.npShape then h.finish inp f.hdr f.rdlen stUR []
  else match f.hdr.sub.toNat with
    | 0 => h.npRead inp f till
    | 1 => h.npWrite inp f till
    | _ => h.npAtomic inp f till

/-! ### The fence (R196) -/

/-- The source and stream of a frame. -/
def Header.source (hdr : Header) : Nat := ddKey hdr.sring.toNat hdr.shub.toNat hdr.stream.toNat

/-- The SEQ of the last posted write performed from a source, where its entry is not older than 10 ms. -/
def Hub.pwDone (h : Hub) (key : Nat) : Option (BitVec 16) :=
  match Assoc.get h.xact.donePw key with
  | some (q, t) => if h.clock - t ≤ ms 10 then some q else none
  | none => none

/-- A posted write has been performed: its source's entry, where one of the 64 is its own or free. -/
def Hub.pwEntry (h : Hub) (hdr : Header) : Hub :=
  let live := h.xact.donePw.filter (fun e => decide (e.1 = hdr.source) || decide (h.clock - e.2.2 ≤ ms 10))
  if (Assoc.get live hdr.source).isSome ∨ live.length < 64 then
    { h with xact := { h.xact with donePw := Assoc.put live hdr.source (hdr.seq, h.clock) } }
  else { h with xact := { h.xact with donePw := live } }

/-- Whether a request is fenced: its source has an entry, and that has not reached PWSEQ. -/
def Hub.fenced (h : Hub) (f : Frame) : Bool :=
  f.pwv && match h.pwDone f.hdr.source with
    | some q => seqBefore q f.pwseq
    | none => false

/-- A non-posted request at its target: held by the fence, or while the outbound non-posted buffer has no room for it; else performed. -/
def Hub.npIn (h : Hub) (inp : Nat) (f : Frame) : Hub :=
  let fence := h.fenced f
  if fence ∨ !h.npRoom f then
    let n := h.newHeld
    let h1 := { n.2 with xact := { n.2.xact with held := n.2.xact.held ++ [Held.mk n.1 inp f (!fence)] } }
    let h2 := if fence then h1.arm (.fence n.1) (us (max 1 (h1.get Fld.XB_ORD_WAIT))) else h1
    h2.arm (.held n.1) h1.cto
  else h.npPerform inp f (h.clock + h.cto)

/-- A held request leaves the fence. -/
def Hub.heldOff (h : Hub) (id : Nat) : Hub :=
  (Hub.disarm { h with xact := { h.xact with held := h.xact.held.filter (fun e => e.id != id) } } (.fence id)).disarm (.held id)

/-- FENCE_RELEASE: held requests whose PWSEQ has been reached, or whose wait has run out, are performed in their order, where there is
room for them. -/
def Hub.fenceRelease (h : Hub) : Hub :=
  (h.xact.held.filter (fun e => e.late || !h.fenced e.frame)).foldl (fun (g : Hub) e =>
    if g.npRoom e.frame then (g.heldOff e.id).npPerform e.inp e.frame (g.dueAt (.held e.id)) else g) h

/-- R196: a posted write has been performed, and requests that waited for it go on. One that was performed while writes of its source
still stand in the outbound posted buffer counts behind them (R195). -/
def Hub.pwNote (h : Hub) (hdr : Header) : Hub :=
  if h.host.posted.any (fun e => match e with
      | .write _ _ f none => decide (f.hdr.source = hdr.source)
      | _ => false) then
    { h with host := { h.host with posted := h.host.posted ++ [.mark hdr] } }
  else (h.pwEntry hdr).fenceRelease

/-- FENCE_TIMEOUT (R196): WAIT has passed; the request is performed anyway. -/
def execFenceTimeout (id : Nat) (s : State) : Host.Outcome State Fault Refusal :=
  s.on (fun h => h.onDue (.fence id) (fun g =>
    match g.xact.held.find? (fun e => e.id = id) with
    | none => g
    | some e =>
      let g1 := ((g.count Reg.XB_CNT_FENCETO).evt Fld.XB_EVT_FENCETO).raise Flt.FENCE 14 e.inp e.frame.hdr.arg.toNat e.frame.hdr.source
      if g1.npRoom e.frame then (g1.heldOff id).npPerform e.inp e.frame (g.dueAt (.held id))
      else { g1 with xact := { g1.xact with held := g1.xact.held.map (fun x => if x.id = id then { x with late := true } else x) } }))

/-- COMPLETER_ABANDON (R192): a request not answered within CTO of its arrival is never answered. -/
def execCompleterAbandon (id : Nat) (s : State) : Host.Outcome State Fault Refusal :=
  s.on (fun h => h.onDue (.held id) (fun g =>
    let g1 := g.heldOff id
    { g1 with host := { g1.host with
        nps := g1.host.nps.filter (fun e => e.id != id),
        posted := g1.host.posted.map (fun e => match e with
          | .write ps i f (some k) => if k = id then .write ps i f none else .write ps i f (some k)
          | x => x) } }))

/-! ### Posted writes -/

/-- R181: whether a posted write keeps the rules of MASKED, BE and LEN. -/
def Frame.postedShape (f : Frame) : Bool :=
  !f.hdr.sub.getLsbD 5 &&
    (if f.hdr.sub.getLsbD 4 then decide (f.hdr.len = 4 ∧ f.hdr.arg.toNat % 4 = 0)
     else decide (f.hdr.sub = 0 ∧ 1 ≤ f.hdr.len.toNat ∧ f.hdr.len.toNat ≤ 2048))

/-- A posted write at its target (R181, R196, R200): performed, at host memory once it leaves for the root complex, or refused with a notice. -/
def Hub.postedIn (h : Hub) (inp : Nat) (f : Frame) : Hub :=
  if !f.postedShape then (h.count Reg.XB_CNT_MALF).notice f.hdr 9 causeMALF f.hdr.arg
  else
    let be := f.hdr.sub.extractLsb' 0 4
    let masked := f.hdr.sub.getLsbD 4
    let r :=
      if bridged (faLocal f.hdr.arg) then h.hostWrite inp f f.payload (if masked then some be else none) none
      else h.localWrite (reqOf f inp) (faLocal f.hdr.arg) f.payload (masked && decide (be ≠ 0xF#4)) f.hdr.arg.toNat
    match r.1 with
    | none => if bridged (faLocal f.hdr.arg) then r.2 else r.2.pwNote f.hdr
    | some c =>
      let h1 := r.2.notice f.hdr 9 c f.hdr.arg
      if c = causeSEALED then h1.pwNote f.hdr else h1

/-- POSTED_WRITE_RX (R181, R195, R197): posted writes are performed in the order of their arrival; one for host memory waits while the
outbound posted buffer has no room for it. -/
def execPostedWriteRx (s : State) : Host.Outcome State Fault Refusal :=
  s.on (fun h => match h.acts.find? (fun a => decide (a.port = 9) && decide (a.frame.hdr.typ = 5) && h.actDue a) with
    | some a => if h.postedRoom a.frame then h.perform 9 (fun f => f.hdr.typ = 5) (fun a g => g.postedIn a.inp a.frame) else h
    | none => h)

/-- A non-posted request of a kind taken from the switch core reaches XB (R182). -/
def Hub.npRx (h : Hub) (p : Nat → Bool) : Hub :=
  h.perform 9 (fun f => decide (f.hdr.typ = 6) && p f.hdr.sub.toNat) (fun a g => g.npIn a.inp a.frame)

/-- NP_READ_RX (R182, R196). -/
def execNpReadRx (s : State) : Host.Outcome State Fault Refusal := s.on (fun h => h.npRx (fun k => k == 0))
/-- NP_WRITE_RX (R182, R196). -/
def execNpWriteRx (s : State) : Host.Outcome State Fault Refusal := s.on (fun h => h.npRx (fun k => k == 1))
/-- NP_SWAP_RX (R182, R196). -/
def execNpSwapRx (s : State) : Host.Outcome State Fault Refusal := s.on (fun h => h.npRx (fun k => k == 2))
/-- NP_CAS_RX (R182, R196). -/
def execNpCasRx (s : State) : Host.Outcome State Fault Refusal := s.on (fun h => h.npRx (fun k => k == 3))
/-- NP_RESERVED_RX (R182, R196). -/
def execNpReservedRx (s : State) : Host.Outcome State Fault Refusal := s.on (fun h => h.npRx (fun k => decide (4 ≤ k)))

/-! ### Notices -/

/-- The stamp at which the last chip reset of this hub was released, on the counter as it now stands. -/
def Hub.bornStamp (h : Hub) : Stamp := h.now - psUnits (h.clock - h.born)

/-- A notice frame as its source reads it (Tables 07.1 and 07.7). -/
def noticeFrom (f : Frame) : Notice :=
  ⟨f.hdr.sub.toNat, f.hdr.arg, BitVec.ofNat 16 (ofBe (slice f.payload 0 2)), BitVec.ofNat 16 (ofBe (slice f.payload 2 2)),
   (f.payload.getD 4 0).getLsbD 0, f.payload.getD 5 0, BitVec.ofNat 16 (ofBe (slice f.payload 6 2)), BitVec.ofNat 80 (ofBe (slice f.payload 8 10))⟩

/-- NOTICE_RX (R202, R203): a notice taken at HP or MC; one whose STAMP lies before the last chip reset is discarded. -/
def execNoticeRx (mc : Bool) (s : State) : Host.Outcome State Fault Refusal :=
  s.on (fun h => h.perform (if mc then 10 else 9) (fun f => f.hdr.typ = 11) (fun a g =>
    let n := noticeFrom a.frame
    if Stamp.ofFrame g.now n.stamp < g.bornStamp then g.count Reg.XB_CNT_PFSTALE else g.noticeIn n))

/-! ### The requester: issue -/

/-- The stream of HP or MC (R184). -/
def Hub.streamOf (h : Hub) (mc : Bool) : Nat := h.get (if mc then Fld.XB_STREAM_MCSTR else Fld.XB_STREAM_HPSTR)

/-- Whether a destination is this hub (R81): HUB 0, its own number, or the manager while it is that. -/
def Hub.toSelf (h : Hub) (ring hub : Nat) : Bool :=
  decide (hub = 0) || h.isSelf ring hub ||
    (decide (hub = 0xFE) && ((decide (ring = h.ringOf false) && h.isMgr false) ||
      (decide (h.pairB = 2) && decide (ring = h.ringOf true) && h.isMgr true)))

/-- R185 to R188: the lane towards a destination; HUB 0xFE goes to the ring's manager as this hub knows it. -/
def Hub.laneTowards (h : Hub) (ring hub : Nat) : Option (Nat × Bool) :=
  h.routeLane ring (if hub = 0xFE ∧ ring = h.ringOf false then h.get Fld.MBR_MGR_MGRHUB else hub)

/-- A posted write of HP or MC (R81, R181, R188, R195). -/
def Hub.sendPosted (h : Hub) (mc world : Bool) (addr : BitVec 48) (data : List Byte) (mask : Option (BitVec 4)) : Hub :=
  let i := if mc then 10 else 9
  let ring := faRing addr
  let hub := faHub addr
  let stream := h.streamOf mc
  let sub := match mask with
    | none => 0
    | some b => 16 + b.toNat
  let key := destKey stream ring hub
  if 128 ≤ hub ∧ hub ≤ 253 then
    h.raise Flt.DECODE 14 i addr.toNat (if mc then 0 else 1)
  else
    let q := h.nextSeq stream
    let frame (g : Hub) (l : Nat) : Frame := ⟨g.xactHeader l 5 4 sub world ring hub stream q.1 0 addr data.length, data, 0⟩
    let sent (g : Hub) : Hub := { g with xact := { g.xact with sentPw := Assoc.put g.xact.sentPw key q.1 } }
    if hub = 0xFF then
      let h1 := sent (if q.2.laneUp 0 then q.2.offer i (frame q.2 0) [0] false false else q.2)
      if h1.isSelf ring (h1.hubNo false) ∨ (h1.pairB = 2 ∧ h1.isSelf ring (h1.hubNo true)) then h1.postedIn i (frame h1 0) else h1
    else if h.toSelf ring hub then (sent q.2).postedIn i (frame q.2 0)
    else match h.laneTowards ring hub with
      | none => ((h.count Reg.XB_CNT_NOROUTE).evt Fld.XB_EVT_NOROUTE).noticeIn (noticeOf (frame h 0).hdr 0xFF causeNOROUTE addr)
      | some (l, g) =>
        let h1 := sent ((q.2.guessed g).rerouted key l)
        h1.offer i (frame h1 l) [l] false false

/-- The kind number of Table 07.2. -/
def XKindReq.sub : XKindReq → Nat
  | .read _ => 0 | .writeNp _ => 1 | .swap _ => 2 | .cas _ _ => 3 | .posted _ _ => 0

/-- The data after the request word (Table 07.2), values most significant octet first (R477). -/
def XKindReq.operands : XKindReq → List Byte
  | .read _ => [] | .writeNp d => d | .swap n => beBytes 4 n.toNat | .cas c n => beBytes 4 c.toNat ++ beBytes 4 n.toNat
  | .posted d _ => d

/-- R180, R196: the payload of a non-posted request. -/
def Hub.npPayload (h : Hub) (key : Nat) (k : XKindReq) : List Byte :=
  let pw := Assoc.get h.xact.sentPw key
  beBytes 2 k.rdlen ++ [if pw.isSome then 1 else 0, 0] ++ beBytes 2 ((pw.getD 0).toNat) ++ [0, 0] ++ k.operands

/-- R189: the space that the completion of a request needs. -/
def XKindReq.space : XKindReq → Nat
  | .read n => (n + 63) / 64 * 64 + 64
  | _ => 64

/-- R189, Table 07.5: the completion space of a block that is not reserved. HP's is free again once the completion has returned to the
host. -/
def Hub.spaceLeft (h : Hub) (mc : Bool) : Nat :=
  let back := if mc then 0
    else h.host.reads.foldl (fun n r => n + r.parts.foldl (fun k p => k + (XKindReq.read p.2.length).space) 0) 0
  (if mc then 16384 else 65536) - (back + (h.xact.out.filter (fun o => o.req.mc == mc)).foldl (fun n o => n + o.space) 0)

/-- R189: a free tag of a block: the first MCRES are MC's, the others HP's (log 53). -/
def Hub.freeTag (h : Hub) (mc : Bool) : Option Nat :=
  if h.xact.allQuarantined then none
  else
    let m := min 512 (h.get Fld.XB_TAGCFG_MCRES)
    let l := if mc then List.range m else (List.range 1024).drop m
    l.find? (fun t => !h.xact.quarantine.contains t && !h.xact.out.any (fun o => o.tag = t))

/-- A non-posted request takes tag t and is sent, or performed here (R81, R185 to R189). -/
def Hub.sendNp (h : Hub) (r : WaitReq) (t : Nat) : Hub :=
  let i := if r.mc then 10 else 9
  let ring := faRing r.addr
  let hub := faHub r.addr
  let stream := h.streamOf r.mc
  let pay := h.npPayload (destKey stream ring hub) r.kind
  let frame (g : Hub) (l : Nat) (q : BitVec 16) : Frame :=
    ⟨g.xactHeader l 6 5 r.kind.sub r.world ring hub stream q (BitVec.ofNat 10 t) r.addr pay.length, pay, 0⟩
  let out (g : Hub) (f : Frame) : Hub :=
    Hub.arm { g with xact := { g.xact with out := g.xact.out ++ [⟨t, r, r.kind.space, 0, f⟩] } } (.tag t) g.cto
  let q := h.nextSeq stream
  if h.toSelf ring hub then (out q.2 (frame q.2 0 q.1)).npIn i (frame q.2 0 q.1)
  else match h.laneTowards ring hub with
    | none => ((h.count Reg.XB_CNT_NOROUTE).evt Fld.XB_EVT_NOROUTE).reqEnd r stUR r.ones
    | some (l, g) =>
      let h1 := q.2.guessed g
      (out h1 (frame h1 l q.1)).offer i (frame h1 l q.1) [l] false false

/-- The first waiting request of HP or MC is issued, where its tag and space are there (R189); what R81 refuses at the source
completes with UR at once. -/
def Hub.issue (h : Hub) (mc : Bool) : Hub :=
  match takeFirst (fun (w : WaitReq) => w.mc == mc) h.xact.waiting with
  | none => h
  | some (r, rest) =>
    let h1 := { h with xact := { h.xact with waiting := rest } }
    let hub := faHub r.addr
    if 128 ≤ hub ∧ hub ≠ 0xFE then h1.reqEnd r stUR r.ones
    else match h.freeTag mc with
      | none => h
      | some t => if h.spaceLeft mc < r.kind.space then h else h1.sendNp r t

/-- REQUEST_ISSUE (R184, R189): Ploia may bring a request of its own, which takes MC's world; a posted write needs no tag and
leaves at once, any other joins those that wait; then the first that waits in the block is issued. -/
def execRequestIssue (mc : Bool) (own : Option (BitVec 48 × XKindReq)) (s : State) : Host.Outcome State Fault Refusal :=
  s.on (fun h =>
    match mc, own with
    | true, some (a, .posted d m) => h.sendPosted true (h.portSecure 10) a d m
    | true, some (a, k) =>
      Hub.issue { h with xact := { h.xact with waiting := h.xact.waiting ++ [⟨true, h.portSecure 10, a, k, 0⟩] } } true
    | _, _ => h.issue mc)

/-- BUSY_REISSUE (R191): 10 us after a BUSY completion the request is issued again under its tag, by the route of this instant. -/
def execBusyReissue (t : BitVec 10) (s : State) : Host.Outcome State Fault Refusal :=
  s.on (fun h => h.onDue (.busy t.toNat) (fun g =>
    match g.xact.out.find? (fun o => o.tag = t.toNat) with
    | none => g
    | some o =>
      let ring := faRing o.req.addr
      let hub := faHub o.req.addr
      match g.laneTowards ring hub with
      | none => ((g.count Reg.XB_CNT_NOROUTE).evt Fld.XB_EVT_NOROUTE).outEnd o stUR []
      | some (l, k) =>
        let q := (g.guessed k).nextSeq (g.streamOf o.req.mc)
        let f : Frame := { o.frame with hdr := { q.2.xactHeader l 6 5 o.req.kind.sub o.req.world ring hub (g.streamOf o.req.mc) q.1 t
          o.req.addr o.frame.payload.length with len := o.frame.hdr.len } }
        q.2.offer (if o.req.mc then 10 else 9) f [l] false false))

end Sys2Proof.Machine
end

