-- ==== Sys2Proof/Machine/Startup.lean ====
section
/-! DEFINITION. The release of chip reset (R419, R428 to R432), the sheets and seal (R319 to R321, R93), ream writes and what
resets a hub in recovery (R318, R325, R326). -/

namespace Sys2Proof.Machine

/-- Whether chip reset may be released (R419, R428, R429). -/
def Hub.releasable (h : Hub) : Bool :=
  h.aon.held && h.pgood && !h.aon.pinLow && decide (h.aon.heldAt + us 10 ≤ h.clock)

/-- R432: the straps as sampled; an open SLOT strap reads 15, no slot code. -/
def Hub.straps (h : Hub) (slot : BitVec 4) (testmode : Bool) : Hub :=
  ((h.set Fld.CHIP_STRAP_SLOT slot.toNat).flag Fld.CHIP_STRAP_SLOTVALID (decide (slot ≠ 15#4))).flag Fld.CHIP_STRAP_TESTMODE testmode

/-- R428, R431: the kind of the reset is recorded: PWR_RSTCAUSE.KIND, a RESET record, counter 128 + kind; FLT_RAILRST after
kind 2; UNCLEAN after kind 6. -/
def Hub.recordReset (h : Hub) (kind : Nat) : Hub :=
  let h1 := ((h.set Fld.PWR_RSTCAUSE_KIND kind).journalLater 1 kind 0).logCount (128 + kind) 1
  if kind = 2 then h1.raise Flt.RAILRST 0 0 (h1.get Fld.PWR_RSTCAUSE_RAIL) (h1.get Fld.PWR_RSTCAUSE_OV)
  else if kind = 6 then
    (((h1.journalDirect 2 0 (Sparse.get zeroNat h1.log.totals 143)).logCount 142 1).set Fld.LOG_STATUS_UNCLEAN 1)
  else h1

/-- R368: factory test mode where the strap is high and the factory fuse intact; else a high strap raises FLT_TESTSTRAP. -/
def Hub.testStrap (h : Hub) (testmode : Bool) : Hub :=
  if testmode then (if h.flash.intact then h.set Fld.FLT_STATUS_TESTMODE 1 else h.raise Flt.TESTSTRAP 3 0 0 0) else h

/-- CHIP_RESET_RELEASE (R419, R428 to R432, R328, R192): power-good, RESET_N high and 10 us of reset: the straps are sampled, the
reset is recorded, the boot ROM reconstructs the root, every request tag stays out of use for CTO + 1 ms. -/
def execChipResetRelease (slot : BitVec 4) (testmode : Bool) (s : State) : Host.Outcome State Fault Refusal :=
  s.on (fun h =>
    if !h.releasable then h
    else
      let k : Hub := { h with born := h.clock, aon := { h.aon with held := false }, pair := { h.pair with lead := some false } }
      ((((k.straps slot testmode).recordReset h.aon.kind).testStrap testmode).bootRoot).arm .tagsBoot (k.cto + ms 1))

/-! ### The sheets and seal -/

/-- R403, R434, R448: before the sheets, the RWS fields of the pages of the AON island return to their reset values. -/
def Hub.aonDefaults (h : Hub) : Hub :=
  (h.regs.filter (fun e => aonPage e.1)).foldl (fun (g : Hub) e =>
    let m := rwsBits e.1
    g.wr e.1 ((e.2 &&& ~~~m) ||| (regReset e.1 &&& m))) h

/-- R319: every sheet in the order of the ream, each OPTIONAL sheet of a reserved type skipped with a note. -/
def Hub.sheetsRun (h : Hub) (r : Ream) : Hub :=
  let h1 := r.skipped.foldl (fun (g : Hub) i => g.reamNote 3 i 0) h
  r.sheets.foldl (fun (g : Hub) p => (g.sheetRun p).2) h1

/-- Table 12.9: what the REAM_ page shows of the ream in force. -/
def Hub.showReam (h : Hub) (r : Ream) : Hub :=
  ((((h.wr Reg.REAM_GEN (BitVec.ofNat 32 r.gen)).set Fld.REAM_STATUS_FMT_MAJ r.major).set Fld.REAM_STATUS_FMT_MIN r.minor).set
    Fld.REAM_STATUS_NSHEET r.sheets.length).wrOctets48 Reg.REAM_DIGEST (beBytes 48 r.digest.toNat)

/-- R320: what leaves OFF at seal; vio tells what the bank-voltage detector of each cluster finds. -/
def Hub.unitsStart (h : Hub) (vio : List (Fin 3)) : Hub :=
  let h1 := (List.range 5).foldl (fun (g : Hub) l => if g.is (Fld.RING_CTL_EN l) then g.laneLeave l else g.laneTo l .off) h
  let h2 := (List.range 4).foldl (fun (g : Hub) p => g.stStart p) h1
  let h3 := (List.range 8).foldl (fun (g : Hub) c =>
    ((List.range 8).foldl (fun (k : Hub) e => k.setEngState c e .off false 0) g).cluApply c ((vio.getD c 0).val)) h2
  let h4 := (List.range 16).foldl (fun (g : Hub) b => (g.busTo b .off).busSeal b) h3
  let h5 := (List.range 8).foldl (fun (g : Hub) n =>
    if g.is (Fld.SEN_GCFG_EN n) then (g.setGrpState n .off).senEnable n else g.setGrpState n .off) h4
  (List.range 16).foldl (fun (g : Hub) n => (g.grdOff n 0).grdSeal n) h5

/-- SEAL (R93): SEALED, with the time of seal in REAM_T0; PPS_OUT and the host link's sheet follow, log flushes begin;
with VID 0xFFFF the host port is in Detect (R205). -/
def Hub.seal (h : Hub) : Hub :=
  let h1 := (h.set Fld.CHIP_SEAL_SEALED 1).set Fld.REAM_T0_SEALMS (min 65535 ((h.clock - h.born) / ms 1))
  let h2 : Hub := { h1 with time := { h1.time with ppsOut := some false }, host := { h1.host with sheet := true } }
  let h3 := if h2.get Fld.HP_ID0_VID = 0xFFFF then h2.hostDetect else h2.hostWord
  h3.memberSeal.arm .flushInterval (ms (1000 * max 10 (min 3600 (h2.get Fld.LOG_CFG_FLUSH))))

/-- SHEETS_APPLY (R319 to R321, R93): Ploia applies the sheets of the slot taken and seals. -/
def execSheetsApply (vio : List (Fin 3)) (s : State) : Host.Outcome State Fault Refusal :=
  s.on (fun h =>
    let n := h.get Fld.REAM_STATUS_SLOT
    if !h.ploia ∨ h.aon.held ∨ h.sealed_ ∨ 1 < n then h
    else match h.slotReam n with
      | none => h
      | some r => (((h.aonDefaults).sheetsRun r).showReam r).seal.unitsStart vio)

/-! ### Ream writes (R318) -/

/-- The slot that a ream write takes: the one that does not hold the ream in force; slot 0 where none is in force. -/
def Hub.writeSlot (h : Hub) : Nat := if h.get Fld.REAM_STATUS_SLOT = 0 then 1 else 0

/-- A ream slot erased. -/
def Hub.eraseSlot (h : Hub) (n : Nat) : Hub := h.setFlash (flashErase h.flash.mem (reamSlot n) 0x100000)

/-- REAM_WRCHK. -/
def Hub.wrChk (h : Hub) (code slot : Nat) : Hub := (h.set Fld.REAM_WRCHK_CODE code).set Fld.REAM_WRCHK_SLOT slot

/-- A ream write fails with a code of Table 12.5: its slot is erased and reads EMPTY. -/
def Hub.reamFail (h : Hub) (code slot : Nat) : Hub :=
  let h1 := ((h.eraseSlot slot).evt Fld.REAM_EVT_WRFAIL).wrChk code slot
  h1.showCheck slot [] (.error ⟨1, none⟩)

/-- The code with which a ream write fails its checks. The hub never writes a ream in format 1.x (R7, Table 00.4), which so fails at the
check of its format, FORMAT (log 151). -/
def Hub.writeCheck (h : Hub) (image : List Byte) : Option Nat :=
  let old := decide (image.getD 4 0#8 = 1#8)
  match h.reamCheck image with
  | .error e => some (if old ∧ 3 < e.code then 3 else e.code)
  | .ok _ => if old then some 3 else none

/-- Steps 1 and 2 of R318: the image is checked; where it passes, the slot is erased and its write is under way. -/
def Hub.reamStart (h : Hub) (image : List Byte) (reset : Bool) : Hub :=
  match h.writeCheck image with
  | some code => h.reamFail code h.writeSlot
  | none =>
    let g := h.eraseSlot h.writeSlot
    { g with flash := { g.flash with write := some (image, h.writeSlot, reset) } }

/-- REAM_WRITE_REQUEST (R318, R325, R423): over the management API from the secure world, or in the recovery set; one write at a
time. -/
def execReamWriteRequest (req : Req) (image : List Byte) (reset : Bool) (s : State) : Host.Outcome State Fault Refusal :=
  s.on (fun h =>
    let bypass := h.is Fld.REAM_STATUS_BYPASS
    if !h.ploia ∨ !(h.sealed_ || bypass) ∨ h.flash.write.isSome then h
    else if !req.secure ∧ !bypass then h.refuseWorld req Reg.REAM_WRCHK
    else h.unlessDefer req (.ream image reset) (fun g => g.reamStart image reset))

/-- REAM_WRITE_DONE (R318, R326): the write of the octets, MAGIC last, ends; ok tells whether every step passed. -/
def execReamWriteDone (ok : Bool) (s : State) : Host.Outcome State Fault Refusal :=
  s.on (fun h => match h.flash.write with
    | none => h
    | some (image, slot, reset) =>
      let g : Hub := { h with flash := { h.flash with write := none } }
      if !ok then g.reamFail 14 slot
      else
        let g1 := ((g.setFlash (flashWrite g.flash.mem (reamSlot slot) image)).evt Fld.REAM_EVT_STAGED).wrChk 0 slot
        let g2 := g1.showCheck slot image (g1.reamCheck image)
        if reset ∧ g2.is Fld.REAM_STATUS_BYPASS then g2.arm .stagedReset (ms 10) else g2)

/-- RECOVERY_RESET_REQUEST (R325, R430, R395): a request for a chip reset, without a world check in bypass forwarding, and over
the service port in the recovery of the boot ROM. -/
def execRecoveryResetRequest (req : Req) (s : State) : Host.Outcome State Fault Refusal :=
  s.on (fun h =>
    if (h.ploia ∧ h.is Fld.REAM_STATUS_BYPASS) ∨ (h.inRecovery ∧ req.origin = .service) then h.orderReset 4 else h)

/-- STAGED_RESET (R326, R388): 10 ms after STAGED, where a reset was asked for. -/
def execStagedReset (s : State) : Host.Outcome State Fault Refusal := s.on (fun h => h.onDue .stagedReset (fun g => g.orderReset 4))

end Sys2Proof.Machine
end

