-- ==== Sys2Proof/Machine/FlashWait.lean ====
section
/-! DEFINITION. The end of a supply warning and the flash requests that it made wait (R423, R424). -/

namespace Sys2Proof.Machine

/-- A request that waited is performed. -/
def Hub.flashRun (h : Hub) (q : FlashReq) (req : Req) : Hub :=
  match q with
  | .ream image reset => if h.flash.write.isSome then h else h.reamStart image reset
  | .start id len force => h.updStart req id len force
  | .chunk id index crc data ok => h.updChunk req id index crc data ok
  | .commit id reset => h.updCommit req id reset
  | .abort => h.updAbort req
  | .confirm => h.updConfirm req
  | .otk key a b => h.otkWrite key a b
  | .fuse set digest => h.fuseBlow set digest

/-- R423: a request that has waited for 1 s ends with its interface's flash failure. -/
def Hub.flashGiveUp (h : Hub) (q : FlashReq) (req : Req) : Hub :=
  match q with
  | .ream _ _ => h.reamFail 14 h.writeSlot
  | .otk _ _ _ | .fuse _ _ => h
  | .start _ _ _ | .chunk _ _ _ _ _ | .commit _ _ | .abort | .confirm => h.updEnd req 10 []

/-- The requests that wait are performed in the order in which they came; fuses that IDLE owes are blown (R393). -/
def Hub.flashResume (h : Hub) : Hub :=
  let h1 := h.flash.waits.foldl (fun (g : Hub) w => g.flashRun w.1 w.2.1) { h with flash := { h.flash with waits := [] } }
  if h1.ploia ∧ h1.updIs .idle then h1.svnRaise (h1.get Fld.UPD_SVN_RUNSVN) else h1

/-- SUPPLY_WARNING_END (R424, R423): CLRHOLD after every condition for the end has held: the warning ends with a BROWNEND record of
its duration in us, up to the last recrossing, and what waited goes on. -/
def execSupplyWarningEnd (s : State) : Host.Outcome State Fault Refusal :=
  s.on (fun h => h.onDue .clrHold (fun g =>
    if !g.is Fld.PWR_SUPSTAT_SUPWARN then g
    else
      let dur := (g.aon.recross - g.aon.warnFrom) / us 1
      let g1 := (((g.set Fld.PWR_SUPSTAT_SUPWARN 0).set Fld.PWR_SUPSTAT_DEFER 0).evt Fld.PWR_SUPEVT_RECOVER).count Reg.PWR_CNT_RECOVER
      let g2 := ((g1.logCount 137 1).wr Reg.PWR_WARNLAST (BitVec.ofNat 32 (min 0xFFFFFFFF dur))).journalLater 4 0 dur
      g2.flashResume))

/-- DEFER_TIMEOUT (R423): requests that have waited for 1 s end. -/
def execDeferTimeout (s : State) : Host.Outcome State Fault Refusal :=
  s.on (fun h =>
    let old (w : FlashReq × Req × Nat) : Bool := decide (w.2.2 + ms 1000 ≤ h.clock)
    let h1 : Hub := { h with flash := { h.flash with waits := h.flash.waits.filter (fun w => !old w) } }
    (h.flash.waits.filter old).foldl (fun (g : Hub) w => g.flashGiveUp w.1 w.2.1) h1)

end Sys2Proof.Machine
end

