-- ==== Sys2Proof/Machine/Host.lean ====
section
/-! DEFINITION. The host port (R204 to R210) and side-band messages at their target (R211, R212). -/

namespace Sys2Proof.Machine

/-! ### Inbound requests -/

/-- R87: the world of a host request: the lower of the worlds of its window and of HP. -/
def Hub.hostWorld (h : Hub) (w : Nat) : Bool := (h.rd Reg.CHIP_WINWLD).getLsbD w && h.portSecure 9

/-- A TLP's inbound window and mapped fabric address: BAR0 is window 0 (16 MiB of HUB 0), BAR2 holds the inbound windows (R207). -/
def Hub.inbound (h : Hub) (bar2 : Bool) (off n : Nat) : Option (Nat × Nat) :=
  if bar2 then (if off + n ≤ 2 ^ h.get Fld.HP_CTL_BAR2LOG then h.window false off n else none)
  else if off + n ≤ 0x1000000 then some (0, off)
  else none

/-- R210: pending vectors that are no longer masked are sent. -/
def Hub.msixFlush (h : Hub) : Hub :=
  let l := h.host.msixPending.filter (fun v => !h.msixMasked v)
  if !h.is Fld.HP_LINK_MSIXEN ∨ !h.is Fld.HP_LINK_BME ∨ h.host.d3 then h
  else l.foldl (fun (g : Hub) v => g.msix v)
    { h with host := { h.host with msixPending := h.host.msixPending.filter (fun v => h.msixMasked v) } }

/-- A word of the MSI-X table: zero but for the mask bit of each vector (log 54). -/
def Hub.msixWord (h : Hub) (a : Nat) : Word := (Assoc.get h.host.msix a).getD (if a % 16 = 12 then 1#32 else 0#32)

/-- One octet of the MSI-X table is written. -/
def Hub.msixOctet (h : Hub) (a : Nat) (b : Byte) : Hub :=
  if 512 ≤ a then h
  else
    let k := a / 4 * 4
    let m : Word := 0xFF#32 <<< (8 * (a % 4))
    let v := (h.msixWord k &&& ~~~m) ||| (b.setWidth 32 <<< (8 * (a % 4)))
    { h with host := { h.host with msix := Assoc.put h.host.msix k v } }

/-- The octets of data by address, those of a mask alone where there is one. -/
def maskedOctets (a : Nat) (data : List Byte) (mask : Option (BitVec 4)) : List (Nat × Byte) :=
  ((List.range data.length).filter (fun k => match mask with
    | some b => b.getLsbD k
    | none => true)).map (fun k => (a + k, data.getD k 0))

/-- A write of BAR4: the MSI-X table (Table 07.8). -/
def Hub.bar4Write (h : Hub) (off : Nat) (data : List Byte) (mask : Option (BitVec 4)) : Hub :=
  ((maskedOctets off data mask).foldl (fun (g : Hub) e => g.msixOctet e.1 e.2) h).msixFlush

/-- Octet a of BAR4: the MSI-X table, the pending-bit array at 0x8000; elsewhere the spec states none (log 54). -/
def Hub.bar4Octet (h : Hub) (a : Nat) : Byte :=
  if a < 512 then ((h.msixWord (a / 4 * 4)).extractLsb' (8 * (a % 4)) 8)
  else if 0x8000 ≤ a ∧ a < 0x8004 then
    BitVec.ofNat 8 ((List.range 8).foldl (fun n k => if h.host.msixPending.contains (8 * (a - 0x8000) + k) then n + 2 ^ k else n) 0)
  else (Config.freeWord (h.draws + a)).extractLsb' 0 8

/-- The lane rule reverses the octets of a masked word, and its mask. -/
def maskSwap (data : List Byte) (mask : BitVec 4) : List Byte × BitVec 4 := (data.reverse, mask.reverse)

/-- A host write mapped onto the fabric (R207 to R209). -/
def Hub.hostPosted (h : Hub) (w m : Nat) (data : List Byte) (mask : Option (BitVec 4)) : Hub :=
  let di := w != 0 && h.is (Fld.HP_WIN_CTL_DI w)
  match mask with
  | some b =>
    let r := if di then maskSwap data b else (data, b)
    h.sendPosted false (h.hostWorld w) (BitVec.ofNat 48 m) r.1 (some r.2)
  | none =>
    ((lanePieces di m data).flatMap (fun p => tlps 2048 p.2.length p.1 p.2)).foldl
      (fun (g : Hub) p => g.sendPosted false (g.hostWorld w) (BitVec.ofNat 48 p.1) p.2 none) h

/-- The octets of posted writes that wait in HP (Table 07.5). -/
def Hub.inboundLoad (h : Hub) : Nat :=
  (h.sw.offered.filter (fun o => decide (o.inp = 9) && decide (o.frame.hdr.typ = 5))).foldl (fun n o => n + o.frame.payload.length) 0

/-- HOST_BAR_WRITE (bar 0, 1, 2 for BAR0, BAR2, BAR4 of Table 07.8; R95, R197, R207 to R210): a memory write TLP to an offset of BAR0, BAR2 or BAR4; with a mask the octet
enables of one aligned word. The host has no posted credit while the inbound buffer is full. -/
def execHostBarWrite (bar : Fin 3) (off : Nat) (data : List Byte) (mask : Option (BitVec 4)) (s : State) :
    Host.Outcome State Fault Refusal :=
  s.on (fun h =>
    if !h.is Fld.HP_LINK_UP ∨ data.isEmpty ∨ 32768 < h.inboundLoad + data.length then h
    else if bar = 2 then h.bar4Write off data mask
    else if !h.sealed_ then h.countPreSeal
    else match h.inbound (decide (bar = 1)) off data.length with
      | none => (h.count Reg.HP_CNT_NOWIN).aerSet 20
      | some (w, m) => h.hostPosted w m data mask)

/-- A run of addresses cut into READs of at most size octets. -/
def readChunks (size : Nat) : Nat → Nat → Nat → List (Nat × Nat)
  | 0, _, _ => []
  | fuel + 1, a, n => if n = 0 then [] else (a, min size n) :: readChunks size fuel (a + size) (n - size)

/-- MAXRD, 64 to 2,048 octets. -/
def Hub.maxRd (h : Hub) : Nat := max 64 (min 2048 (h.get Fld.XB_CFG_MAXRD))

/-- Table 07.5: the host reads that wait in the inbound non-posted buffer, parts of them not yet issued. -/
def Hub.readsWaiting (h : Hub) : Nat := (((h.xact.waiting.filter (fun w => !w.mc)).map (fun w => w.hostId)).eraseDups).length

/-- HOST_BAR_READ (R95, R197, R207 to R209): a memory read TLP; it is split into fabric READs of MAXRD octets or less, which wait
for tag and space. -/
def execHostBarRead (bar : Fin 3) (off len : Nat) (s : State) : Host.Outcome State Fault Refusal :=
  s.on (fun h =>
    let id := h.host.nextRead
    let h1 := { h with host := { h.host with nextRead := id + 1 } }
    if !h.is Fld.HP_LINK_UP ∨ len = 0 ∨ 4096 < len ∨ 64 ≤ h.readsWaiting then h
    else if bar = 2 then (h1.draw).emit (.octets 4 [id, 0] ((List.range len).map (fun k => h.bar4Octet (off + k))))
    else if !h.sealed_ then h1.countPreSeal.emit (.octets 4 [id, 0] (List.replicate len 0xFF))
    else match h.inbound (decide (bar = 1)) off len with
      | none => ((h1.count Reg.HP_CNT_NOWIN).aerSet 20).emit (.octets 4 [id, 1] [])
      | some (w, m) =>
        let di := w != 0 && h.is (Fld.HP_WIN_CTL_DI w)
        let parts := (laneRuns di m len).flatMap (fun r => readChunks h.maxRd r.2 r.1 r.2)
        { h1 with
          host := { h1.host with reads := h1.host.reads ++ [⟨id, m % 2 ^ 48, len, di, parts.length, [], 0⟩] },
          xact := { h1.xact with
            waiting := h1.xact.waiting ++ parts.map (fun p => ⟨false, h.hostWorld w, BitVec.ofNat 48 p.1, .read p.2, id⟩) } })

/-! ### The outbound buffers -/

/-- The first entry of the outbound posted buffer goes to the root complex; a WRITE_NP is then complete (log 51), a posted write performed
(R196). One that Bus Master Enable or D3hot now keeps from leaving is refused as NOBM, a vector stays pending (R204, log 153). -/
def Hub.postedOut (h : Hub) : Hub :=
  match h.host.posted with
  | [] => h
  | e :: t =>
    let h1 := { h with host := { h.host with posted := t } }
    match e, h.hostBar with
    | .msix v, none => h1.emit (.msix v)
    | .msix v, some _ => { h1 with host := { h1.host with msixPending := v :: h1.host.msixPending.filter (· ≠ v) } }
    | .mark hdr, _ => h1.pwNote hdr
    | .write ps inp f (some k), none => ((h1.emitPieces ps).disarm (.held k)).finish inp f.hdr 0 stSC []
    | .write _ inp f (some k), some _ => (h1.disarm (.held k)).finish inp f.hdr 0 stCA []
    | .write ps _ f none, none => (h1.emitPieces ps).pwNote f.hdr
    | .write _ _ f none, some c => h1.notice f.hdr 9 c f.hdr.arg

/-- The first request of the outbound non-posted buffer that has not gone goes to the root complex, where its completion has its space
(R197, R198); one that Bus Master Enable or D3hot now keeps from leaving ends as CA (R204). -/
def Hub.npOut (h : Hub) : Hub :=
  match h.host.nps.find? (fun e => !e.sent) with
  | none => h
  | some e => match h.hostBar with
    | none =>
      if h.npMayGo e then
        Hub.emitNp { h with host := { h.host with nps := h.host.nps.map (fun x => if x.id = e.id then { x with sent := true } else x) } } e
      else h
    | some _ =>
      ((Hub.disarm { h with host := { h.host with nps := h.host.nps.filter (fun x => x.id != e.id) } } (.held e.id)).finish e.inp e.frame.hdr
        e.frame.rdlen stCA []).fenceRelease

/-- HOST_WINDOW_REQUEST (R197, R207 to R210): the first entry of the outbound posted or non-posted buffer becomes a PCIe request. -/
def execHostWindowRequest (posted : Bool) (s : State) : Host.Outcome State Fault Refusal :=
  s.on (fun h => if !h.is Fld.HP_LINK_UP then h else if posted then h.postedOut else h.npOut)

/-- PCIE_COMPLETION_RX (R183, R207, R208): the root complex completes request id; data are the octets of its runs in ascending PCIe
address. A completion that is not successful is CA (log 55). -/
def execPcieCompletionRx (id : Nat) (ok : Bool) (data : List Byte) (s : State) : Host.Outcome State Fault Refusal :=
  s.on (fun h =>
    match h.host.nps.find? (fun e => decide (e.id = id) && e.sent) with
    | none => h.aerSet 16
    | some e =>
      let h1 := Hub.disarm { h with host := { h.host with nps := h.host.nps.filter (fun x => x.id != id) } } (.held id)
      let lo := (laneRuns e.di e.addr e.len).foldl (fun (p : List (Nat × List Byte) × Nat) r =>
        (p.1 ++ [(r.1, slice data p.2 r.2)], p.2 + r.2)) ([], 0)
      (h1.finish e.inp e.frame.hdr e.frame.rdlen (if ok then stSC else stCA)
        (if ok then laneGather e.di e.addr e.len lo.1 else [])).fenceRelease)

/-! ### Configuration and link -/

/-- What a configuration read returns of a Type 0 header (Table 07.8): IDs, class and revision, Bus Master Enable, the header type of a
single function, the kinds and sizes of the BARs, Interrupt Pin 0; of what the spec does not give, such as the addresses that the host put
into the BARs and the places of the capabilities, the bits are free (log 56). -/
def Hub.cfgWord (h : Hub) (off : Nat) : Word :=
  let free := Config.freeWord h.draws
  let size := 2 ^ h.get Fld.HP_CTL_BAR2LOG
  if off = 0 then h.rd Reg.HP_ID0
  else if off = 4 then (free &&& 0xFFFFFFFB#32) ||| (if h.is Fld.HP_LINK_BME then 4#32 else 0#32)
  else if off = 8 then h.rd Reg.HP_ID2
  else if off = 0xC then free &&& 0xFF00FFFF#32
  else if off = 0x10 then (free &&& 0xFF000000#32) ||| 0x4#32
  else if off = 0x18 then (free &&& ~~~BitVec.ofNat 32 (size - 1)) ||| 0xC#32
  else if off = 0x1C then free &&& ~~~BitVec.ofNat 32 ((size - 1) / 0x100000000)
  else if off = 0x20 then free &&& 0xFFFF0000#32
  else if off = 0x24 then 0#32
  else if off = 0x2C then h.rd Reg.HP_ID1
  else if off = 0x3C then free &&& 0xFFFF00FF#32
  else free

/-- HOST_CONFIG_REQUEST (R204, R205): retry status until the host sheet is applied. -/
def execHostConfigRequest (q : HostCfg) (s : State) : Host.Outcome State Fault Refusal :=
  s.on (fun h =>
    if !h.is Fld.HP_LINK_UP then h
    else if !h.host.sheet then (h.count Reg.HP_CNT_CRS).emit (.note 15 [1])
    else match q with
      | .read off => (h.draw).emit (.note 15 [0, (h.cfgWord (off.toNat / 4 * 4)).toNat])
      | .busMaster b => (h.flag Fld.HP_LINK_BME b).msixFlush.emit (.note 15 [0])
      | .msix en m => (Hub.msixFlush { (h.flag Fld.HP_LINK_MSIXEN en) with host := { h.host with funcMask := m } }).emit (.note 15 [0])
      | .atomic b => Hub.emit { h with host := { h.host with atomicEn := b } } (.note 15 [0])
      | .power b => (Hub.msixFlush { h with host := { h.host with d3 := b } }).emit (.note 15 [0])
      | .aer u c => Hub.emit { h with host := { h.host with aer := (h.host.aer.1 &&& ~~~u, h.host.aer.2 &&& ~~~c) } }
          (.note 15 [0, h.host.aer.1.toNat, h.host.aer.2.toNat])
      | .sizes p r => Hub.emit { h with host := { h.host with maxPayload := max 128 (min 512 p), maxRead := max 128 (min 4096 r) } } (.note 15 [0]))

/-- R206: what the fall of the link does; the function's own registers are reset with it (log 57). -/
def Hub.linkDown (h : Hub) (hot : Bool) : Hub :=
  let nps := h.host.nps
  let posted := h.host.posted
  let h1 : Hub := { h with
    host := { HostPort.reset with sheet := h.host.sheet, nextRead := h.host.nextRead },
    xact := { h.xact with waiting := h.xact.waiting.filter (fun w => w.mc) } }
  let h2 := (h1.wr Reg.HP_LINK (h.rd Reg.HP_LINK &&& 0x40000000#32)).evt Fld.HP_EVT_LINKDN
  let h3 := (if hot then h2.evt Fld.HP_EVT_HOTRST else h2).hostWord
  let h4 := nps.foldl (fun (g : Hub) e => (g.disarm (.held e.id)).finish e.inp e.frame.hdr e.frame.rdlen stCA []) h3
  posted.foldl (fun (g : Hub) e => match e with
    | .msix _ => g
    | .mark hdr => g.pwNote hdr
    | .write _ inp f (some k) => (g.disarm (.held k)).finish inp f.hdr 0 stCA []
    | .write _ _ f none => g.notice f.hdr 9 causeLINKDOWN f.hdr.arg) h4

/-- HOST_LINK_DOWN (R206): link down, or a hot reset. -/
def execHostLinkDown (hot : Bool) (s : State) : Host.Outcome State Fault Refusal :=
  s.on (fun h => if h.is Fld.HP_LINK_UP then h.linkDown hot else h)

/-- HOST_LINK_UP (R205, R206): the port trains only while PERST_N is high, not where VID is 0xFFFF after the
sheets, and not in bypass forwarding (R325). -/
def execHostLinkUp (width rate : Fin 4) (s : State) : Host.Outcome State Fault Refusal :=
  s.on (fun h =>
    if !h.is Fld.HP_LINK_PERST ∨ h.is Fld.HP_LINK_UP ∨ (h.host.sheet ∧ h.get Fld.HP_ID0_VID = 0xFFFF) ∨ h.is Fld.REAM_STATUS_BYPASS then h
    else ((((h.set Fld.HP_LINK_UP 1).set Fld.HP_LINK_WIDTH width.val).set Fld.HP_LINK_RATE rate.val).evt Fld.HP_EVT_LINKUP).hostWord)

/-- PERST_N_CHANGE (R205, R206): with PERST_N low the link falls and STATE is OFF. -/
def execPerstNChange (level : Bool) (s : State) : Host.Outcome State Fault Refusal :=
  s.on (fun h =>
    let h1 := h.flag Fld.HP_LINK_PERST level
    if !level ∧ h1.is Fld.HP_LINK_UP then h1.linkDown false else h1.hostWord)

/-! ### Side-band messages -/

/-- R212: whether an earlier frame of a stream in C4-C7 still stands in the switch core towards HP or MC. -/
def Hub.sbBehind (h : Hub) (hdr : Header) : Bool :=
  let earlier (g : Header) : Bool :=
    decide (4 ≤ g.cls.toNat) && decide (g.source = hdr.source) && seqBefore g.seq hdr.seq
  h.sw.copies.any (fun q => decide (q.outp = 9 ∨ q.outp = 10) && !q.mirror && earlier q.frame.hdr) ||
    h.sw.offered.any (fun x => (x.outs.contains 9 || x.outs.contains 10) && earlier x.frame.hdr)

/-- R212: whether a frame that a block has taken may be performed before the others: in C4-C7 no earlier frame of its stream is still to
be performed: in the core, at the fence, in XB, or among the requests that host memory has not answered. -/
def Hub.sbFirst (h : Hub) (a : Act) : Bool :=
  decide (a.frame.hdr.cls.toNat < 4) ||
    (!h.sbBehind a.frame.hdr && !h.host.nps.any (fun e => decide (e.frame.hdr.source = a.frame.hdr.source)) && !h.xact.held.any (fun e => e.frame.hdr.source = a.frame.hdr.source) &&
      !(h.acts.takeWhile (fun b => b.fid != a.fid)).any (fun b =>
        decide (4 ≤ b.frame.hdr.cls.toNat) && decide (b.port = 9 ∨ b.port = 10) && decide (b.frame.hdr.source = a.frame.hdr.source)))

/-- The first side-band message of some kinds at HP or MC, where R212 lets it be performed. -/
def Hub.sbPerform (h : Hub) (port : Nat) (p : Nat → Bool) (f : Header → Hub → Hub) : Hub :=
  match h.acts.find? (fun a => decide (a.port = port) && decide (a.frame.hdr.typ = 10) && p a.frame.hdr.sub.toNat && h.actDue a) with
  | none => h
  | some a =>
    if h.sbFirst a then f a.frame.hdr { h with acts := h.acts.filter (fun b => !(decide (b.fid = a.fid) && decide (b.port = port))) }
    else h

/-- SB_INTERRUPT_RX (R211, R212): vectors 12 to 31 are sent; a vector below 12 is discarded. -/
def execSbInterruptRx (s : State) : Host.Outcome State Fault Refusal :=
  s.on (fun h => h.sbPerform 9 (fun k => k == 0) (fun hdr g =>
    let v := (hdr.arg.extractLsb' 0 5).toNat
    if v < 12 then g.count Reg.XB_CNT_SBBAD else g.msix v))

/-- SB_DOORBELL_RX (R211, R212): queued in XB_DOORBELL with vector 11; a full queue discards. -/
def execSbDoorbellRx (mc : Bool) (s : State) : Host.Outcome State Fault Refusal :=
  s.on (fun h => h.sbPerform (if mc then 10 else 9) (fun k => k == 1) (fun hdr g =>
    if 32 ≤ g.xact.doorbells.length then (g.count Reg.XB_CNT_DBFULL).evt Fld.XB_EVT_DBFULL
    else
      (Hub.showDoorbells { g with xact := { g.xact with doorbells := g.xact.doorbells ++ [hdr.arg.extractLsb' 0 32] } }).msix 11))

/-- SB_RESERVED_RX (R211): discarded and counted. -/
def execSbReservedRx (mc : Bool) (s : State) : Host.Outcome State Fault Refusal :=
  s.on (fun h => h.sbPerform (if mc then 10 else 9) (fun k => decide (3 ≤ k)) (fun _ g => g.count Reg.XB_CNT_SBBAD))

end Sys2Proof.Machine
end

