-- ==== Sys2Proof/Machine/KeyFrames.lean ====
section
/-! DEFINITION. TYPE 13 frames at MC (R339). -/

namespace Sys2Proof.Machine

/-- A TYPE 13 frame of the given subtype that a hub of a ring sent. -/
def Frame.keyFrom (f : Frame) (sub : BitVec 6) (ring : BitVec 4) (hub : BitVec 8) : Bool :=
  f.hdr.typ == 13 && f.hdr.sub == sub && f.hdr.sring == ring && f.hdr.shub == hub

/-- A LOAD frame of a stream: its source, stream number and class, within which frames keep their order (R194). -/
def Frame.loadOf (f : Frame) (ring : BitVec 4) (hub : BitVec 8) (stream : BitVec 12) (cls : BitVec 3) : Bool :=
  f.keyFrom 0 ring hub && f.hdr.stream == stream && f.hdr.cls == cls

/-- KEY_LOAD_FRAME_RX (R339): the first LOAD frame of the stream that MC has taken. It is applied only with WORLD 1 and AUTH, the tag of such a frame having
been checked before MC took it (R343), and answered with RESULT, on MC's stream and by the route to its source. -/
def execKeyLoadFrameRx (ring : BitVec 4) (hub : BitVec 8) (stream : BitVec 12) (cls : BitVec 3) (s : State) : Host.Outcome State Fault Refusal :=
  s.on (fun h => h.perform 10 (fun f => f.loadOf ring hub stream cls) (fun a g =>
    let hdr := a.frame.hdr
    if hdr.world ∧ hdr.auth then
      let e := slice a.frame.payload 0 64
      let r := g.applyEntry e
      ((r.2.opStat (e.getD 1 0).toNat r.1).sendXact 10 13 7 1 (g.portSecure 10) hdr.sring.toNat hdr.shub.toNat
        (g.get Fld.XB_STREAM_MCSTR) 0 0 [BitVec.ofNat 8 r.1.code]).2
    else g))

/-- KEY_RESULT_RX (R339): the first RESULT frame of the hub that MC has taken reaches Ploia. -/
def execKeyResultRx (ring : BitVec 4) (hub : BitVec 8) (s : State) : Host.Outcome State Fault Refusal :=
  s.on (fun h => h.perform 10 (fun f => f.keyFrom 1 ring hub) (fun a g =>
    g.emit (.note 13 [a.frame.hdr.sring.toNat, a.frame.hdr.shub.toNat, a.frame.hdr.seq.toNat, (a.frame.payload.getD 0 0).toNat])))

end Sys2Proof.Machine
end

