-- ==== Sys2Proof/Machine/Mgmt.lean ====
section
/-! DEFINITION. What the management island does of itself about unit state: the end of a command that does not complete (R26)
and the audit (R29). -/

namespace Sys2Proof.Machine

/-- R26: the crossing that a unit's commands take, as FLT_XSTOP tells it. -/
def Hub.commandLost (h : Hub) (u : UnitId) : Hub :=
  let x := cmdCrossing u.island
  h.raise Flt.XSTOP 3 (1024 * x.src.val + 32 * x.dst.val + x.kind.code) x.index.toNat 0

/-- COMMAND_TIMEOUT (R26): a unit's command has not completed within 1 ms of its write. -/
def execCommandTimeout (u : UnitId) (s : State) : Host.Outcome State Fault Refusal :=
  s.on (fun h => h.onDue (.command u.num) (fun g =>
    match u.cmdStat with
    | none => g
    | some a =>
      if (g.rd a).extractLsb' 0 4 = 1#4 then (g.wr a (((g.rd a) &&& ~~~0xF#32) ||| BitVec.ofNat 32 CmdResult.unreach.code)).commandLost u
      else g))

/-- R29: whether a command of a unit is pending. -/
def Hub.cmdPending (h : Hub) (u : UnitId) : Bool :=
  match u.cmdStat with
  | none => false
  | some a => decide ((h.rd a).extractLsb' 0 4 = 1#4)

/-- R29: the audit of one unit: passed over while a command is pending; UNREACH where the authority cannot be reached; a shadow
that differs takes the authority's word with SKEWED, and raises FLT_SKEW; agreement clears both bits. -/
def Hub.auditUnit (h : Hub) (u : UnitId) : Hub :=
  if h.cmdPending u then h
  else if !h.xOpen (cmdCrossing u.island) || !h.xOpen (pushCrossing u.island) then h.wr u.shadow (h.rd u.shadow ||| 0x80#32)
  else
    let auth := u.word (h.unit u) &&& 0xFFFFFF0F#32
    if (h.rd u.shadow) &&& 0xFFFFFF0F#32 = auth then h.wr u.shadow auth
    else (h.wr u.shadow (auth ||| 0x40#32)).raise Flt.SKEW 3 u.num 0 0

/-- STATE_AUDIT (R29, R261): every 10 ms, from seal on while Ploia runs, every unit's shadow against its authority, then the two copies of
every guarded channel. -/
def execStateAudit (s : State) : Host.Outcome State Fault Refusal :=
  s.on (fun h =>
    if h.halted ∨ !h.sealed_ then h
    else h.onPeriod .audit (ms 10) (fun g =>
      (List.range 16).foldl (fun (k : Hub) n => k.grdAudit n) (allUnits.foldl (fun (k : Hub) u => k.auditUnit u) g)))

end Sys2Proof.Machine
end

