-- ==== Sys2Proof/Machine/Pcs.lean ====
section
/-! DEFINITION. The blocks of a frame on a ring lane: the 64b/66b code and the scrambler of IEEE 802.3 Clause 49, with the choices of
R99. The standard's text is not in the spec: block types, control codes and the polynomial are PRESUMED (log 126). How many idle blocks
stand between two frames, and with them the state in which the scrambler meets a frame, is timing and left out. -/

namespace Sys2Proof.Machine

/-- A block of octets as sent, the first of them in the lowest bits of its 64; sync header 0b10 of a control block, 0b01 of data, in the
order in which the standard writes them. -/
def pcsBlock (control : Bool) (o : List Byte) : BitVec 66 :=
  (if control then 0b10#2 else 0b01#2) ++ BitVec.ofNat 64 (ofLe (slice o 0 8))

/-- The type of the /T/ block that holds n octets. -/
def pcsEnd (n : Nat) : Byte := [0x87#8, 0x99#8, 0xAA#8, 0xB4#8, 0xCC#8, 0xD2#8, 0xE1#8, 0xFF#8].getD n 0#8

/-- A block of idles. -/
def pcsIdle : BitVec 66 := pcsBlock true [0x1E#8]

/-- Data blocks, then the /T/ block with the last 0 to 7 octets (R99); the control codes after them are idles. -/
def pcsRest : Nat → List Byte → List (BitVec 66)
  | 0, _ => []
  | k + 1, o =>
    if 8 ≤ o.length then pcsBlock false (o.take 8) :: pcsRest k (o.drop 8)
    else [pcsBlock true (pcsEnd o.length :: o)]

/-- R99: the blocks of a frame given as octets: /S/ type 0x78 with its first seven octets, data, /T/, one block of idles. -/
def pcsFrame (o : List Byte) : List (BitVec 66) :=
  pcsBlock true (0x78#8 :: o.take 7) :: pcsRest (o.length / 8 + 1) (o.drop 7) ++ [pcsIdle]

/-- R114: the octets of a frame that is cut off: as far as they were sent, with the FCS inverted. -/
def Frame.stomped (f : Frame) : List Byte := f.body ++ leBytes 4 (~~~(crc32 f.body)).toNat

/-- What a frame sent on a lane puts on it, before the scrambler. -/
def Emission.blocks : Emission → List (BitVec 66)
  | .laneFrame _ f stomp => pcsFrame (if stomp then f.stomped else f.octets)
  | _ => []

/-- The scrambler, 1 + x^39 + x^58, on the 64 bits of a block, lowest first; its state holds the last 58 bits sent, the newest in bit 0. -/
def pcsScramble (s : BitVec 58) (b : BitVec 64) : BitVec 64 × BitVec 58 :=
  (List.range 64).foldl (fun (p : BitVec 64 × BitVec 58) i =>
    let x := b.getLsbD i ^^ p.2.getLsbD 38 ^^ p.2.getLsbD 57
    (p.1 ||| (BitVec.ofBool x).setWidth 64 <<< i, (p.2 <<< 1) ||| (BitVec.ofBool x).setWidth 58)) (0, s)

end Sys2Proof.Machine
end

