-- ==== Sys2Proof/Machine/RingRx.lean ====
section
/-! DEFINITION. Reception on ring lanes: header checks and the forwarding decision (R99, R111 to R113, R136, R137, R162, R187),
the end of a frame (R114, R88, R89, R134, R136, R343, R185). -/

namespace Sys2Proof.Machine

/-! ### The header -/

/-- Table 04.6: whether a class is allowed for a type. -/
def classAllowed (typ cls : Nat) : Bool :=
  match typ with
  | 0 => cls == 0 | 1 => cls == 7 | 2 => cls == 0 | 3 => decide (cls ≤ 1) | 4 => cls == 1 | 5 => cls == 4 | 6 => cls == 5
  | 7 => cls == 6 | 8 => cls == 3 | 9 => cls == 2 | 10 => true | 11 => cls == 6 | 12 => cls == 7 | 13 => cls == 7
  | 14 => cls == 7 | _ => false

/-- The steps of R111 that a header can fail, and R99's block type before them. -/
inductive HeaderFault where
  | start | hcrc | version | kind | feature
deriving DecidableEq, Repr

/-- R111: the first failure of a received header, in the order of its steps; start tells of block type 0x78. -/
def Hub.headerFault (h : Hub) (l : Nat) (hdr : Header) (hcrc : BitVec 16) (start : Bool) : Option HeaderFault :=
  let w := h.rd (Reg.RING_LINK l)
  if !start then some .start
  else if hcrc ≠ hdr.hcrc then some .hcrc
  else if hdr.ver.toNat ≠ h.get (Fld.RING_LINK_AG_MAJ l) then some .version
  else if !classAllowed hdr.typ.toNat hdr.cls.toNat ∨ hdr.dir = 3 then some .kind
  else if (if w.getLsbD 17 then 2048 else 1024) < hdr.len.toNat ∨ (hdr.auth ∧ !w.getLsbD 16) then some .feature
  else none

/-- R111, R117: what a failed header counts. -/
def Hub.headerBad (h : Hub) (l : Nat) : HeaderFault → Hub
  | .hcrc => (h.count (Reg.RING_CNT_HCRC l)).laneError l
  | .feature => (h.count (Reg.RING_CNT_DISC l)).evt (Fld.RING_EVT_FEATDROP l)
  | _ => h.count (Reg.RING_CNT_DISC l)

/-- The mask of rings that a bridge serves by pair b (false A, true B): AMASK or BMASK with its own ring of that side (R136). -/
def Hub.bridgeMask (h : Hub) (b : Bool) (ring : Nat) : Bool :=
  decide (ring = h.ringOf b) || (h.rd Reg.MBR_BRIDGE).getLsbD (if b then ring else 16 + ring)

/-- Whether a lane's arrivals are bridged: a ring lane of a hub in bridge mode. -/
def Hub.bridges (h : Hub) (l : Nat) : Bool := decide (h.pairB = 2) && decide (l < 4)

/-- R137: whether a frame has come round from the other ring of a bridge. -/
def Hub.bridgeRemoves (h : Hub) (l : Nat) (hdr : Header) : Bool := h.bridges l && h.bridgeMask (!h.laneRing l) hdr.sring.toNat

/-- Table 04.7, R121, R147: in bypass forwarding TYPE 12 frames with DHUB 0 alone are consumed; else whether the receiving hub consumes a frame, whether it would go on along the ring, and whether it is
removed as the hub's own. -/
def Hub.ringRow (h : Hub) (l : Nat) (hdr : Header) : Bool × Bool × Bool :=
  let me := h.numbered (h.laneRing l)
  let dest := h.isSelf hdr.dring.toNat hdr.dhub.toNat
  if hdr.dhub = 0 then (!h.is Fld.REAM_STATUS_BYPASS || hdr.typ == 12, false, false)
  else if h.isSelf hdr.sring.toNat hdr.shub.toNat ∧ !dest then (false, false, true)
  else if dest then (true, false, false)
  else if hdr.dhub = 0xFE ∧ h.isMgr (h.laneRing l) then (me, false, false)
  else if hdr.dhub = 0xFF then (me, true, false)
  else (false, true, false)

/-- R121, R136, R187: whether a bridge hub, numbered on the ring that brings it, takes a frame into its other ring: a C0-C3 frame, one
to the bridge itself among them, an announce whatever its DRING, or a C4-C7 frame to another hub, where the other pair's mask holds DRING
and R137 does not remove it. -/
def Hub.bridgeTakes (h : Hub) (l : Nat) (hdr : Header) : Bool :=
  h.bridges l && h.numbered (h.laneRing l) && !h.bridgeRemoves l hdr && hdr.dhub != 0 &&
  (decide (hdr.cls.toNat ≤ 3) || !h.isSelf hdr.dring.toNat hdr.dhub.toNat) &&
  ((hdr.typ == 0 && hdr.sub == 3) ||
    (h.bridgeMask (!h.laneRing l) hdr.dring.toNat && hdr.typ != 0 && hdr.typ != 1 && hdr.typ != 2 && hdr.typ != 14))

/-- R88, R89: what becomes of the world of a frame that enters the core by a ring port: kept, lowered, or the frame is
discarded. -/
inductive WorldCheck where
  | keep | lower | discard
deriving DecidableEq, Repr

/-- R88, R89 for a header. -/
def Hub.worldCheck (h : Hub) (l : Nat) (hdr : Header) : WorldCheck :=
  if hdr.ringOp ∨ !hdr.world then .keep
  else if !h.portSecure l ∨ (h.is (Fld.RING_CTL_SECAUTH l) ∧ !hdr.auth) then (if hdr.auth then .discard else .lower)
  else .keep

/-- Types whose local copies go to an output that the header alone names. -/
def Header.earlyType (hdr : Header) : Bool :=
  decide (4 ≤ hdr.cls.toNat) && !hdr.auth && !hdr.ringOp &&
  (hdr.typ == 5 || hdr.typ == 6 || hdr.typ == 7 || hdr.typ == 10 || hdr.typ == 12 || hdr.typ == 13)

/-- R88: a frame lowered to WORLD 0, counted. -/
def Hub.lowered (h : Hub) (l : Nat) (hdr : Header) : Header × Hub :=
  if h.worldCheck l hdr = .lower then ({ hdr with world := false }, h.count Reg.SW_CNT_LOWER) else (hdr, h)

/-- The header passed R111: the frame is handled by Table 04.7. A cut-through copy, and local copies of C4-C7 frames, are
offered as they arrive (R113, R155, R159). -/
def Hub.headerIn (h : Hub) (l : Nat) (hdr : Header) : Hub :=
  let row := h.ringRow l hdr
  let take := h.bridgeTakes l hdr
  let h1 := if row.2.2 then h.count (Reg.RING_CNT_HOPS l) else h
  let on := row.2.1 && decide (l < 4) && !h.bridgeRemoves l hdr && !(take && decide (4 ≤ hdr.cls.toNat))
  let far := on && decide (127 ≤ hdr.hops.toNat)
  let h2 := if far then h1.count (Reg.RING_CNT_HOPS l) else h1
  let forward := on && !far
  let early := row.1 && hdr.earlyType
  let num := h2.sw.nextFid
  let h3 := Hub.setLane { h2 with sw := { h2.sw with nextFid := num + 1 } } l { h2.lane l with rx := some ⟨num, hdr, row.1, take, forward, early⟩ }
  let h4 := if forward ∧ hdr.cls.toNat ≤ 2 then h3.presentAs num l ⟨hdr, [], 0⟩ [laneAcross l] true false (some l) else h3
  if early then
    let w := h4.lowered l hdr
    let o := w.2.localOuts ⟨w.1, [], 0⟩
    if o.1.isEmpty then o.2 else o.2.presentAs num l ⟨w.1, [], 0⟩ o.1 false false (some l)
  else h4

/-- RING_HEADER_RX (R99, R104, R111 to R113, R162, R178): a frame other than a negotiation frame begins to arrive on a lane;
start tells of block type 0x78, hcrc is the HCRC received. -/
def execRingHeaderRx (l : Fin 5) (hdr : Header) (hcrc : BitVec 16) (start : Bool) (s : State) :
    Host.Outcome State Fault Refusal :=
  s.on (fun h0 =>
    let h := h0.setLane l.val { h0.lane l.val with rx := none }
    if !h.laneUp l.val then h.count (Reg.RING_CNT_DISC l.val)
    else match h.headerFault l.val hdr hcrc start with
      | some e => h.headerBad l.val e
      | none =>
        let h1 := h.meter l.val hdr.cls.toNat hdr.frameLen
        if h1.ingressFull l.val hdr.cls.toNat hdr.frameLen then h1.ingressLost l.val hdr.cls.toNat
        else h1.headerIn l.val hdr)

/-! ### The end of a frame -/

/-- A copy that has arrived whole: its frame complete, and stale C4-C7 frames of a consumer queue marked LATE (R19). -/
def Hub.arrived (h : Hub) (payload : List Byte) (gmac : BitVec 128) (q : QCopy) : QCopy :=
  let late := q.late || (decide (q.wait = .consumer) && !q.mirror && h.stale q.frame.hdr)
  { q with frame := { q.frame.marked late with payload := payload, gmac := gmac }, rx := none, whole := true, late := late }

/-- The octets of a copy that has arrived whole stand in its cells (R151). -/
def Hub.writeWhole (h : Hub) (q : QCopy) : Hub :=
  { h with sw := { h.sw with vat := vatWrite h.sw.vat q.cells ((q.frame.marked false).octets.take (128 * q.cells.length)) } }

/-- What a copy that has arrived whole does: its octets are written, one that became stale is counted, and a cut-through copy that is
being sent leaves whole. -/
def Hub.settle (h : Hub) (q : QCopy) : Hub :=
  let h1 := (if q.late then h.countStale q.frame.hdr else h).writeWhole q
  if q.sending ∧ q.outp < 5 then (h1.emit (.laneFrame q.outp (h1.onLane q.outp q.transit q.frame) false)).count (Reg.RING_CNT_TXF q.outp) else h1

/-- A frame has arrived whole on lane l: the offers and copies that follow its reception are complete, tail samples among them. -/
def Hub.rxComplete (h : Hub) (l : Nat) (payload : List Byte) (gmac : BitVec 128) : Hub :=
  let fill (q : QCopy) : QCopy := if q.rx = some l then h.arrived payload gmac q else q
  let h1 : Hub := { h with sw := { h.sw with
    offered := h.sw.offered.map (fun x => if x.rx = some l then { x with frame := { x.frame with payload := payload, gmac := gmac }, rx := none } else x),
    copies := h.sw.copies.map fill } }
  ((h.sw.copies.filter (fun q => decide (q.rx = some l))).map fill).foldl Hub.settle (h1.mapSamples (fun q => some (fill q)))

/-! ### Consumption -/

/-- R88, R89, R110, R134, R343: the checks of a consumed frame: its world, its tag, which CY checks (R160), then duplicate discard of
C0-C3. Frames of ring operation have their tags checked by their own steps (R476). -/
def Hub.consume (h : Hub) (l : Nat) (r : RxFrame) (f : Frame) : Hub :=
  if h.worldCheck l f.hdr = .discard then (h.count Reg.SW_CNT_AUTHWD).raise Flt.WORLD 2 l 0 0
  else
    let w := if r.early then ((if h.worldCheck l f.hdr = .lower then { f.hdr with world := false } else f.hdr), h) else h.lowered l f.hdr
    let f1 : Frame := { f with hdr := w.1 }
    if f1.hdr.auth ∧ !f1.hdr.ringOp then w.2.presentCheck l f1 r else w.2.consumeOnce l l r f1

/-- R139: a hop-only frame of the neighbour shows its number. -/
def Hub.neighbour (h : Hub) (l : Nat) (hdr : Header) : Hub :=
  if l < 4 ∧ hdr.dhub = 0 ∧ hdr.hops = 0 ∧ hdr.shub ≠ 0 ∧ (hdr.typ = 0 ∨ hdr.typ = 2 ∨ hdr.typ = 14) ∧
      h.get (Fld.RING_PARTNER_PHUB l) ≠ hdr.shub.toNat then
    (((h.set (Fld.RING_PARTNER_PHUB l) hdr.shub.toNat).setLane l { h.lane l with unnumberedRounds := 0 }).rewatch (h.laneRing l)).showManager
  else h

/-- R160: an offer in its place by its first output among offers of one frame. -/
def offerInsert (x : Offered) : List Offered → List Offered
  | [] => [x]
  | y :: t => if x.outs.headD 0 < y.outs.headD 0 then x :: y :: t else y :: offerInsert x t

/-- R160: the offers made of one frame since there were n stand in the order of their outputs. -/
def Hub.offersAscend (h : Hub) (n : Nat) : Hub :=
  { h with sw := { h.sw with offered := h.sw.offered.take n ++ (h.sw.offered.drop n).foldl (fun l x => offerInsert x l) [] } }

/-- A frame received whole and good. A C3-C7 frame is forwarded only now, once it is whole and past its FCS (R113, R115); the copies of
a frame are offered in ascending order of output (R160), behind the copy that has been cut through. -/
def Hub.frameGood (h : Hub) (l : Nat) (r : RxFrame) (payload : List Byte) (gmac : BitVec 128) : Hub :=
  let f : Frame := ⟨r.hdr, payload, gmac⟩
  let h1 := (((h.count (Reg.RING_CNT_RXF l)).learnRoute l r.hdr).neighbour l r.hdr).rxComplete l payload gmac
  let h2 := if r.forward ∧ 3 ≤ r.hdr.cls.toNat then h1.presentAs r.num l f [laneAcross l] true false none else h1
  (if r.consume ∨ r.inject then h2.consume l r f else h2).offersAscend h1.sw.offered.length

/-- RING_FRAME_END (R114): the last block of the frame whose header was received; ok tells of a good FCS, no errored block and
a /T/ at the length that LEN implies. The payload is what arrived. -/
def execRingFrameEnd (l : Fin 5) (payload : List Byte) (gmac : BitVec 128) (ok : Bool) (s : State) :
    Host.Outcome State Fault Refusal :=
  s.on (fun h0 => match (h0.lane l.val).rx with
    | none => h0
    | some r =>
      let h := h0.setLane l.val { h0.lane l.val with rx := none }
      if ok ∧ payload.length = r.hdr.len.toNat then h.frameGood l.val r payload gmac
      else ((h.count (Reg.RING_CNT_FCS l.val)).laneError l.val).rxFailed l.val payload gmac)

end Sys2Proof.Machine
end

