-- ==== Sys2Proof/Machine/Dispatch.lean ====
section
/-! DEFINITION. Which meaning each command has: one arm per constructor of Instr. -/

namespace Sys2Proof.Machine

def exec (i : Instr) (s : State) : Host.Outcome State Fault Refusal :=
  match i with
  | .unitNop req u expect => Sys2Proof.Machine.execUnitNop req u expect s
  | .commandTimeout u => Sys2Proof.Machine.execCommandTimeout u s
  | .stateAudit => Sys2Proof.Machine.execStateAudit s
  | .budgetWindowEnd => Sys2Proof.Machine.execBudgetWindowEnd s
  | .mgmtSessionOpen req major minor => Sys2Proof.Machine.execMgmtSessionOpen req major minor s
  | .mgmtHalt => Sys2Proof.Machine.execMgmtHalt s
  | .registerWrite req a v be => Sys2Proof.Machine.execRegisterWrite req a v be s
  | .counterRead req a => Sys2Proof.Machine.execCounterRead req a s
  | .presealHostAccess read req a => Sys2Proof.Machine.execPresealHostAccess read req a s
  | .timeIncCommit req value => Sys2Proof.Machine.execTimeIncCommit req value s
  | .stepGo req v => Sys2Proof.Machine.execStepGo req v s
  | .slewEnd => Sys2Proof.Machine.execSlewEnd s
  | .timeOffsetWrite req v => Sys2Proof.Machine.execTimeOffsetWrite req v s
  | .offsetFreshnessExpiry => Sys2Proof.Machine.execOffsetFreshnessExpiry s
  | .holdoverExpiry => Sys2Proof.Machine.execHoldoverExpiry s
  | .timeHorizonWrite req c value => Sys2Proof.Machine.execTimeHorizonWrite req c value s
  | .horizonSwitch c => Sys2Proof.Machine.execHorizonSwitch c s
  | .timeNowRead req => Sys2Proof.Machine.execTimeNowRead req s
  | .releaseArrival e => Sys2Proof.Machine.execReleaseArrival e s
  | .timedHandover => Sys2Proof.Machine.execTimedHandover s
  | .queueDelivery => Sys2Proof.Machine.execQueueDelivery s
  | .announceSend o => Sys2Proof.Machine.execAnnounceSend o s
  | .announceRx l ptp f => Sys2Proof.Machine.execAnnounceRx l ptp f s
  | .announceSourceDrop ring hub ptp => Sys2Proof.Machine.execAnnounceSourceDrop ring hub ptp s
  | .syncSend tOut => Sys2Proof.Machine.execSyncSend tOut s
  | .syncRx l f tIn tOut fcsOk => Sys2Proof.Machine.execSyncRx l f tIn tOut fcsOk s
  | .syncPathTimeout => Sys2Proof.Machine.execSyncPathTimeout s
  | .dreqSend l t1 => Sys2Proof.Machine.execDreqSend l t1 s
  | .dreqRx l f t2 t3 => Sys2Proof.Machine.execDreqRx l f t2 t3 s
  | .drespRx l f t4 => Sys2Proof.Machine.execDrespRx l f t4 s
  | .timeFrameReservedRx l => Sys2Proof.Machine.execTimeFrameReservedRx l s
  | .ppsInEdge e => Sys2Proof.Machine.execPpsInEdge e s
  | .ppsInLoss => Sys2Proof.Machine.execPpsInLoss s
  | .ppsOutPulse => Sys2Proof.Machine.execPpsOutPulse s
  | .ppsOutPulseEnd => Sys2Proof.Machine.execPpsOutPulseEnd s
  | .tincsatRelease => Sys2Proof.Machine.execTincsatRelease s
  | .ringDisable req l expect => Sys2Proof.Machine.execRingDisable req l expect s
  | .ringEnable req l expect => Sys2Proof.Machine.execRingEnable req l expect s
  | .ringRetrain req l expect => Sys2Proof.Machine.execRingRetrain req l expect s
  | .trainingDone l => Sys2Proof.Machine.execTrainingDone l s
  | .trainingTimeout l => Sys2Proof.Machine.execTrainingTimeout l s
  | .blockLockHeld l => Sys2Proof.Machine.execBlockLockHeld l s
  | .tLockExpiry l => Sys2Proof.Machine.execTLockExpiry l s
  | .tNegExpiry l => Sys2Proof.Machine.execTNegExpiry l s
  | .negResend l => Sys2Proof.Machine.execNegResend l s
  | .linkOfferRx l o => Sys2Proof.Machine.execLinkOfferRx l o s
  | .linkAcceptRx l a => Sys2Proof.Machine.execLinkAcceptRx l a s
  | .linkCloseRx l => Sys2Proof.Machine.execLinkCloseRx l s
  | .blockLockLoss l lost sg => Sys2Proof.Machine.execBlockLockLoss l lost sg s
  | .holddownExpiry l => Sys2Proof.Machine.execHolddownExpiry l s
  | .refusedExpiry l => Sys2Proof.Machine.execRefusedExpiry l s
  | .ringHeaderRx l hdr hcrc start => Sys2Proof.Machine.execRingHeaderRx l hdr hcrc start s
  | .ringFrameEnd l payload gmac ok => Sys2Proof.Machine.execRingFrameEnd l payload gmac ok s
  | .errWindowEnd l => Sys2Proof.Machine.execErrWindowEnd l s
  | .eqAdapt l signs => Sys2Proof.Machine.execEqAdapt l signs s
  | .eqsatRelease l => Sys2Proof.Machine.execEqsatRelease l s
  | .cl72CoeffRequest l coeff inc => Sys2Proof.Machine.execCl72CoeffRequest l coeff inc s
  | .cl72Initialize l => Sys2Proof.Machine.execCl72Initialize l s
  | .cl72Preset l => Sys2Proof.Machine.execCl72Preset l s
  | .pingRx l hdr payload => Sys2Proof.Machine.execPingRx l hdr payload s
  | .echoRx l hdr payload => Sys2Proof.Machine.execEchoRx l hdr payload s
  | .censusRollRx l c => Sys2Proof.Machine.execCensusRollRx l c s
  | .censusAssignRx l c => Sys2Proof.Machine.execCensusAssignRx l c s
  | .censusCommitRx l c => Sys2Proof.Machine.execCensusCommitRx l c s
  | .censusRequestRx l => Sys2Proof.Machine.execCensusRequestRx l s
  | .censusReservedRx => Sys2Proof.Machine.execCensusReservedRx s
  | .commitSilenceTimeout b => Sys2Proof.Machine.execCommitSilenceTimeout b s
  | .censusPassTimeout b => Sys2Proof.Machine.execCensusPassTimeout b s
  | .censusRetryTimer b => Sys2Proof.Machine.execCensusRetryTimer b s
  | .commitRepeat b => Sys2Proof.Machine.execCommitRepeat b s
  | .mbrCensusCmd req => Sys2Proof.Machine.execMbrCensusCmd req s
  | .mbrFreeCmd req n => Sys2Proof.Machine.execMbrFreeCmd req n s
  | .mbrSwapCmd req => Sys2Proof.Machine.execMbrSwapCmd req s
  | .reservationExpiry b n => Sys2Proof.Machine.execReservationExpiry b n s
  | .incarnAnnounceSend => Sys2Proof.Machine.execIncarnAnnounceSend s
  | .incarnAnnounceRx hdr => Sys2Proof.Machine.execIncarnAnnounceRx hdr s
  | .ddEntryAge ring hub stream => Sys2Proof.Machine.execDdEntryAge ring hub stream s
  | .tetherSend => Sys2Proof.Machine.execTetherSend s
  | .tetherRx l hdr => Sys2Proof.Machine.execTetherRx l hdr s
  | .pathFault p => Sys2Proof.Machine.execPathFault p s
  | .partnerBeatRx l hdr b slot => Sys2Proof.Machine.execPartnerBeatRx l hdr b slot s
  | .swapProposeRx n t => Sys2Proof.Machine.execSwapProposeRx n t s
  | .swapReadyRx pl n => Sys2Proof.Machine.execSwapReadyRx pl n s
  | .swapCommitRx pl n => Sys2Proof.Machine.execSwapCommitRx pl n s
  | .swapCommittedRx pl n => Sys2Proof.Machine.execSwapCommittedRx pl n s
  | .swapAbortRx n => Sys2Proof.Machine.execSwapAbortRx n s
  | .swapDeadline => Sys2Proof.Machine.execSwapDeadline s
  | .swapTReached => Sys2Proof.Machine.execSwapTReached s
  | .swapSharedFramesEnd => Sys2Proof.Machine.execSwapSharedFramesEnd s
  | .fReadyDeadline => Sys2Proof.Machine.execFReadyDeadline s
  | .swapwaitExpiry => Sys2Proof.Machine.execSwapwaitExpiry s
  | .pairPeerLow => Sys2Proof.Machine.execPairPeerLow s
  | .unpairedTimeout => Sys2Proof.Machine.execUnpairedTimeout s
  | .switchCopyWrite w => Sys2Proof.Machine.execSwitchCopyWrite w s
  | .heldCopyTaken p => Sys2Proof.Machine.execHeldCopyTaken p s
  | .outputSelect o ecc spare => Sys2Proof.Machine.execOutputSelect o ecc spare s
  | .tailSampleSkip o => Sys2Proof.Machine.execTailSampleSkip o s
  | .hostQueuePop req q => Sys2Proof.Machine.execHostQueuePop req q s
  | .vatminRead req => Sys2Proof.Machine.execVatminRead req s
  | .postedWriteRx => Sys2Proof.Machine.execPostedWriteRx s
  | .npReadRx => Sys2Proof.Machine.execNpReadRx s
  | .npWriteRx => Sys2Proof.Machine.execNpWriteRx s
  | .npSwapRx => Sys2Proof.Machine.execNpSwapRx s
  | .npCasRx => Sys2Proof.Machine.execNpCasRx s
  | .npReservedRx => Sys2Proof.Machine.execNpReservedRx s
  | .requestIssue mc own => Sys2Proof.Machine.execRequestIssue mc own s
  | .completionRx mc => Sys2Proof.Machine.execCompletionRx mc s
  | .busyReissue t => Sys2Proof.Machine.execBusyReissue t s
  | .completionTimeout t => Sys2Proof.Machine.execCompletionTimeout t s
  | .tagQuarantineEnd t => Sys2Proof.Machine.execTagQuarantineEnd t s
  | .completerAbandon id => Sys2Proof.Machine.execCompleterAbandon id s
  | .fenceTimeout id => Sys2Proof.Machine.execFenceTimeout id s
  | .noticeRx mc => Sys2Proof.Machine.execNoticeRx mc s
  | .noticeQueuePop req => Sys2Proof.Machine.execNoticeQueuePop req s
  | .hostBarWrite bar off data mask => Sys2Proof.Machine.execHostBarWrite bar off data mask s
  | .hostBarRead bar off len => Sys2Proof.Machine.execHostBarRead bar off len s
  | .hostWindowRequest posted => Sys2Proof.Machine.execHostWindowRequest posted s
  | .pcieCompletionRx id ok data => Sys2Proof.Machine.execPcieCompletionRx id ok data s
  | .hostConfigRequest q => Sys2Proof.Machine.execHostConfigRequest q s
  | .hostLinkDown hot => Sys2Proof.Machine.execHostLinkDown hot s
  | .hostLinkUp width rate => Sys2Proof.Machine.execHostLinkUp width rate s
  | .perstNChange level => Sys2Proof.Machine.execPerstNChange level s
  | .sbInterruptRx => Sys2Proof.Machine.execSbInterruptRx s
  | .sbDoorbellRx mc => Sys2Proof.Machine.execSbDoorbellRx mc s
  | .sbReservedRx mc => Sys2Proof.Machine.execSbReservedRx mc s
  | .sbDataWrite req v => Sys2Proof.Machine.execSbDataWrite req v s
  | .doorbellPop req => Sys2Proof.Machine.execDoorbellPop req s
  | .stFrameRx p octets fcsOk raw => Sys2Proof.Machine.execStFrameRx p octets fcsOk raw s
  | .stTunnelTx p raw => Sys2Proof.Machine.execStTunnelTx p raw s
  | .stDisable req p expect => Sys2Proof.Machine.execStDisable req p expect s
  | .stEnable req p expect => Sys2Proof.Machine.execStEnable req p expect s
  | .stRestartAn req p expect => Sys2Proof.Machine.execStRestartAn req p expect s
  | .stLinkChange p up anDone speed => Sys2Proof.Machine.execStLinkChange p up anDone speed s
  | .stTsfifoPop req p => Sys2Proof.Machine.execStTsfifoPop req p s
  | .engineJmp c e pins => Sys2Proof.Machine.execEngineJmp c e pins s
  | .engineWait c e pins => Sys2Proof.Machine.execEngineWait c e pins s
  | .engineIn c e pins => Sys2Proof.Machine.execEngineIn c e pins s
  | .engineOut c e => Sys2Proof.Machine.execEngineOut c e s
  | .enginePush c e => Sys2Proof.Machine.execEnginePush c e s
  | .enginePull c e => Sys2Proof.Machine.execEnginePull c e s
  | .engineMov c e pins => Sys2Proof.Machine.execEngineMov c e pins s
  | .engineSet c e => Sys2Proof.Machine.execEngineSet c e s
  | .engineIrq c e => Sys2Proof.Machine.execEngineIrq c e s
  | .engineStmp c e => Sys2Proof.Machine.execEngineStmp c e s
  | .engineEmit c e => Sys2Proof.Machine.execEngineEmit c e s
  | .engineStallTimeout c e => Sys2Proof.Machine.execEngineStallTimeout c e s
  | .engineStart req c e expect pc => Sys2Proof.Machine.execEngineStart req c e expect pc s
  | .engineStop req c e expect => Sys2Proof.Machine.execEngineStop req c e expect s
  | .engineRestart req c e expect => Sys2Proof.Machine.execEngineRestart req c e expect s
  | .engineStep req c e expect pins => Sys2Proof.Machine.execEngineStep req c e expect pins s
  | .engineRelease req c e expect => Sys2Proof.Machine.execEngineRelease req c e expect s
  | .clusterSync req c expect mask => Sys2Proof.Machine.execClusterSync req c expect mask s
  | .clusterArm req c expect mask => Sys2Proof.Machine.execClusterArm req c expect mask s
  | .clusterDisarm req c expect mask => Sys2Proof.Machine.execClusterDisarm req c expect mask s
  | .clusterStop req c expect mask => Sys2Proof.Machine.execClusterStop req c expect mask s
  | .engineTimedStart c => Sys2Proof.Machine.execEngineTimedStart c s
  | .wireFlagRx c => Sys2Proof.Machine.execWireFlagRx c s
  | .wireStartRx c => Sys2Proof.Machine.execWireStartRx c s
  | .wireStopRx c => Sys2Proof.Machine.execWireStopRx c s
  | .lineEdge c k level raw => Sys2Proof.Machine.execLineEdge c k level raw s
  | .edgeGapEnd c k => Sys2Proof.Machine.execEdgeGapEnd c k s
  | .streamFill c => Sys2Proof.Machine.execStreamFill c s
  | .txqPush req c e w => Sys2Proof.Machine.execTxqPush req c e w s
  | .rxqPop req c e => Sys2Proof.Machine.execRxqPop req c e s
  | .clusterPllLoss c => Sys2Proof.Machine.execClusterPllLoss c s
  | .clusterPllRelock c => Sys2Proof.Machine.execClusterPllRelock c s
  | .sirefSample g uv => Sys2Proof.Machine.execSirefSample g uv s
  | .thresholdUpdate g => Sys2Proof.Machine.execThresholdUpdate g s
  | .senFirstThreshold g => Sys2Proof.Machine.execSenFirstThreshold g s
  | .comparatorTransition n level raw => Sys2Proof.Machine.execComparatorTransition n level raw s
  | .debounceEnd n => Sys2Proof.Machine.execDebounceEnd n s
  | .chatterWindowEnd g => Sys2Proof.Machine.execChatterWindowEnd g s
  | .sensatRelease g => Sys2Proof.Machine.execSensatRelease g s
  | .senEnable req g expect => Sys2Proof.Machine.execSenEnable req g expect s
  | .senDisable req g expect => Sys2Proof.Machine.execSenDisable req g expect s
  | .grdLevelApply evb => Sys2Proof.Machine.execGrdLevelApply evb s
  | .minonEnd n => Sys2Proof.Machine.execMinonEnd n s
  | .maxonExpiry n => Sys2Proof.Machine.execMaxonExpiry n s
  | .rbSenseChange n level => Sys2Proof.Machine.execRbSenseChange n level s
  | .rbMismatch n => Sys2Proof.Machine.execRbMismatch n s
  | .grdDisable req n expect => Sys2Proof.Machine.execGrdDisable req n expect s
  | .grdEnable req n expect => Sys2Proof.Machine.execGrdEnable req n expect s
  | .grdClear req n expect => Sys2Proof.Machine.execGrdClear req n expect s
  | .pbDisable req b expect => Sys2Proof.Machine.execPbDisable req b expect s
  | .pbEnable req b expect => Sys2Proof.Machine.execPbEnable req b expect s
  | .pbRecover req b expect => Sys2Proof.Machine.execPbRecover req b expect s
  | .pbSleep req b expect => Sys2Proof.Machine.execPbSleep req b expect s
  | .pbWake req b expect => Sys2Proof.Machine.execPbWake req b expect s
  | .pbAbort req b expect => Sys2Proof.Machine.execPbAbort req b expect s
  | .pbFlush req b expect => Sys2Proof.Machine.execPbFlush req b expect s
  | .pbIntegrateDone b => Sys2Proof.Machine.execPbIntegrateDone b s
  | .pbRecoveryDone b => Sys2Proof.Machine.execPbRecoveryDone b s
  | .pbSleepEnter b => Sys2Proof.Machine.execPbSleepEnter b s
  | .pbTunnelEntry idle => Sys2Proof.Machine.execPbTunnelEntry idle s
  | .pbTxgoNow req b => Sys2Proof.Machine.execPbTxgoNow req b s
  | .pbTxgoTimed req b => Sys2Proof.Machine.execPbTxgoTimed req b s
  | .pbTimedEntry b idle => Sys2Proof.Machine.execPbTimedEntry b idle s
  | .pbTxStart b => Sys2Proof.Machine.execPbTxStart b s
  | .pbTxEnd b e => Sys2Proof.Machine.execPbTxEnd b e s
  | .pbFrameRx b f self sof eof => Sys2Proof.Machine.execPbFrameRx b f self sof eof s
  | .pbFolageExpiry b => Sys2Proof.Machine.execPbFolageExpiry b s
  | .pbWakeEdge lv => Sys2Proof.Machine.execPbWakeEdge lv s
  | .wirePbWakeRx => Sys2Proof.Machine.execWirePbWakeRx s
  | .wirePbSleepRx => Sys2Proof.Machine.execWirePbSleepRx s
  | .wirePbAbortRx => Sys2Proof.Machine.execWirePbAbortRx s
  | .crossingTimeout x side => Sys2Proof.Machine.execCrossingTimeout x side s
  | .crossingLiveReturn x => Sys2Proof.Machine.execCrossingLiveReturn x s
  | .crossingResyncDone x => Sys2Proof.Machine.execCrossingResyncDone x s
  | .groupResetOrder req v => Sys2Proof.Machine.execGroupResetOrder req v s
  | .groupResetRelease g vio => Sys2Proof.Machine.execGroupResetRelease g vio s
  | .chipResetRelease slot testmode => Sys2Proof.Machine.execChipResetRelease slot testmode s
  | .bootImageVerify sfdp => Sys2Proof.Machine.execBootImageVerify sfdp s
  | .reamSlotCheck => Sys2Proof.Machine.execReamSlotCheck s
  | .sheetsApply vio => Sys2Proof.Machine.execSheetsApply vio s
  | .reamWriteRequest req image reset => Sys2Proof.Machine.execReamWriteRequest req image reset s
  | .reamWriteDone ok => Sys2Proof.Machine.execReamWriteDone ok s
  | .recoveryResetRequest req => Sys2Proof.Machine.execRecoveryResetRequest req s
  | .stagedReset => Sys2Proof.Machine.execStagedReset s
  | .keyApply req => Sys2Proof.Machine.execKeyApply req s
  | .keyDestroy req slot => Sys2Proof.Machine.execKeyDestroy req slot s
  | .keyScrub upsets => Sys2Proof.Machine.execKeyScrub upsets s
  | .keyLoadFrameRx ring hub stream cls => Sys2Proof.Machine.execKeyLoadFrameRx ring hub stream cls s
  | .keyResultRx ring hub => Sys2Proof.Machine.execKeyResultRx ring hub s
  | .keyRselWrite req r v => Sys2Proof.Machine.execKeyRselWrite req r v s
  | .otkProvision req key okFirst okSecond => Sys2Proof.Machine.execOtkProvision req key okFirst okSecond s
  | .ownerFuseBlow req set digest => Sys2Proof.Machine.execOwnerFuseBlow req set digest s
  | .faultEvent src island => Sys2Proof.Machine.execFaultEvent src island s
  | .classFall src => Sys2Proof.Machine.execClassFall src s
  | .faultResetEntry => Sys2Proof.Machine.execFaultResetEntry s
  | .aliveToggle => Sys2Proof.Machine.execAliveToggle s
  | .aliveRearm req => Sys2Proof.Machine.execAliveRearm req s
  | .errnRelease => Sys2Proof.Machine.execErrnRelease s
  | .faultPendClear req m v => Sys2Proof.Machine.execFaultPendClear req m v s
  | .faultRecordPop req => Sys2Proof.Machine.execFaultRecordPop req s
  | .faultSrcCfgWrite req n v => Sys2Proof.Machine.execFaultSrcCfgWrite req n v s
  | .selftestRequest req v => Sys2Proof.Machine.execSelftestRequest req v s
  | .selftestShadowStep t unit where_ ok passEnd => Sys2Proof.Machine.execSelftestShadowStep t unit where_ ok passEnd s
  | .selftestWindowStart t n => Sys2Proof.Machine.execSelftestWindowStart t n s
  | .selftestWindowEnd ok where_ => Sys2Proof.Machine.execSelftestWindowEnd ok where_ s
  | .selftestDeferExpiry => Sys2Proof.Machine.execSelftestDeferExpiry s
  | .faultInject req v => Sys2Proof.Machine.execFaultInject req v s
  | .dieTempCross t => Sys2Proof.Machine.execDieTempCross t s
  | .flushInterval => Sys2Proof.Machine.execFlushInterval s
  | .logFlushCmd req v => Sys2Proof.Machine.execLogFlushCmd req v s
  | .flushCommit ok => Sys2Proof.Machine.execFlushCommit ok s
  | .rollupDone ok => Sys2Proof.Machine.execRollupDone ok s
  | .histogramSample die vdd vdds vddsh vio33 vddaon vaon33 => Sys2Proof.Machine.execHistogramSample die vdd vdds vddsh vio33 vddaon vaon33 s
  | .directRecord typ arg data => Sys2Proof.Machine.execDirectRecord typ arg data s
  | .identityWriteDeferred => Sys2Proof.Machine.execIdentityWriteDeferred s
  | .updStart req id len force => Sys2Proof.Machine.execUpdStart req id len force s
  | .updChunk req id index crc data ok => Sys2Proof.Machine.execUpdChunk req id index crc data ok s
  | .updCommit req id reset => Sys2Proof.Machine.execUpdCommit req id reset s
  | .updAbort req => Sys2Proof.Machine.execUpdAbort req s
  | .updConfirm req => Sys2Proof.Machine.execUpdConfirm req s
  | .couchStepDone ok => Sys2Proof.Machine.execCouchStepDone ok s
  | .trialExpiry => Sys2Proof.Machine.execTrialExpiry s
  | .peAdcSample fa fb fbus vout => Sys2Proof.Machine.execPeAdcSample fa fb fbus vout s
  | .feedReverse b => Sys2Proof.Machine.execFeedReverse b s
  | .feedForwardResume b => Sys2Proof.Machine.execFeedForwardResume b s
  | .pinDerive p => Sys2Proof.Machine.execPinDerive p s
  | .uvovWindowChange uvOk ovOk => Sys2Proof.Machine.execUvovWindowChange uvOk ovOk s
  | .insertionDelayEnd => Sys2Proof.Machine.execInsertionDelayEnd s
  | .rampComplete => Sys2Proof.Machine.execRampComplete s
  | .rampTimeout => Sys2Proof.Machine.execRampTimeout s
  | .regulationEntry vsns vds => Sys2Proof.Machine.execRegulationEntry vsns vds s
  | .regulationEnd => Sys2Proof.Machine.execRegulationEnd s
  | .fastTrip vsns => Sys2Proof.Machine.execFastTrip vsns s
  | .faultTimerExpiry => Sys2Proof.Machine.execFaultTimerExpiry s
  | .thermalModelUpdate vsns vds temp => Sys2Proof.Machine.execThermalModelUpdate vsns vds temp s
  | .offTimeEnd => Sys2Proof.Machine.execOffTimeEnd s
  | .retryCountReset => Sys2Proof.Machine.execRetryCountReset s
  | .foldsatRelease => Sys2Proof.Machine.execFoldsatRelease s
  | .pwrRearm req v => Sys2Proof.Machine.execPwrRearm req v s
  | .aonStart fa fb vbus cc2 p => Sys2Proof.Machine.execAonStart fa fb vbus cc2 p s
  | .aonReset => Sys2Proof.Machine.execAonReset s
  | .railGoodStep => Sys2Proof.Machine.execRailGoodStep s
  | .powerGood => Sys2Proof.Machine.execPowerGood s
  | .railSeqTimeout => Sys2Proof.Machine.execRailSeqTimeout s
  | .seqRetry => Sys2Proof.Machine.execSeqRetry s
  | .supplyWarningBegin below above => Sys2Proof.Machine.execSupplyWarningBegin below above s
  | .supplyWarningEnd => Sys2Proof.Machine.execSupplyWarningEnd s
  | .deferTimeout => Sys2Proof.Machine.execDeferTimeout s
  | .railReset rail ov => Sys2Proof.Machine.execRailReset rail ov s
  | .railResequence => Sys2Proof.Machine.execRailResequence s
  | .egrstExpiry => Sys2Proof.Machine.execEgrstExpiry s
  | .powerDownStep => Sys2Proof.Machine.execPowerDownStep s
  | .resetNFall => Sys2Proof.Machine.execResetNFall s
  | .resetNRise => Sys2Proof.Machine.execResetNRise s
  | .orderlyResetOrder req v => Sys2Proof.Machine.execOrderlyResetOrder req v s
  | .orderlyResetEntry => Sys2Proof.Machine.execOrderlyResetEntry s
  | .ccAttach cc2 rplvl accessory canSource => Sys2Proof.Machine.execCcAttach cc2 rplvl accessory canSource s
  | .ccDetach => Sys2Proof.Machine.execCcDetach s
  | .vbusDetach => Sys2Proof.Machine.execVbusDetach s
  | .drpToggle => Sys2Proof.Machine.execDrpToggle s
  | .pdSourceCapsRx pdos => Sys2Proof.Machine.execPdSourceCapsRx pdos s
  | .pdRequestRx pdo curr => Sys2Proof.Machine.execPdRequestRx pdo curr s
  | .pdAcceptRx => Sys2Proof.Machine.execPdAcceptRx s
  | .pdRejectRx => Sys2Proof.Machine.execPdRejectRx s
  | .pdWaitRx => Sys2Proof.Machine.execPdWaitRx s
  | .pdPsRdyRx => Sys2Proof.Machine.execPdPsRdyRx s
  | .pdGetSourceCapRx => Sys2Proof.Machine.execPdGetSourceCapRx s
  | .pdGetSinkCapRx => Sys2Proof.Machine.execPdGetSinkCapRx s
  | .pdSoftResetRx => Sys2Proof.Machine.execPdSoftResetRx s
  | .pdHardResetRx => Sys2Proof.Machine.execPdHardResetRx s
  | .pdRoleSwapRx => Sys2Proof.Machine.execPdRoleSwapRx s
  | .pdUnsupportedRx => Sys2Proof.Machine.execPdUnsupportedRx s
  | .senderResponseTimeout => Sys2Proof.Machine.execSenderResponseTimeout s
  | .sinkWaitCapTimeout => Sys2Proof.Machine.execSinkWaitCapTimeout s
  | .errorRecoveryEnd => Sys2Proof.Machine.execErrorRecoveryEnd s
  | .waitRetry => Sys2Proof.Machine.execWaitRetry s
  | .psTransitionTimeout => Sys2Proof.Machine.execPsTransitionTimeout s
  | .vbusOvervoltage mv => Sys2Proof.Machine.execVbusOvervoltage mv s
  | .sourceOcp => Sys2Proof.Machine.execSourceOcp s
  | .svcRenegotiate req => Sys2Proof.Machine.execSvcRenegotiate req s
  | .svcHardreset req => Sys2Proof.Machine.execSvcHardreset req s
  | .svcErrorrecovery req => Sys2Proof.Machine.execSvcErrorrecovery req s
  | .svcVdmRequest data => Sys2Proof.Machine.execSvcVdmRequest data s
  | .svcIdent => Sys2Proof.Machine.execSvcIdent s
  | .svcLogread off len => Sys2Proof.Machine.execSvcLogread off len s
  | .blockLockAcquired k => Sys2Proof.Machine.execBlockLockAcquired k s
  | .pbRxError b kind phase af => Sys2Proof.Machine.execPbRxError b kind phase af s
  | .pbProtocolException b => Sys2Proof.Machine.execPbProtocolException b s
  | .pairPeerRise => Sys2Proof.Machine.execPairPeerRise s
  | .errnHoldWrite req hold => Sys2Proof.Machine.execErrnHoldWrite req hold s
  | .mergedFlushStart => Sys2Proof.Machine.execMergedFlushStart s

end Sys2Proof.Machine
end

