-- ==== Sys2Proof/Machine/Tap.lean ====
section
/-! DEFINITION. The test access port and boundary scan (R460). The opcode table has no row for TCK, TMS, TDI and TRST_N, so no command
moves the port; what its pins do is said here of any hub (log 154). -/

namespace Sys2Proof.Machine

/-- The next state of the controller at a rising edge of TCK (IEEE 1149.1; PRESUMED, log 154). -/
def TapState.next (s : TapState) (tms : Bool) : TapState :=
  match s, tms with
  | .reset, true => .reset
  | .reset, false => .idle
  | .idle, true => .selectDr
  | .idle, false => .idle
  | .selectDr, true => .selectIr
  | .selectDr, false => .captureDr
  | .captureDr, true => .exit1Dr
  | .captureDr, false => .shiftDr
  | .shiftDr, true => .exit1Dr
  | .shiftDr, false => .shiftDr
  | .exit1Dr, true => .updateDr
  | .exit1Dr, false => .pauseDr
  | .pauseDr, true => .exit2Dr
  | .pauseDr, false => .pauseDr
  | .exit2Dr, true => .updateDr
  | .exit2Dr, false => .shiftDr
  | .updateDr, true => .selectDr
  | .updateDr, false => .idle
  | .selectIr, true => .reset
  | .selectIr, false => .captureIr
  | .captureIr, true => .exit1Ir
  | .captureIr, false => .shiftIr
  | .shiftIr, true => .exit1Ir
  | .shiftIr, false => .shiftIr
  | .exit1Ir, true => .updateIr
  | .exit1Ir, false => .pauseIr
  | .pauseIr, true => .exit2Ir
  | .pauseIr, false => .pauseIr
  | .exit2Ir, true => .updateIr
  | .exit2Ir, false => .shiftIr
  | .updateIr, true => .selectDr
  | .updateIr, false => .idle

/-- Pins whose cells observe only, and never drive (R460). -/
def ScanPin.observeOnly : ScanPin → Bool
  | .other _ => false
  | _ => true

/-- R460: how an instruction acts: EXTEST as BYPASS after seal, and every code of the factory as BYPASS outside factory test mode
(R368). -/
def Hub.tapActs (h : Hub) : TapOp :=
  match h.tap.op with
  | .extest => if h.sealed_ then .bypass else .extest
  | .factory k => if h.is Fld.FLT_STATUS_TESTMODE then .factory k else .bypass
  | op => op

/-- Whether an instruction puts the boundary cells between TDI and TDO. -/
def TapOp.scans : TapOp → Bool
  | .samplePreload => true
  | .extest => true
  | _ => false

/-- What the path between TDI and TDO takes when the data registers capture: the pins' levels, or the 0 of the BYPASS register. The
registers of factory codes are open: free bits. -/
def Hub.tapCapture (h : Hub) (pins : ScanPin → Bool) : List Bool :=
  match h.tapActs with
  | .factory k => [Config.freeBool k]
  | op => if op.scans then Config.scanChain.map pins else [false]

/-- What a rising edge of TCK does in a state of the controller: capture, shift or update (R460). -/
def Hub.tapAct (h : Hub) (tdi : Bool) (pins : ScanPin → Bool) : Tap :=
  let t := h.tap
  match t.st with
  | .captureDr => { t with path := h.tapCapture pins }
  | .captureIr => { t with path := (true :: List.replicate (Config.tapLength - 1) false) }
  | .shiftDr => { t with path := t.path.drop 1 ++ [tdi] }
  | .shiftIr => { t with path := t.path.drop 1 ++ [tdi] }
  | .updateDr => if h.tapActs.scans then { t with cells := t.path } else t
  | .updateIr => { t with op := if t.path.all id then .bypass else Config.tapCode t.path }
  | _ => t

/-- A rising edge of TCK with TMS and TDI, at these levels of the pins. -/
def Hub.tapClock (h : Hub) (tms tdi : Bool) (pins : ScanPin → Bool) : Hub :=
  let t := h.tapAct tdi pins
  let st := h.tap.st.next tms
  { h with tap := { t with st := st, op := if st = .reset then .bypass else t.op } }

/-- TRST_N low. -/
def Hub.tapReset (h : Hub) : Hub := { h with tap := { h.tap with st := .reset, op := .bypass } }

/-- TDO: driven while a register shifts, high-impedance otherwise and in chip reset (Table 20.7). -/
def Hub.tdo (h : Hub) : Option Bool :=
  if h.aon.held then none
  else match h.tap.st with
    | .shiftDr => h.tap.path.head?
    | .shiftIr => h.tap.path.head?
    | _ => none

/-- R460: the level that boundary scan drives at a pin: only in EXTEST, and never at a pin whose cell observes. -/
def Hub.scanDrives (h : Hub) (p : ScanPin) : Option Bool :=
  if h.tapActs = .extest ∧ !p.observeOnly then ((Config.scanChain.zip h.tap.cells).find? (fun e => decide (e.1 = p))).map (fun e => e.2) else none

end Sys2Proof.Machine
end

