-- ==== Sys2Proof/Safety.lean ====
section
/-! DEFINITION. The terms in which claims about the hub are made: canonical stores, a command that completes, what of the
registers and memories stays. -/

namespace Sys2Proof.Machine

/-- The stores of the hub are in canonical form: the register file, EVB's copy of the GRD_ registers, the units, the vat,
the log memory, the flash. -/
def Hub.wf (h : Hub) : Bool :=
  Sparse.wf regReset h.regs && Sparse.wf regReset h.regsB && Sparse.wf (fun _ => UnitRec.reset) h.units &&
    Sparse.wf zeroByte h.sw.vat && Sparse.wf zeroByte h.log.mem && Sparse.wf erased h.flash.mem

/-- A command answers a next state that keeps the queue, and P holds of the hub. -/
def Completes (c : Instr) (s : State) (P : Hub → Prop) : Prop :=
  ∃ t, exec c s = .next t ∧ t.pending = s.pending ∧ P t.hub

/-- Every register outside a set reads as before. -/
def RegsKept (h t : Hub) (p : Nat → Bool) : Prop := ∀ a, p a = false → t.rd a = h.rd a

/-- The addressed memories read as before: the vat, the log memory, the flash. -/
def MemKept (h t : Hub) : Prop := t.sw.vat = h.sw.vat ∧ t.log.mem = h.log.mem ∧ t.flash.mem = h.flash.mem

/-- The command status word of a unit (Table 01.6). -/
def Hub.cmdWord (h : Hub) (u : UnitId) : Word :=
  match u.cmdStat with
  | some a => h.rd a
  | none => 0#32

/-- The conditions of R24, R25, R27 and R95 under which a unit carries a command out: none pending, from a world that may command
it, its crossing OPEN, EXPECT the unit's EPOCH and not 0. -/
def Hub.accepts (h : Hub) (u : UnitId) (req : Req) (expect : BitVec 8) : Bool :=
  !h.preSeal req && !h.cmdPending u &&
    (match u.cmdStat with
      | some a => h.mayAccess req a
      | none => false) &&
    h.xOpen (cmdCrossing u.island) && decide (expect ≠ 0#8) && decide (expect = (h.unit u).epoch)

/-- A command has ended with a RESULT: its CMD echoed, BUSYHIT clear, EPOCH_NOW the unit's EPOCH (Table 01.6). -/
def CmdEnds (t : Hub) (u : UnitId) (cmd : Nat) (r : CmdResult) : Prop := t.cmdWord u = cmdStatWord (t.unit u).epoch cmd false r

/-- Events of a fault source that the EVENT crossing of an island holds (R297). -/
def Hub.faults (h : Hub) (src island : Nat) : Nat :=
  match Assoc.get h.faultsIn (src, island) with
  | some x => x.count
  | none => 0

/-- A fault source has had one event more (R297, R348). -/
def Raised (h t : Hub) (src island : Nat) : Prop := t.faults src island = min 65535 (h.faults src island + 1)

/-- Whether a request may read or write a register: R95 and the world rules let it pass (R90). -/
def Hub.allows (h : Hub) (req : Req) (a : Nat) : Bool := !h.preSeal req && h.mayAccess req a

/-- The registers whose write does more than reach their fields: command registers of units, those of the guarded outputs and of the
bridles, and those that the rules of their chapters name. -/
def ownWrite (a : Nat) : Bool :=
  let p := a / 0x10000
  (unitAt a).isSome || p == 0x19 || (decide (0x10 ≤ p) && decide (p ≤ 0x17)) || isWindow0 a ||
    [Reg.TIME_INC_HI, Reg.TIME_STEP_CTL, Reg.TIME_OFFSET, Reg.MBR_CTL, Reg.XB_SB_DATA, Reg.KEY_OP, Reg.FLT_ALIVE, Reg.FLT_ERRN, Reg.FLT_STREQ,
      Reg.FLT_INJ, Reg.LOG_CTL, Reg.UPD_CTL, Reg.PWR_CTL, Reg.PWR_RSTCTL, Reg.SVC_OVR, Reg.SVC_OVRREQ, Reg.ISL_GRESET].contains a ||
    (decide (Reg.TIME_HORIZON 0 ≤ a) && decide (a ≤ Reg.TIME_HORIZON 7)) || (decide (Reg.TIME_INC_MIN_LO ≤ a) && decide (a ≤ Reg.TIME_INC_MAX_HI)) ||
    (decide (Reg.SW_TSCFG 0 0 ≤ a) && decide (a ≤ Reg.SW_TSCFG 21 7)) || (p == 0x1A && a % 0x1000 == 0x94) ||
    (decide (Reg.KEY_STAGE 0 ≤ a) && decide (a ≤ Reg.KEY_STAGE 15)) || (decide (Reg.KEY_RSEL 0 ≤ a) && decide (a ≤ Reg.KEY_RSEL 15)) ||
    (decide (Reg.FLT_PEND 0 ≤ a) && decide (a ≤ Reg.FLT_PEND 3)) || (decide (0x211000 ≤ a) && decide (a < 0x211800))

/-- The registers whose read takes the oldest entry of a queue: SW_POP, XB_DOORBELL, the receive queues of engines, FLT_RECPOP. -/
def popReg (a : Nat) : Bool :=
  let p := a / 0x10000
  a == Reg.XB_DOORBELL || a == Reg.FLT_RECPOP || (p == 0x04 && decide (0x2000 ≤ a % 0x10000)) ||
    (decide (0x10 ≤ p) && decide (p ≤ 0x17) && decide (0x1000 ≤ a % 0x10000) && decide (a % 0x10000 < 0x1800) && a % 0x100 == 0x28)

/-- The two registers in which a saturated EVENT crossing is counted (R297). -/
def satReg (a : Nat) : Bool := a == Reg.ISL_CNT_EVSAT || a == Reg.ISL_EVT

/-- A 32-bit counter after one more event: it holds at 0xFFFF_FFFF. -/
def bump (w : Word) : Word := BitVec.ofNat 32 (min 0xFFFFFFFF (w.toNat + 1))

/-- Whether a periodic step is due: its timer does not run, or has run out. -/
def Hub.ready (h : Hub) (t : Timer) : Bool := !h.armed t || h.due t

/-- Timer t ends at an instant of the model's clock. -/
def Hub.timerAt (h : Hub) (t : Timer) (at_ : Nat) : Prop := Assoc.get h.timers t = some at_

/-- Whether an address lies on one of the register pages of a list. -/
def onPages (ps : List Nat) (a : Nat) : Bool := ps.contains (a / 0x10000)

/-- A ring lane stands in a state of Table 04.4: LSTATE, TXDIS, and its unit state word (R100, R106). -/
def LaneIn (t : Hub) (l : Fin 5) (st : LState) : Prop :=
  t.lstate l.val = st ∧ (t.lane l.val).txdis = decide (st = .off) ∧ (t.unit (.lane l)).state = st.unitState ∧
    (t.unit (.lane l)).detail = BitVec.ofNat 12 (256 * st.code + t.laneVersion l.val)

/-- The registers of a lane that its state machine writes, the count of the frames it sends among them. -/
def laneReg (l a : Nat) : Bool := a == Reg.RING_LINK l || a == Reg.RING_STATE l || a == Reg.RING_EVT l || a == Reg.RING_CNT_TXF l

/-- The registers that follow when a lane leaves UP, beside its own: its partner, its DISC count and its count of received frames, those of the
vat, MBR_PATH (R104, R139). -/
def downReg (l a : Nat) : Bool :=
  laneReg l a || [Reg.RING_PARTNER l, Reg.RING_PSERIAL_LO l, Reg.RING_PSERIAL_HI l, Reg.RING_CNT_DISC l, Reg.RING_CNT_BLK l, Reg.RING_CNT_RXF l, Reg.SW_VATFREE,
    Reg.SW_VATMIN, Reg.SW_EVT, Reg.MBR_PATH].contains a || satReg a

/-- A lane keeps its state of Table 04.4, and its unit state word. -/
def LaneSame (h t : Hub) (l : Fin 5) : Prop := t.lstate l.val = h.lstate l.val ∧ t.unit (.lane l) = h.unit (.lane l)

/-- A command takes lane l into a state of Table 04.4, starts a timer, and writes only the lane's registers; P holds besides. -/
def LaneMoves (c : Instr) (h : Hub) (q : List Instr) (l : Fin 5) (st : LState) (tm : Timer) (d : Nat) (P : Hub → Prop) : Prop :=
  Completes c ⟨q, h⟩ (fun t => LaneIn t l st ∧ t.timerAt tm (h.clock + d) ∧ RegsKept h t (laneReg l.val) ∧ MemKept h t ∧ P t)

/-- A command of the mirror pair: P holds after it, and only registers of membership and of the buses have changed (R143, R290). -/
def RoleMoves (c : Instr) (h : Hub) (q : List Instr) (P : Hub → Prop) : Prop :=
  Completes c ⟨q, h⟩ (fun t => P t ∧ RegsKept h t (fun a => onPages [0x03, 0x1A] a || satReg a) ∧ MemKept h t)

/-- The frame that a block takes next of those that wait at its output and satisfy p. -/
def Hub.takes (h : Hub) (port : Nat) (p : Frame → Bool) (a : Act) (rest : List Act) : Prop :=
  takeFirst (fun x => decide (x.port = port) && p x.frame && h.actDue x) h.acts = some (a, rest)

/-- One frame more is offered to the core; P holds of the offer. -/
def Offers (h t : Hub) (P : Offered → Prop) : Prop := ∃ x, t.sw.offered = h.sw.offered ++ [x] ∧ P x

/-- The completion of a request is offered to the core (Table 07.1, R183). -/
def Answers (h t : Hub) (hdr : Header) (status : Nat) (data : List Byte) : Prop :=
  Offers h t (fun x => x.inp = 9 ∧ x.frame.hdr.typ = 7#4 ∧ x.frame.hdr.sub = BitVec.ofNat 6 status ∧ x.frame.hdr.tag = hdr.tag ∧
    x.frame.hdr.arg = hdr.arg ∧ x.frame.hdr.dhub = hdr.shub ∧ x.frame.payload = data)

/-! ### Engines -/

/-- Engine e of cluster c runs, its step has come, and it finds the instruction w, with operation op and no reserved code (R229, R232). -/
def Hub.fetches (h : Hub) (c e : Nat) (w : Word) (op : Nat) : Prop :=
  h.engDue c e = true ∧ h.engWord c e = w ∧ reservedCode w = false ∧ opOf w = op

/-- The level (dir false) or the direction of a line of a cluster. -/
def Hub.lineBit (h : Hub) (c : Nat) (dir : Bool) (k : Nat) : Bool := (h.rd (if dir then Reg.BRD_LINEOE c else Reg.BRD_LINEOUT c)).getLsbD k

/-- What n lines from a base, modulo 32, give line k of a word (Table 08.4). -/
def runBit (base n : Nat) (v : Word) (k : Nat) : Option Bool :=
  if (k + 32 - base) % 32 < n then some (v.getLsbD ((k + 32 - base) % 32)) else none

/-- What the tail of an instruction gives line k (R231). -/
def Hub.tailBit (h : Hub) (c e : Nat) (w : Word) (dir : Bool) (k : Nat) : Option Bool :=
  let opt := h.is (Fld.BRD_ESHIFT_TAILOPT c e)
  if h.is (Fld.BRD_ESHIFT_TAILDIR c e) = dir ∧ (opt = true → w.getLsbD 27 = true) then
    runBit (h.get (Fld.BRD_ESHIFT_TAILBASE c e)) (min (if opt then 3 else 4) (h.get (Fld.BRD_ESHIFT_TCOUNT c e))) (w >>> 24) k
  else none

/-- The lines after an instruction: a line that the engine does not own holds (R227); the tail takes precedence (R231); then what the
operation drives; every other line holds. -/
def LinesAfter (h t : Hub) (c e : Nat) (w : Word) (drv : Bool → Nat → Option Bool) : Prop :=
  ∀ dir k, k < 32 → t.lineBit c dir k =
    if h.owns c e k then ((h.tailBit c e w dir k).orElse (fun _ => drv dir k)).getD (h.lineBit c dir k) else h.lineBit c dir k

/-- An instruction that drives no line but by its tail. -/
def noDrive (_ : Bool) (_ : Nat) : Option Bool := none

/-- An engine has completed instruction w: RUN at the given PC, X, Y, its other registers as given, the next step after DELAY idle
ones (R229 to R231). -/
def EngDone (h t : Hub) (c e : Nat) (w : Word) (pc : Nat) (x y : Word) (r : EngineRec) (drv : Bool → Nat → Option Bool) : Prop :=
  t.engPc c e = pc ∧ t.stallReason c e = 0 ∧ t.engState c e = .run ∧ t.engX c e = x ∧ t.engY c e = y ∧
    t.eng c e = { r with step := (h.eng c e).step + 1 + (w.extractLsb' 16 8).toNat, irqWait := false } ∧ LinesAfter h t c e w drv

/-- An engine stalls for a reason of Table 08.8: it stays at its instruction and tries again at the next step; 1 ms after the stall
began its state becomes STALL (R246). -/
def EngStalls (h t : Hub) (c e : Nat) (w : Word) (reason : Nat) (wait : Bool) : Prop :=
  t.stallReason c e = reason ∧ t.engPc c e = h.engPc c e ∧ t.engState c e = h.engState c e ∧ t.engX c e = h.engX c e ∧ t.engY c e = h.engY c e ∧
    t.eng c e = { h.eng c e with step := (h.eng c e).step + 1, irqWait := wait } ∧ LinesAfter h t c e w noDrive ∧
    (h.stallReason c e = 0 → t.timerAt (.engStall (engNo c e)) (h.clock + ms 1))

/-- An engine meets what it cannot execute: FAULT with the cause, FLT_ENGFAULT, its lines hold (R232). -/
def EngFaults (h t : Hub) (c e cause : Nat) : Prop :=
  t.engState c e = .fault ∧ (t.unit (engUnit c e)).detail = BitVec.ofNat 12 (16 * cause) ∧ Raised h t Flt.ENGFAULT (15 + c) ∧
    t.engX c e = h.engX c e ∧ t.engY c e = h.engY c e ∧ t.is ⟨Reg.BRD_EVT c, 8 + e, 1⟩ = true ∧ (∀ dir k, t.lineBit c dir k = h.lineBit c dir k)

/-- An engine has started: RUN at a PC, its divider restarted, its edge registers empty (R229, R237). -/
def EngStarted (h t : Hub) (c e pc : Nat) : Prop :=
  t.engState c e = .run ∧ t.engPc c e = pc ∧
    t.eng c e = { h.eng c e with rise := (0, false), fall := (0, false), started := h.clock, step := 0, irqWait := false }

/-- An engine that a start finds ready: IDLE and not armed. -/
def Hub.engReady (h : Hub) (c e : Nat) : Bool := h.engState c e == .idle && !h.engArmed c e

/-- The registers in which an engine's state shows. -/
def engReg (c e a : Nat) : Bool := a == Reg.BRD_EPC c e || a == Reg.BRD_ESTATE c e || a == Reg.BRD_CSTATE c || a == Reg.BRD_EQLVL c e
/-- The registers that an instruction of an engine may write, beside the counters and flags of its operation. -/
def engRunReg (c e a : Nat) : Bool :=
  engReg c e a || a == Reg.BRD_EX c e || a == Reg.BRD_EY c e || a == Reg.BRD_LINEOUT c || a == Reg.BRD_LINEOE c
/-- The registers in which the states of a cluster's engines show. -/
def cluReg (c a : Nat) : Bool := (List.range 8).any (fun e => engReg c e a)
/-- The registers of a self-test that a command ends (R367). -/
def testReg (a : Nat) : Bool := a == Reg.FLT_STRES || a == Reg.FLT_EVT

/-- The word that a source of IN or MOV gives (Table 08.4), beside the code that both name differently. -/
def Hub.sourceWord (h : Hub) (c e : Nat) (pins : Word) (src : Nat) (b : Word) : Prop :=
  match src with
  | 0 => ∀ k, k < 32 → b.getLsbD k = pins.getLsbD ((h.get (Fld.BRD_EPINS_INBASE c e) + k) % 32)
  | 1 => b = h.engX c e
  | 2 => b = h.engY c e
  | 3 => b = 0#32
  | 4 => b = (h.eng c e).isr
  | 5 => b = (h.eng c e).osr
  | _ => False

/-! ### Priority buses -/

/-- A bus controller stands in a state of Table 10.3, its unit in the STATE of R273. -/
def BusIn (t : Hub) (b : Nat) (st : BusState) : Prop := (t.bus b).st = st ∧ (t.unit (busUnit b)).state = st.unitState

/-- The registers in which a controller's state, spool and timed list show. -/
def busReg (b a : Nat) : Bool := a == Reg.PB_STATE b || a == Reg.PB_SPOOL b || a == Reg.PB_HEAD b

/-- The registers of a controller's errors. -/
def busErrReg (b a : Nat) : Bool :=
  busReg b a || a == Reg.PB_ERRCNT b || a == Reg.PB_EVT b || a == Reg.PB_LASTERR b || a == Reg.PB_CNT_BUSOFF b || a == Reg.PB_CNT_ERRF b ||
    satReg a

/-- A frame has entered the spool of a bus as its youngest entry; it starts at its instant where it has one and the bus could
start it then (R276, R280). -/
def Spooled (h t : Hub) (b : Nat) (r : BusRec) (f : BusFrame) (oneShot : Bool) (at_ : Option Stamp) (idle : Bool) : Prop :=
  t.bus b = { r with
    spool := r.spool ++ [⟨r.nextId, f, oneShot,
      if r.spool.isEmpty && idle && decide (r.st = .run) && !r.sleepWaits && !h.busFenced b then at_ else none, h.clock⟩],
    nextId := r.nextId + 1 }

/-! ### Faults and resets -/

/-- A chip reset of a kind holds the hub (R428): what the AON island, the log memory and the flash hold stays; the units, frames and
requests of the other islands are gone, and the hub is not sealed. -/
def InChipReset (h t : Hub) (kind : Nat) : Prop :=
  t.aon.held = true ∧ t.aon.kind = kind ∧ t.aon.order = none ∧ t.sealed_ = false ∧ t.is Fld.SVC_STATUS_PLOIA = false ∧ t.units = [] ∧
    t.acts = [] ∧ t.sw = Switch.reset ∧ t.keys.root = none ∧ t.keys.keys = [] ∧ t.log.mem = h.log.mem ∧ t.flash.mem = h.flash.mem ∧
    t.clock = h.clock ∧ RegsKept h t (fun a => !(aonPage a || partReg a) || a == Reg.SVC_STATUS)

/-! ### The watermark log and orders of a reset -/

/-- Counter i of the log (R374). -/
def Hub.logTotal (h : Hub) (i : Nat) : Nat := Sparse.get zeroNat h.log.totals i

/-- Counter i of the log counts one, holding at 2^64 - 1 (R374). -/
def Counted (h t : Hub) (i : Nat) : Prop := t.logTotal i = min 0xFFFFFFFFFFFFFFFF (h.logTotal i + 1)

/-- The octet of the log memory at an address. -/
def Hub.logByte (h : Hub) (a : Nat) : Byte := Sparse.get zeroByte h.log.mem a

/-- A record that the next flush writes: it waits in the buffer, or is counted where the rate or the buffer of R377 leaves no room. -/
def Journals (h t : Hub) (typ arg data : Nat) : Prop :=
  if h.journalRoom.1 = true ∧ h.log.buffer.length < 8 then
    t.log.buffer = h.log.buffer ++ [h.record typ arg data] ∧ t.rd Reg.LOG_CNT_JLOST = h.rd Reg.LOG_CNT_JLOST
  else t.log.buffer = h.log.buffer ∧ t.rd Reg.LOG_CNT_JLOST = bump (h.rd Reg.LOG_CNT_JLOST)

/-- A record written at once into its slot of the ring, or counted where the rate of R377 is used up (R378). -/
def JournalsNow (h t : Hub) (typ arg data : Nat) : Prop :=
  if h.journalRoom.1 = true then
    t.rd Reg.LOG_JSEQ = h.rd Reg.LOG_JSEQ + 1#32 ∧ t.rd Reg.LOG_CNT_JLOST = h.rd Reg.LOG_CNT_JLOST ∧
    (∀ k < 32, t.logByte (0xB000 + 32 * ((h.rd Reg.LOG_JSEQ).toNat % 1024) + k) =
      ((h.record typ arg data).octets (h.rd Reg.LOG_JSEQ).toNat).getD k 0#8) ∧
    (∀ a, a < 0xB000 + 32 * ((h.rd Reg.LOG_JSEQ).toNat % 1024) ∨ 0xB020 + 32 * ((h.rd Reg.LOG_JSEQ).toNat % 1024) ≤ a →
      t.logByte a = h.logByte a)
  else
    t.rd Reg.LOG_JSEQ = h.rd Reg.LOG_JSEQ ∧ t.rd Reg.LOG_CNT_JLOST = bump (h.rd Reg.LOG_CNT_JLOST) ∧ (∀ a, t.logByte a = h.logByte a)

/-- The registers that journal records and flushes write. -/
def logReg (a : Nat) : Bool := [Reg.LOG_STATUS, Reg.LOG_CNT_MERGED, Reg.LOG_EVT, Reg.LOG_JSEQ, Reg.LOG_CNT_JLOST].contains a

/-- A flush has started (R372, R373): the totals are snapshot, the buffer's records are written, phase 1 writes the snapshot into the
copy that is not current; every octet outside that copy's body and the journal stays. -/
def FlushStarts (h t : Hub) (why : List FlushWhy) : Prop :=
  t.log.flush = some ⟨why, h.log.totals, h.log.hist, h.logStamp, h.flushTarget, false⟩ ∧ t.log.totals = h.log.totals ∧ t.log.hist = h.log.hist ∧
    t.log.buffer = [] ∧ t.log.merged = [] ∧ t.log.rollup = none ∧ t.log.flushLast = some h.clock ∧ t.is Fld.LOG_STATUS_BUSY = true ∧
    t.rd Reg.LOG_JSEQ = h.rd Reg.LOG_JSEQ + BitVec.ofNat 32 h.log.buffer.length ∧
    t.timerAt .flushInterval (h.clock + ms (1000 * max 10 (min 3600 (h.get Fld.LOG_CFG_FLUSH)))) ∧ t.armed .mergedFlush = false ∧
    (∀ k < 0x3FF0, t.logByte (runningBase h.flushTarget + k) = (runningBody h.log.totals h.log.hist).getD k 0#8) ∧
    (∀ a, a < runningBase h.flushTarget ∨ runningBase h.flushTarget + 0x3FF0 ≤ a → a < 0xB000 ∨ 0x13000 ≤ a → t.logByte a = h.logByte a)

/-- Whether a flush started less than 100 ms ago (R373). -/
def Hub.flushSoon (h : Hub) : Bool :=
  match h.log.flushLast with
  | none => false
  | some t => decide (h.clock - t < ms 100)

/-- An order of a flush (R373): none while Ploia is halted; within 100 ms of the previous start a warning orders none, any other
trigger merges; else the flush starts. -/
def FlushOrdered (h t : Hub) (why : FlushWhy) : Prop :=
  (h.halted = true → t.log = h.log) ∧ (h.halted = false → h.flushSoon = false → FlushStarts h t [why]) ∧
    (h.halted = false → h.flushSoon = true →
      (why = .warning → t.log = h.log) ∧
      (why ≠ .warning → t.log = { h.log with merged := h.log.merged ++ [why] } ∧ t.armed .mergedFlush = true ∧
        t.rd Reg.LOG_CNT_MERGED = bump (h.rd Reg.LOG_CNT_MERGED) ∧ t.is Fld.LOG_EVT_MERGED = true))

/-- An orderly or fault reset is ordered (R355, R430): a flush, the reset at its commit or 2 ms later; one that is pending stands. -/
def ResetOrdered (h t : Hub) (kind : Nat) : Prop :=
  (h.aon.order ≠ none → t = h) ∧
    (h.aon.order = none → t.aon = { h.aon with order := some kind, flushed := false } ∧ t.timerAt .reset (h.clock + ms 2) ∧
      FlushOrdered h t .reset ∧ RegsKept h t logReg ∧ t.sw.vat = h.sw.vat ∧ t.flash = h.flash)

/-! ### Flash and reams -/

/-- The octet of the flash at an offset. -/
def Hub.flashByte (h : Hub) (a : Nat) : Byte := Sparse.get erased h.flash.mem a

/-- n octets of the flash from an offset are erased; every other octet stays. -/
def FlashErased (h t : Hub) (off n : Nat) : Prop :=
  (∀ a, off ≤ a → a < off + n → t.flashByte a = 0xFF#8) ∧ (∀ a, a < off ∨ off + n ≤ a → t.flashByte a = h.flashByte a)

/-- Octets are written into the flash from an offset; every other octet stays. -/
def FlashHolds (h t : Hub) (off : Nat) (b : List Byte) : Prop :=
  (∀ k < b.length, t.flashByte (off + k) = b.getD k 0#8) ∧ (∀ a, a < off ∨ off + b.length ≤ a → t.flashByte a = h.flashByte a)

/-- The registers in which Ploia shows its slot checks and ream writes. -/
def reamReg (a : Nat) : Bool :=
  [Reg.REAM_CHK0, Reg.REAM_CHK1, Reg.REAM_GEN0, Reg.REAM_GEN1, Reg.REAM_EVT, Reg.REAM_WRCHK].contains a

/-- Ploia takes the ream of a slot and measures it (R316, R331). -/
def TakesReam (h t : Hub) (n : Nat) (r : Ream) : Prop :=
  t.get Fld.REAM_STATUS_SLOT = n ∧ t.is Fld.REAM_STATUS_BYPASS = h.is Fld.REAM_STATUS_BYPASS ∧
    (∀ k < 12, t.rd (Reg.KEY_MEASR k) = BitVec.ofNat 32 (ofLe (slice (beBytes 48 r.digest.toNat) (4 * k) 4))) ∧
    (∀ e : ReamBad, h.reamCheck (h.slotImage (1 - n)) = .error e → 2 ≤ e.code → e.code < 16 →
      t.is Fld.REAM_STATUS_FALLBACK = true ∧ Raised h t Flt.REAMSLOT 3)

/-- A ream write fails with a code of Table 12.5: its slot is erased (R318). -/
def ReamFails (h t : Hub) (code slot : Nat) : Prop :=
  FlashErased h t (reamSlot slot) 0x100000 ∧ t.is Fld.REAM_EVT_WRFAIL = true ∧ t.get Fld.REAM_WRCHK_CODE = code ∧
    t.get Fld.REAM_WRCHK_SLOT = slot ∧ RegsKept h t reamReg ∧ t.sw.vat = h.sw.vat ∧ t.log = h.log

/-! ### Updates of Ploia -/

/-- Whether a request of Table 16.2 reaches the update's state: served, and from the secure world unless the recovery set is in force
(R385, R325, R395). -/
def Hub.updOpen (h : Hub) (req : Req) : Bool :=
  h.updServed req && (req.secure || h.is Fld.REAM_STATUS_BYPASS || h.inRecovery)

/-- The registers of the UPD_ page. -/
def updReg (a : Nat) : Bool := onPages [0x23] a

/-- An update request ends with a RESULT code of Table 16.5 and data; P holds besides; the other registers stay. -/
def UpdEnds (c : Instr) (h : Hub) (q : List Instr) (req : Req) (code : Nat) (data : List Nat) (P : Hub → Prop) : Prop :=
  Completes c ⟨q, h⟩ (fun t => t.get Fld.UPD_RESULT_RESULT = code ∧ t.out = .answer req.origin (.result code data) :: h.out ∧ P t ∧
    RegsKept h t (fun a => updReg a || a == Reg.LOG_CNT_JLOST || satReg a) ∧ t.sw.vat = h.sw.vat ∧ t.log.mem = h.log.mem)

/-- While DEFER is set a request of the flash waits (R423). -/
def Waits (c : Instr) (h : Hub) (q : List Instr) (req : Req) (w : FlashReq) : Prop :=
  Completes c ⟨q, h⟩ (fun t => t.flash = { h.flash with waits := h.flash.waits ++ [(w, req, h.clock)] } ∧ RegsKept h t (fun _ => false) ∧
    MemKept h t)

/-- The data of an UPDATE record (R397, Table 15.4). -/
def updData (u : UpdState) (fused : Nat) : Nat :=
  u.oldRel.1 + 0x100 * u.oldRel.2 + 0x10000 * u.newRel.1 + 0x1000000 * u.newRel.2 + 0x100000000 * u.newSvn + 0x10000000000 * fused

/-- The first check of COMMIT that a whole image fails (R388): 7 header, 8 signature, 9 security version. -/
def CommitFails (h : Hub) (c : Nat) : Prop :=
  (c = 7 ∧ ∀ i, imageHead h.flash.mem stagingSlot = some i → i.len ≠ 512 * h.updTotal) ∨
    ∃ i, imageHead h.flash.mem stagingSlot = some i ∧ i.len = 512 * h.updTotal ∧
      ((c = 8 ∧ imageSigned h.flash.mem stagingSlot i = false) ∨
        (c = 9 ∧ imageSigned h.flash.mem stagingSlot i = true ∧ (i.svn < h.flash.fused ∨ 64 < i.svn)))

/-- The boot ROM starts an image (R331, R395, R446): Ploia runs, its release and security version are shown. -/
def Boots (t : Hub) (i : ImageHead) (fromStage : Bool) : Prop :=
  t.flash.booted = true ∧ t.halted = false ∧ t.is Fld.SVC_STATUS_PLOIA = true ∧ t.get Fld.UPD_RUNREL_MAJ = i.major ∧
    t.get Fld.UPD_RUNREL_MIN = i.minor ∧ t.get Fld.UPD_RUNREL_PATCH = i.patch ∧ t.is Fld.UPD_STATUS_FROMSTAGE = fromStage

/-- The boot ROM enters recovery (R395). -/
def Recovers (t : Hub) : Prop := t.flash.booted = true ∧ t.halted = true ∧ t.inRecovery = true

/-! ### The power entry and the supplies -/

/-- The registers of the LOG_, PWR_ and SVC_ pages, and of a saturated EVENT crossing. -/
def entryReg (a : Nat) : Bool := aonPage a || satReg a

/-- The FET has been switched on: RAMP, with 500 ms to reach ON (R405, R408). -/
def Ramps (h t : Hub) : Prop :=
  t.pst = .ramp ∧ t.timerAt .ramp (h.clock + ms 500) ∧ t.timerAt .rampOn (h.clock + ms 1) ∧ t.entry.stress = 0 ∧ t.entry.peak = 0

/-- The FET is off: nothing of its regulation runs, and entry good is 0 (R415). -/
def FetOff (t : Hub) : Prop :=
  t.is Fld.PWR_STATUS_REG = false ∧ t.is Fld.PWR_STATUS_EGOOD = false ∧ t.armed .tflt = false ∧ t.armed .ramp = false ∧
    t.armed .rampOn = false ∧ t.armed .retryReset = false

/-- A turn-off enters COOL (R411, R412): cause, which is 2 where the fault timer has run out with a higher one (R414), peak, the off-time of
max(1,000 ms, 100 S), which is owed in the identity copy. -/
def Cools (h t : Hub) (cause : Nat) : Prop :=
  t.pst = .cool ∧ FetOff t ∧
    t.get Fld.PWR_LAST_CAUSE = (if h.is Fld.PWR_STATUS_REG = true ∧ h.due .tflt = true ∧ 2 < cause then 2 else cause) ∧
    t.get Fld.PWR_LAST_PEAK = min 65535 (t.entry.peak / 10) ∧
    t.timerAt .offTime (h.clock + max (ms 1000) (us (100 * t.entry.stress))) ∧
    t.log.ident.coolMs = max (ms 1000) (us (100 * t.entry.stress)) / ms 1 ∧ t.log.ident.coolTj = t.tj

/-- QUALIFY and COOL go on once the off-time has run out and TJ is at or below TRESTART, and in QUALIFY the insertion delay has ended; a
set PINERR keeps the FET from starting (Table 17.3, R402, R411); every other state stays. -/
def GoesOn (h t : Hub) : Prop :=
  (h.pst = .qualify →
    (t.mayStart = true → t.armed .insertion = false → Ramps h t) ∧ (t.mayStart = false ∨ t.armed .insertion = true → t.pst = .qualify)) ∧
  (h.pst = .cool →
    (t.cooled = false → t.pst = .cool) ∧
    (t.cooled = true → h.pwr Fld.PWR_CFG_RETRYMAX ≠ 0 → h.pwr Fld.PWR_CFG_RETRYMAX ≤ h.get Fld.PWR_STATUS_RETRIES →
      (t.entry.uvOk = true → t.pst = .latched ∧ t.is Fld.PWR_EVT_LATCH = true) ∧
      (t.entry.uvOk = false → t.pst = .off ∧ t.get Fld.PWR_STATUS_RETRIES = 0)) ∧
    (t.cooled = true → h.pwr Fld.PWR_CFG_RETRYMAX = 0 ∨ h.get Fld.PWR_STATUS_RETRIES < h.pwr Fld.PWR_CFG_RETRYMAX →
      (t.windowOpen = true → t.is Fld.PWR_PIN1_PINERR = true → t.pst = .cool) ∧
      (t.windowOpen = true → t.is Fld.PWR_PIN1_PINERR = false → Ramps h t ∧ t.get Fld.PWR_STATUS_RETRIES = min 255 (h.get Fld.PWR_STATUS_RETRIES + 1) ∧
        t.rd Reg.PWR_CNT_RETRY = bump (h.rd Reg.PWR_CNT_RETRY) ∧ Counted h t 140) ∧
      (t.windowOpen = false → t.pst = .off))) ∧
  (h.pst ≠ .qualify → h.pst ≠ .cool → t.pst = h.pst)

/-- The window has been judged (R401, R403, R414, Table 17.3); in t the views of the comparators and of the ream stand as judged. -/
def WindowJudged (h t : Hub) : Prop :=
  (t.windowOpen = true →
    (h.pst = .off → t.pst = .qualify ∧ t.timerAt .insertion (h.clock + h.insertionDelay)) ∧ (h.pst ≠ .off → t.pst = h.pst)) ∧
  (t.windowOpen = false →
    (h.pst = .qualify → t.pst = .off ∧ t.armed .insertion = false) ∧
    (h.pst = .ramp ∨ h.pst = .on → t.pst = .off ∧ FetOff t ∧ Raised h t Flt.PWRUVOV 0 ∧ t.is Fld.PWR_EVT_UVOV = true ∧
      (t.entry.ovOk = false ∨ t.entry.ovR = true → t.get Fld.PWR_LAST_CAUSE = 5 ∧ t.log.ident.coolMs = 0)) ∧
    (h.pst = .latched → t.entry.uvOk = false → t.pst = .off ∧ t.get Fld.PWR_STATUS_RETRIES = 0) ∧
    (h.pst = .latched → t.entry.uvOk = true → t.pst = .latched) ∧ (h.pst = .off ∨ h.pst = .cool → t.pst = h.pst))

/-- The sequencer starts where nothing stands against it (R419). -/
def SeqStarts (h t : Hub) (good : Bool) : Prop :=
  if good = true ∧ h.aon.rails = 0 ∧ h.aon.dropping = false ∧ h.is Fld.PWR_SUPSTAT_HALTED = false ∧ h.armed .seqRetry = false ∧
      h.armed .resequence = false then
    t.aon.rails = 1 ∧ t.timerAt .railTimeout (h.clock + ms 10)
  else t.aon.rails = h.aon.rails

/-- The flash and the vat stay. -/
def CoreKept (h t : Hub) : Prop := t.sw.vat = h.sw.vat ∧ t.flash = h.flash

/-- One enable has been dropped (R427): power-good is clear, the next follows after 100 us. -/
def RailDropped (h t : Hub) : Prop :=
  t.aon.rails = h.aon.rails - 1 ∧ t.aon.dropping = decide (1 < h.aon.rails) ∧ t.pgood = false ∧ t.aon.goodAt = none ∧
    (1 < h.aon.rails → t.timerAt .powerStep (h.clock + us 100))

/-! ### The service port -/

/-- The registers of the SVC_ page, and of a saturated EVENT crossing. -/
def svcReg (a : Nat) : Bool := onPages [0x25] a || satReg a

/-- The port is unattached (R435, Table 19.4): it toggles where both roles are open, else presents one; the switches are off. -/
def Unattached (h t : Hub) : Prop :=
  t.is Fld.SVC_STATUS_ATTACHED = false ∧ t.get Fld.SVC_STATUS_ROLE = 0 ∧ t.svc.srcen = false ∧ t.svc.snken = false ∧
    t.svc.rp = (h.svcRoles.1 && !h.svcRoles.2) ∧
    (h.svcRoles = (true, true) → t.peIs 1 = true ∧ t.timerAt .drp (h.clock + us 37500)) ∧ (h.svcRoles ≠ (true, true) → t.peIs 0 = true)

/-- A source has offered its capabilities and awaits a Request; a sink waits for capabilities in the given PESTATE (R440). -/
def PortBegins (h t : Hub) (sink : Bool) (out : List Emission) (pe : Nat) : Prop :=
  (sink = true → t.peIs pe = true ∧ t.svc.wait = none ∧ t.timerAt .capWait (h.clock + ms 465) ∧ t.out = out) ∧
    (sink = false → t.peIs 3 = true ∧ t.svc.wait = some .caps ∧ t.timerAt .sender (h.clock + ms 27) ∧ t.out = .pd .sourceCapabilities :: out)

/-- ErrorRecovery (R440): CC1 and CC2 open for 25 ms, no contract, the switches off. -/
def ErrorRecovers (h t : Hub) : Prop :=
  t.is Fld.SVC_STATUS_ATTACHED = false ∧ t.get Fld.SVC_STATUS_ROLE = 0 ∧ t.peIs 7 = true ∧ t.is Fld.SVC_EVT_ERRREC = true ∧
    t.timerAt .recovery (h.clock + ms 25) ∧ t.is Fld.SVC_STATUS_CONTRACT = false ∧ t.rd Reg.SVC_CONTRACT = 0#32 ∧ t.svc.wait = none ∧
    t.svc.srcen = false ∧ t.svc.snken = false

/-- A Hard_Reset, sent or received (R440): counted, FLT_SVCPD, the contract ends; the second in a row leads to ErrorRecovery. -/
def HardResets (h t : Hub) (sent : Bool) : Prop :=
  t.rd Reg.SVC_CNT_HARDRST = bump (h.rd Reg.SVC_CNT_HARDRST) ∧ t.is Fld.SVC_EVT_HARDRST = true ∧ 0 < t.faults Flt.SVCPD 0 ∧
    t.is Fld.SVC_STATUS_CONTRACT = false ∧ t.rd Reg.SVC_CONTRACT = 0#32 ∧ (sent = true → .pd .hardReset ∈ t.out) ∧
    (1 ≤ h.svc.hard → ErrorRecovers h t) ∧
    (h.svc.hard = 0 → t.svc.hard = 1 ∧ PortBegins h t (!h.svcSource) (if sent then .pd .hardReset :: h.out else h.out) 6)

/-- A Request has been sent (R438): its answer is awaited for 27 ms. -/
def PortRequests (h t : Hub) (r : Nat × Nat × Nat × Bool) : Prop :=
  t.svc.request = some r ∧ t.out = .pd (.request r.1 r.2.1 r.2.2.2) :: h.out ∧ t.peIs 3 = true ∧ t.svc.wait = some .answer ∧
    t.timerAt .sender (h.clock + ms 27)

/-- The Request that R438 and R439 give for the PDOs that stand in t: the override where it names a received PDO; else IOP from the fixed PDO of
the highest voltage up to VMAX that can supply it; else 5 V at the lower of IOP and what the 5 V PDO gives, with Capability Mismatch. -/
def Chosen (t : Hub) (r : Nat × Nat × Nat × Bool) : Prop :=
  let cap (k : Nat) : Word := t.rd (Reg.SVC_SRCCAP k)
  let n := t.get Fld.SVC_OVRREQ_PDO
  let fits (k : Nat) : Prop := pdoFixed (cap k) = true ∧ pdoVolt (cap k) ≤ 20 * t.svcVmax ∧ t.svcIop ≤ pdoCurr (cap k)
  if t.is Fld.SVC_OVRREQ_EN = true ∧ 1 ≤ n ∧ n ≤ 7 ∧ cap (n - 1) ≠ 0#32 then
    r = (n, t.get Fld.SVC_OVRREQ_CURR, pdoVolt (cap (n - 1)), false)
  else
    (t.is Fld.SVC_OVRREQ_EN = true → t.is Fld.SVC_EVT_OVRBAD = true) ∧
    (∀ k < 7, fits k → r.2.1 = t.svcIop ∧ pdoVolt (cap k) ≤ r.2.2.1 ∧ r.2.2.2 = false ∧
      ∃ j < 7, r.1 = j + 1 ∧ fits j ∧ r.2.2.1 = pdoVolt (cap j)) ∧
    ((∀ k < 7, ¬fits k) → r.2.2.1 = 100 ∧ r.2.2.2 = true ∧
      ∀ k < 7, pdoFixed (cap k) = true → pdoVolt (cap k) = 100 → (∀ j < k, pdoFixed (cap j) = false ∨ pdoVolt (cap j) ≠ 100) →
        r.1 = k + 1 ∧ r.2.1 = min t.svcIop (pdoCurr (cap k)))

/-- The port has detached (R437, R444). -/
def Detaches (h t : Hub) : Prop :=
  t.is Fld.SVC_EVT_DETACH = true ∧ (h.peIs 5 = true → t.is Fld.SVC_EVT_DETXN = true) ∧ t.is Fld.SVC_STATUS_CONTRACT = false ∧
    t.rd Reg.SVC_CONTRACT = 0#32 ∧ t.svc.wait = none ∧ t.svc.hard = 0 ∧ t.out = h.out ∧ Unattached h t

/-- A command of the port: P holds after it; only registers of the SVC_ page have changed. -/
def PortMoves (c : Instr) (h : Hub) (q : List Instr) (P : Hub → Prop) : Prop :=
  Completes c ⟨q, h⟩ (fun t => P t ∧ RegsKept h t svcReg ∧ MemKept h t)

end Sys2Proof.Machine
end

