-- ==== Sys2Proof/Certificates/Slice0/Obligations.lean ====
section
/-! DEFINITION. The statements for the provers. A clause of the form "hypotheses → Completes c s P" says that the command c answers a
next state in which P holds of the hub, the queue as it was. -/

open Sys2Proof Sys2Proof.Machine

/-! ### The machine -/

/-- For every command at the front of the queue, a step is exec of it on the state with the queue's rest; and every command completes:
it answers a next state that keeps that rest, never a fault or a refusal. -/
def Obligations.StepRunsFront : Prop :=
  ∀ (c : Instr) (s : State),
    step { s with pending := c :: s.pending } = exec c s ∧ ∃ t, exec c s = .next t ∧ t.pending = s.pending

/-- The model's choice (log 1): with nothing waiting, a step is one TIME tick of 2.5 ns. The counter advances by TIME_INC while no
slew is under way (R42), and no register changes. -/
def Obligations.IdleStepTicks : Prop :=
  ∀ h : Hub, ∃ t : Hub, step ⟨[], h⟩ = .next ⟨[], t⟩ ∧ t.clock = h.clock + 2500 ∧
    (h.time.slew = none → h.time.incNext = none → t.time = h.time.add h.time.inc.toNat ∧ RegsKept h t (fun _ => false))

/-- The machine right after reset: nothing waits, every store is canonical, every unit is in reset with EPOCH 1 (R21, R303), the hub is not
sealed (R93), no crossing stands otherwise than OPEN, and the registers of the register tables read their reset values, some of every
page among them. -/
def Obligations.ResetState : Prop :=
  State.reset.pending = [] ∧ State.reset.hub.wf = true ∧
    (∀ u : UnitId, (State.reset.hub.unit u).epoch = 1#8 ∧ (State.reset.hub.unit u).state = .reset ∧ (State.reset.hub.unit u).detail = 0#12 ∧
      State.reset.hub.rd u.shadow = u.word (State.reset.hub.unit u)) ∧
    State.reset.hub.sealed_ = false ∧ (∀ x, State.reset.hub.xOpen x = true) ∧
    (∀ a v, (a, v) ∈ [(Reg.CHIP_ID, 0x2640564A#32), (Reg.TIME_INC_HI, 0x280#32), (Reg.RING_CTL 4, 0xF00#32), (Reg.MBR_DDCFG, 0xA#32),
        (Reg.SW_VATFREE, 0x10000#32), (Reg.XB_CFG, 0x04000064#32), (Reg.HP_CTL, 0x14#32), (Reg.ST_DEFAULT 3, 0x1000F000#32),
        (Reg.BRD_EDGEFLT 7, 0x3E8#32), (Reg.SEN_GCFG 7, 0x89A00#32), (Reg.GRD_TIME 15, 0x07D00064#32), (Reg.PB_CFG 15, 0x202000#32),
        (Reg.ISL_GRPSTAT, 0#32), (Reg.KEY_STATUS, 0#32), (Reg.FLT_ERRN, 0x200#32), (Reg.LOG_CFG, 0x3C#32), (Reg.UPD_CFG, 0xA#32),
        (Reg.PWR_CFG, 0x3200A064#32), (Reg.SVC_CFG, 0xF0030000#32), (Reg.REAM_CHK0, 0xF0FF0000#32)] → State.reset.hub.rd a = v) ∧
    (∀ a, State.reset.hub.rd a = regReset a)

/-- A sparse store stays canonical, so that equal contents are equal data: an invariant of every step. -/
def Obligations.StoresKept : Prop := ∀ s t : State, s.hub.wf = true → step s = .next t → t.hub.wf = true

/-- Two rules that every step keeps, whatever the command: EPOCH of no unit becomes 0 (R21), and a hub that has sealed stays sealed until
a chip reset holds it or its AON island is down (R93, R418, R428). -/
def Obligations.EpochsAndSeal : Prop :=
  ∀ s t : State, step s = .next t →
    ((∀ u : UnitId, (s.hub.unit u).epoch ≠ 0#8) → ∀ u : UnitId, (t.hub.unit u).epoch ≠ 0#8) ∧
    (s.hub.sealed_ = true → t.hub.sealed_ = true ∨ t.hub.aon.held = true ∨ t.hub.aon.up = false)

/-! ### Units and their commands (chapter 01) -/

/-- R24 and R25 for the NOP of every unit (R23): with the unit's EPOCH it ends DONE, with EXPECT 0 or another EPOCH it ends STALE, while
another command is pending it sets BUSYHIT, and from a non-secure issuer that may not access a secure unit it ends DENIED with FLT_WORLD
(R27, R91; EPOCH_NOW then keeps what it showed, the model's choice of log 128); behind a STOPPED crossing it ends UNREACH (R301), and
behind one in RESET or RESYNC it waits, PENDING, for 1 ms; the unit and every other register stay as they were.
R26: a command that has been pending for 1 ms ends UNREACH, with FLT_XSTOP; R29: the audit, every 10 ms, marks a unit behind a crossing
that is not OPEN with UNREACH, gives a shadow that differs the authority's word with SKEWED, clears both bits where they agree,
and passes a unit over while its command is pending; a guarded channel in RUN whose two copies differ goes to FAULT with cause
COPY (R261). -/
def Obligations.UnitCommandsAndAudit : Prop :=
  ∀ (h : Hub) (q : List Instr) (req : Req) (u : UnitId) (expect : BitVec 8),
    (∀ a, u.cmdStat = some a →
    (h.accepts u req expect = true →
      Completes (.unitNop req u expect) ⟨q, h⟩ (fun t => CmdEnds t u 0 .done ∧ t.unit u = h.unit u ∧ RegsKept h t (· == a) ∧ MemKept h t)) ∧
    (h.accepts u req (h.unit u).epoch = true → expect = 0#8 ∨ expect ≠ (h.unit u).epoch →
      Completes (.unitNop req u expect) ⟨q, h⟩ (fun t => CmdEnds t u 0 .stale ∧ t.unit u = h.unit u ∧ RegsKept h t (· == a) ∧ MemKept h t)) ∧
    (h.allows req a = true → h.cmdPending u = true →
      Completes (.unitNop req u expect) ⟨q, h⟩ (fun t => t.rd a = h.rd a ||| 0x10#32 ∧ t.unit u = h.unit u ∧ RegsKept h t (· == a) ∧ MemKept h t)) ∧
    (h.preSeal req = false → h.mayAccess req a = false →
      Completes (.unitNop req u expect) ⟨q, h⟩ (fun t =>
        t.rd a = (if h.cmdPending u then h.rd a ||| 0x10#32 else cmdStatWord ((h.rd a).extractLsb' 24 8) 0 false .denied) ∧
        t.unit u = h.unit u ∧ Raised h t Flt.WORLD 3 ∧ RegsKept h t (fun x => x == a || satReg x) ∧ MemKept h t)) ∧
    (h.allows req a = true → h.cmdPending u = false → h.xStopped (cmdCrossing u.island) = true →
      Completes (.unitNop req u expect) ⟨q, h⟩ (fun t =>
        t.rd a = cmdStatWord ((h.rd a).extractLsb' 24 8) 0 false .unreach ∧ t.unit u = h.unit u ∧ RegsKept h t (· == a) ∧ MemKept h t)) ∧
    (h.allows req a = true → h.cmdPending u = false → h.xOpen (cmdCrossing u.island) = false → h.xStopped (cmdCrossing u.island) = false →
      Completes (.unitNop req u expect) ⟨q, h⟩ (fun t =>
        t.rd a = cmdStatWord ((h.rd a).extractLsb' 24 8) 0 false .pending ∧ t.timerAt (.command u.num) (h.clock + ms 1) ∧
        t.xwaits = h.xwaits ++ [(u.island, req, .command u 0 0 expect)] ∧ t.unit u = h.unit u ∧ RegsKept h t (· == a) ∧ MemKept h t))) ∧
    (∀ a, u.cmdStat = some a → h.due (.command u.num) = true → h.cmdPending u = true →
      Completes (.commandTimeout u) ⟨q, h⟩ (fun t =>
        t.rd a = ((h.rd a &&& 0xFFFFFFF0#32) ||| 6#32) ∧ Raised h t Flt.XSTOP 3 ∧ t.armed (.command u.num) = false ∧
        t.unit u = h.unit u ∧ RegsKept h t (fun x => x == a || satReg x) ∧ MemKept h t)) ∧
    (h.halted = false → h.sealed_ = true → h.ready .audit = true →
      Completes .stateAudit ⟨q, h⟩ (fun t =>
        t.timerAt .audit (h.dueAt .audit + ms 10) ∧ MemKept h t ∧
        (∀ n, u = .guarded n → h.grdState n.val = .run → h.grdAgree n.val = false →
          t.grdState n.val = .fault ∧ (t.unit u).detail.extractLsb' 4 4 = 3#4) ∧
        ((∀ n, u = .guarded n → h.grdAgree n.val = true ∨ h.grdState n.val ≠ .run) →
          t.unit u = h.unit u ∧
          (h.cmdPending u = true → t.rd u.shadow = h.rd u.shadow) ∧
          (h.cmdPending u = false → h.xOpen (cmdCrossing u.island) = false ∨ h.xOpen (pushCrossing u.island) = false →
            t.rd u.shadow = h.rd u.shadow ||| 0x80#32) ∧
          (h.cmdPending u = false → h.xOpen (cmdCrossing u.island) = true → h.xOpen (pushCrossing u.island) = true →
            t.rd u.shadow = (u.word (h.unit u) &&& 0xFFFFFF0F#32) |||
              (if h.rd u.shadow &&& 0xFFFFFF0F#32 = u.word (h.unit u) &&& 0xFFFFFF0F#32 then 0#32 else 0x40#32)))))

/-! ### Register accesses (chapters 00 and 03) -/

/-- A whole-word write of a listed register without behaviour of its own takes RW fields, RWS fields before seal, and clears the RW1C bits
written 1 but those that the hub sets in the same tick; after seal one that would change a sealed field leaves those fields and raises
FLT_SEALWR; no other register changes (R12, R13, R82, R94). Behind a STOPPED crossing it reaches no field (R301), and behind one in RESET or
RESYNC it waits for it to open. A write with octet enables that leave octets out, or to an address that is not listed, is refused with
FLT_DECODE (R83); one from the wrong world with FLT_WORLD (R90, R91), and writes nothing; one of the host before seal is only counted in
CHIP_SEAL.PRESEAL (R95). -/
def Obligations.RegisterWrites : Prop :=
  ∀ (h : Hub) (q : List Instr) (req : Req) (a : BitVec 36) (v : Word) (be : BitVec 4), a.toNat % 4 = 0 → a.toNat < 0x1000000 →
    (h.allows req a.toNat = true → be = 0xF#4 → (regRow a.toNat).isSome = true → ownWrite a.toNat = false →
      (h.islandStopped (regIsland a.toNat) = false → h.islandWaits (regIsland a.toNat) = false →
        Completes (.registerWrite req a v be) ⟨q, h⟩ (fun t =>
          (∀ k < 32, (t.rd a.toNat).getLsbD k =
            let sealBit := (rwsBits a.toNat).getLsbD k
            let takes := (rwBits a.toNat).getLsbD k || (sealBit && !h.sealed_)
            ((if takes then v.getLsbD k else (h.rd a.toNat).getLsbD k) &&
              !(v.getLsbD k && (w1cBits a.toNat).getLsbD k && !(h.kept a.toNat).getLsbD k))) ∧
          (h.breaksSeal a.toNat v 0xFFFFFFFF#32 = true → Raised h t Flt.SEALWR 3) ∧
          (h.breaksSeal a.toNat v 0xFFFFFFFF#32 = false → t.faultsIn = h.faultsIn) ∧
          RegsKept h t (fun x => x == a.toNat || satReg x) ∧ MemKept h t)) ∧
      (h.islandStopped (regIsland a.toNat) = true →
        Completes (.registerWrite req a v be) ⟨q, h⟩ (fun t => RegsKept h t satReg ∧ MemKept h t ∧ t.xwaits = h.xwaits)) ∧
      (h.islandStopped (regIsland a.toNat) = false → h.islandWaits (regIsland a.toNat) = true →
        Completes (.registerWrite req a v be) ⟨q, h⟩ (fun t =>
          t.xwaits = h.xwaits ++ [(regIsland a.toNat, req, .write a.toNat v)] ∧ RegsKept h t (fun _ => false) ∧ MemKept h t))) ∧
    (h.allows req a.toNat = true → be ≠ 0xF#4 ∨ regRow a.toNat = none →
      Completes (.registerWrite req a v be) ⟨q, h⟩ (fun t => Raised h t Flt.DECODE 3 ∧ RegsKept h t satReg ∧ MemKept h t)) ∧
    (h.preSeal req = false → h.mayAccess req a.toNat = false → unitAt a.toNat = none → (pageRows (a.toNat / 0x10000)).isEmpty = false →
      Completes (.registerWrite req a v be) ⟨q, h⟩ (fun t => Raised h t Flt.WORLD 3 ∧ RegsKept h t satReg ∧ MemKept h t)) ∧
    (h.preSeal req = true →
      Completes (.registerWrite req a v be) ⟨q, h⟩ (fun t =>
        t.get Fld.CHIP_SEAL_PRESEAL = min 65535 (h.get Fld.CHIP_SEAL_PRESEAL + 1) ∧ t.faultsIn = h.faultsIn ∧
        RegsKept h t (· == Reg.CHIP_SEAL) ∧ MemKept h t))

/-- A read of an RC counter returns its value and clears it, and where the hub counts in the tick of the read, what it counts then is not
lost (R12, R13); one from the wrong world returns all ones and raises FLT_WORLD (R91); one of an address that is not listed raises
FLT_DECODE (R83); before seal a host access is counted in CHIP_SEAL.PRESEAL, reads all ones and does nothing else (R95). -/
def Obligations.CounterReads : Prop :=
  ∀ (h : Hub) (q : List Instr) (req : Req) (a : BitVec 36),
    (a.toNat % 4 = 0 → a.toNat < 0x1000000 →
      (h.allows req a.toNat = true → rcBits a.toNat = 0xFFFFFFFF#32 → popReg a.toNat = false → h.islandStopped (regIsland a.toNat) = false →
        (Assoc.get h.fresh a.toNat = none →
          Completes (.counterRead req a) ⟨q, h⟩ (fun t =>
            t.out = .reply req a.toNat (h.rd a.toNat) :: h.out ∧ t.rd a.toNat = 0#32 ∧ RegsKept h t (· == a.toNat) ∧ MemKept h t)) ∧
        (∀ c, Assoc.get h.fresh a.toNat = some c →
          Completes (.counterRead req a) ⟨q, h⟩ (fun t =>
            t.out = .reply req a.toNat c.before :: h.out ∧ t.rd a.toNat = BitVec.ofNat 32 (min 0xFFFFFFFF c.events) ∧
            RegsKept h t (· == a.toNat) ∧ MemKept h t))) ∧
      (h.allows req a.toNat = true → regRow a.toNat = none →
        Completes (.counterRead req a) ⟨q, h⟩ (fun t =>
          t.out = .reply req a.toNat 0xFFFFFFFF#32 :: h.out ∧ Raised h t Flt.DECODE 3 ∧ RegsKept h t satReg ∧ MemKept h t)) ∧
      (h.preSeal req = false → h.mayAccess req a.toNat = false → (pageRows (a.toNat / 0x10000)).isEmpty = false →
        Completes (.counterRead req a) ⟨q, h⟩ (fun t =>
          t.out = .reply req a.toNat 0xFFFFFFFF#32 :: h.out ∧ Raised h t Flt.WORLD 3 ∧ RegsKept h t satReg ∧ MemKept h t))) ∧
    (∀ read : Bool, h.preSeal req = true →
      Completes (.presealHostAccess read req a) ⟨q, h⟩ (fun t =>
        t.get Fld.CHIP_SEAL_PRESEAL = min 65535 (h.get Fld.CHIP_SEAL_PRESEAL + 1) ∧ t.sealed_ = false ∧
        t.out = (if read then [.reply req a.toNat 0xFFFFFFFF#32] else []) ++ h.out ∧ t.faultsIn = h.faultsIn ∧
        RegsKept h t (· == Reg.CHIP_SEAL) ∧ MemKept h t))

/-- Pops of the notice queue (R202) and of the doorbell queue (R211): the oldest entry leaves; and a side-band message in C4-C7 to the
host port of this hub is offered to the switch core (R213). -/
def Obligations.QueuePopsAndSideBand : Prop :=
  ∀ (h : Hub) (q : List Instr) (req : Req),
    (∀ n rest, h.xact.pfq = n :: rest → h.allows req Reg.XB_PFQ = true →
      Completes (.noticeQueuePop req) ⟨q, h⟩ (fun t =>
        t.xact.pfq = rest ∧ t.xact.pfqLost = 0 ∧ t.rd Reg.XB_PFQ_ADDR_LO = n.addr.extractLsb' 0 32 ∧
        t.rd Reg.XB_PFQ_ADDR_HI = n.seq ++ n.addr.extractLsb' 32 16 ∧
        RegsKept h t (fun a => a == Reg.XB_PFQ_ADDR_LO || a == Reg.XB_PFQ_ADDR_HI) ∧ MemKept h t)) ∧
    (∀ w rest, h.xact.doorbells = w :: rest → h.allows req Reg.XB_DOORBELL = true →
      Completes (.doorbellPop req) ⟨q, h⟩ (fun t =>
        t.xact.doorbells = rest ∧ t.out = .reply req Reg.XB_DOORBELL w :: h.out ∧ RegsKept h t (· == Reg.XB_DBLVL) ∧ MemKept h t)) ∧
    (∀ v, h.allows req Reg.XB_SB_DATA = true → 4 ≤ h.get Fld.XB_SB_DST_CLASS → h.get Fld.XB_SB_DST_HUB = 0 →
      h.get Fld.XB_SB_DST_KIND = 0 → h.get Fld.XB_SB_DST_PORT = 9 →
      Completes (.sbDataWrite req v) ⟨q, h⟩ (fun t =>
        (∃ x, t.sw.offered = h.sw.offered ++ [x] ∧ x.inp = 9 ∧ x.outs = [9] ∧ x.frame.hdr.typ = 10#4 ∧
          x.frame.hdr.arg.extractLsb' 0 32 = v) ∧ RegsKept h t (fun _ => false) ∧ MemKept h t))

/-! ### Time (chapter 02) -/

/-- R44 to R49, R65: TIME_INC_HI commits the increment clamped into its bounds; the tick that withholds the rest of a step ends it; GO
is rejected, starts a slew or jumps the counter; a second strictly inside the bounds clears the saturation source; a writer that does
not own the servo sets OWNREJ and changes nothing else. -/
def Obligations.TimeIncrementAndSteps : Prop :=
  ∀ (h : Hub) (q : List Instr) (req : Req) (v : Word),
    (h.allows req Reg.TIME_INC_HI = true → h.isOwner req = true →
      Completes (.timeIncCommit req v) ⟨q, h⟩ (fun t =>
        let lo := h.incAt Reg.TIME_INC_MIN_LO Reg.TIME_INC_MIN_HI
        let hi := h.incAt Reg.TIME_INC_MAX_LO Reg.TIME_INC_MAX_HI
        let c := max lo (min hi (v.toNat % 65536 * 0x100000000 + (h.rd Reg.TIME_INC_LO).toNat))
        t.time.incNext = some (BitVec.ofNat 48 c) ∧ t.time.inc = h.time.inc ∧ t.rd Reg.TIME_INC_LO = BitVec.ofNat 32 c ∧
        t.rd Reg.TIME_INC_HI = BitVec.ofNat 32 (c / 0x100000000) ∧
        t.is Fld.TIME_STATUS_INCSAT = (decide (lo ≠ hi) && (c == lo || c == hi)) ∧
        RegsKept h t (fun a => [Reg.TIME_INC_LO, Reg.TIME_INC_HI, Reg.TIME_STATUS].contains a || satReg a) ∧ MemKept h t)) ∧
    (h.allows req Reg.TIME_INC_HI = true → h.isOwner req = false →
      Completes (.timeIncCommit req v) ⟨q, h⟩ (fun t =>
        t.is Fld.TIME_STATUS_OWNREJ = true ∧ t.time = h.time ∧ RegsKept h t (· == Reg.TIME_STATUS))) ∧
    (h.isOwner req = true ↔ req.origin = (if h.get Fld.TIME_LOCK_CTL_OWNER = 0 then .ploia else .host)) ∧
    (∀ a c, (a, c) ∈ [(Reg.TIME_STEP_CTL, Instr.stepGo req v), (Reg.TIME_OFFSET, .timeOffsetWrite req v)] → h.allows req a = true →
      h.isOwner req = false →
      Completes c ⟨q, h⟩ (fun t => t.is Fld.TIME_STATUS_OWNREJ = true ∧ t.time = h.time ∧ RegsKept h t (· == Reg.TIME_STATUS))) ∧
    (h.due .incsat = true →
      Completes .tincsatRelease ⟨q, h⟩ (fun t => t.time.incSatHeld = false ∧ t.armed .incsat = false ∧ RegsKept h t (fun _ => false))) ∧
    (∀ rest, h.time.slew = some rest → h.time.incNext = none → rest ≤ h.time.share →
      Completes .slewEnd ⟨q, h⟩ (fun t =>
        t.time = { h.time.add (h.time.inc.toNat - rest) with slew := none } ∧ t.is Fld.TIME_STEP_CTL_BUSY = false ∧
        t.is Fld.TIME_STEP_CTL_SLEW = false ∧ t.clock = h.clock + 2500 ∧ RegsKept h t (· == Reg.TIME_STEP_CTL))) ∧
    (h.allows req Reg.TIME_STEP_CTL = true → h.isOwner req = true → v.getLsbD 31 = true →
      let h1 := h.set Fld.TIME_STEP_CTL_FRAC (v.extractLsb' 0 16).toNat
      (h.is Fld.TIME_STEP_CTL_BUSY = true ∨ ((h.get Fld.TIME_STATUS_LOCK = 1 ∨ h.get Fld.TIME_STATUS_LOCK = 2) ∧
        h.get Fld.TIME_LOCK_CTL_STEPMAX * nsec 1000 < h1.stepValue.natAbs) → h1.stepRejected = true) ∧
      (h1.stepRejected = true →
        Completes (.stepGo req v) ⟨q, h⟩ (fun t => t.is Fld.TIME_STATUS_STEPREJ = true ∧ t.time = h.time ∧
          RegsKept h t (fun a => a == Reg.TIME_STEP_CTL || a == Reg.TIME_STATUS))) ∧
      (h1.stepRejected = false → h1.stepValue < 0 → h1.stepValue.natAbs ≤ h1.get Fld.TIME_LOCK_CTL_STEPMAX * nsec 1000 →
        Completes (.stepGo req v) ⟨q, h⟩ (fun t =>
          t.time.slew = some (h1.stepValue.natAbs * 0x1000000) ∧ t.is Fld.TIME_STEP_CTL_BUSY = true ∧
          t.is Fld.TIME_STEP_CTL_SLEW = true ∧ t.now = h.now ∧ RegsKept h t (· == Reg.TIME_STEP_CTL))) ∧
      (h1.stepRejected = false → 0 ≤ h1.stepValue →
        Completes (.stepGo req v) ⟨q, h⟩ (fun t =>
          t.time.fine = (((h.time.tick.fine : Int) + h1.stepValue * 0x1000000) %
            (281474976710656 * 1000000000 * 0x10000000000 : Int)).toNat ∧ t.clock = h.clock + 2500)))

/-- R66, Table 02.3: an offset of at most 250 ns locks, a larger one unlocks a hub that is not UNLOCKED; 100 ms without one go to
HOLDOVER, or with HOLD 0 to UNLOCKED with LOCKLOST and FLT_TLOCK, and so does the end of HOLDOVER. A read of TIME_NOW_NS latches the
rest of the counter. -/
def Obligations.TimeLock : Prop :=
  ∀ (h : Hub) (q : List Instr) (req : Req) (v : Word),
    (h.allows req Reg.TIME_OFFSET = true → h.isOwner req = true →
      (v.toInt.natAbs ≤ 4000 → h.is Fld.TIME_STATUS_OPEN = true →
        Completes (.timeOffsetWrite req v) ⟨q, h⟩ (fun t =>
          t.get Fld.TIME_STATUS_LOCK = 1 ∧ t.rd Reg.TIME_OFFSET = v ∧ t.timerAt .fresh (h.clock + ms 100) ∧
          t.armed .holdover = false ∧ RegsKept h t (fun a => a == Reg.TIME_OFFSET || a == Reg.TIME_STATUS) ∧ MemKept h t)) ∧
      (v.toInt.natAbs ≤ 4000 → h.is Fld.TIME_STATUS_OPEN = false → (∀ g, g < 8 → h.grpState g ≠ .run) →
        Completes (.timeOffsetWrite req v) ⟨q, h⟩ (fun t =>
          t.get Fld.TIME_STATUS_LOCK = 1 ∧ t.is Fld.TIME_STATUS_OPEN = true ∧
          t.get Fld.REAM_T1_LOCKMS = min 65535 ((h.clock - h.born) / ms 1))) ∧
      (4000 < v.toInt.natAbs → h.get Fld.TIME_STATUS_LOCK ≠ 0 →
        Completes (.timeOffsetWrite req v) ⟨q, h⟩ (fun t =>
          t.get Fld.TIME_STATUS_LOCK = 0 ∧ t.is Fld.TIME_STATUS_LOCKLOST = true ∧ Raised h t Flt.TLOCK 1 ∧
          RegsKept h t (fun a => [Reg.TIME_OFFSET, Reg.TIME_STATUS, Reg.FLT_ALIVE].contains a || satReg a) ∧ MemKept h t))) ∧
    (h.due .fresh = true → h.get Fld.TIME_STATUS_LOCK = 1 → 0 < h.get Fld.TIME_LOCK_CTL_HOLD →
      Completes .offsetFreshnessExpiry ⟨q, h⟩ (fun t =>
        t.get Fld.TIME_STATUS_LOCK = 2 ∧ t.timerAt .holdover (h.clock + ms (h.get Fld.TIME_LOCK_CTL_HOLD)) ∧ t.faultsIn = h.faultsIn ∧
        RegsKept h t (fun a => a == Reg.TIME_STATUS || a == Reg.FLT_ALIVE))) ∧
    (h.due .fresh = true → h.get Fld.TIME_STATUS_LOCK = 1 → h.get Fld.TIME_LOCK_CTL_HOLD = 0 →
      Completes .offsetFreshnessExpiry ⟨q, h⟩ (fun t =>
        t.get Fld.TIME_STATUS_LOCK = 0 ∧ t.is Fld.TIME_STATUS_LOCKLOST = true ∧ Raised h t Flt.TLOCK 1)) ∧
    (h.due .holdover = true → h.get Fld.TIME_STATUS_LOCK = 2 →
      Completes .holdoverExpiry ⟨q, h⟩ (fun t =>
        t.get Fld.TIME_STATUS_LOCK = 0 ∧ t.is Fld.TIME_STATUS_LOCKLOST = true ∧ Raised h t Flt.TLOCK 1)) ∧
    (h.allows req Reg.TIME_NOW_NS = true →
      Completes (.timeNowRead req) ⟨q, h⟩ (fun t =>
        t.out = .reply req Reg.TIME_NOW_NS (BitVec.ofNat 32 h.now.ns) :: h.out ∧ t.rd Reg.TIME_NOW_SEC = BitVec.ofNat 32 h.now.sec ∧
        t.rd Reg.TIME_NOW_HI = BitVec.ofNat 32 (h.now.frac * 65536 + h.now.sec / 0x100000000 % 65536) ∧
        RegsKept h t (fun a => [Reg.TIME_NOW_NS, Reg.TIME_NOW_SEC, Reg.TIME_NOW_HI].contains a)))

/-- R67, R72 to R74: a write of TIME_HORIZONc is clamped into HMIN to HMAX, sets the horizon at once before seal and arms a change
after it, in place of one whose stamp has not passed; the change comes into force once its switch stamp has passed. R68 to R76: a reference that reaches a closed release stage is
counted and its copies dropped; in time and with room it takes its place in the store; too late it is counted with FLT_LATE; due events
are handed over within 1,000 ns of their release and delivered, at most four in one TIME tick. -/
def Obligations.HorizonsAndRelease : Prop :=
  ∀ (h : Hub) (q : List Instr) (req : Req) (c : Fin 8) (v : Word) (e : EventRef),
    (h.allows req (Reg.TIME_HORIZON c.val) = true → h.sealed_ = false →
      Completes (.timeHorizonWrite req c v) ⟨q, h⟩ (fun t =>
        t.rd (Reg.TIME_HORIZON c.val) = BitVec.ofNat 32 (h.clampHorizon c.val (v.toNat % 0x100000)) ∧ t.time = h.time ∧
        RegsKept h t (· == Reg.TIME_HORIZON c.val))) ∧
    (h.allows req (Reg.TIME_HORIZON c.val) = true → h.sealed_ = true →
      (∀ x older, h.time.changesOf c.val = x :: older → x.armed = true → h.now < x.at_) →
      Completes (.timeHorizonWrite req c v) ⟨q, h⟩ (fun t =>
        (t.time.changesOf c.val).head? =
          some ⟨h.switchStamp.1, h.get (Fld.TIME_HORIZON_H c.val), h.clampHorizon c.val (v.toNat % 0x100000), true⟩ ∧
        t.is Fld.TIME_HCHG_STAT_PEND = true ∧ t.get Fld.TIME_HCHG_STAT_CLASS = c.val ∧
        RegsKept h t (fun a => a == Reg.TIME_HCHG_STAT || a == Reg.TIME_STATUS))) ∧
    (∀ x older, h.time.changesOf c.val = x :: older → x.armed = true → x.at_ ≤ h.now →
      (h.allows req (Reg.TIME_HORIZON c.val) = true → h.sealed_ = true →
        Completes (.timeHorizonWrite req c v) ⟨q, h⟩ (fun t =>
          (t.time.changesOf c.val).head? = some ⟨h.switchStamp.1, x.new % 0x100000, h.clampHorizon c.val (v.toNat % 0x100000), true⟩ ∧
          (t.time.changesOf c.val)[1]? = some { x with armed := false } ∧ t.is Fld.TIME_STATUS_HCHGDONE = true ∧
          t.is Fld.TIME_HCHG_STAT_PEND = true)) ∧
      Completes (.horizonSwitch c) ⟨q, h⟩ (fun t =>
        t.rd (Reg.TIME_HORIZON c.val) = BitVec.ofNat 32 x.new ∧ t.is Fld.TIME_STATUS_HCHGDONE = true ∧
        t.time.changesOf c.val = { x with armed := false } :: older ∧
        RegsKept h t (fun a => [Reg.TIME_HORIZON c.val, Reg.TIME_HCHG_STAT, Reg.TIME_STATUS].contains a))) ∧
    (h.is Fld.TIME_STATUS_OPEN = false →
      Completes (.releaseArrival e) ⟨q, h⟩ (fun t =>
        t.rd Reg.TIME_PRECNT = bump (h.rd Reg.TIME_PRECNT) ∧ t.time.store = h.time.store ∧
        ∀ k, k ∈ t.sw.copies → k.fid = e.copyId → k.wait ≠ .release)) ∧
    (h.is Fld.TIME_STATUS_OPEN = true →
      let rel := h.releaseTime e.cls.val e.stamp
      let dead := if e.timed then rel - nsec 16 else rel
      (h.now ≤ dead → h.time.store.length < 8192 →
        Completes (.releaseArrival e) ⟨q, h⟩ (fun t =>
          t.time.store = storeInsert ⟨e, rel, e.timed && decide (rel - h.now ≤ nsec 1000), false⟩ h.time.store ∧
          t.faultsIn = h.faultsIn)) ∧
      (dead < h.now →
        Completes (.releaseArrival e) ⟨q, h⟩ (fun t =>
          t.time.store = h.time.store ∧ t.rd (Reg.TIME_LATECNT e.cls.val) = bump (h.rd (Reg.TIME_LATECNT e.cls.val)) ∧
          Raised h t Flt.LATE 1))) ∧
    Completes .timedHandover ⟨q, h⟩ (fun t =>
      t.time.store.map (fun p => (p.ev, p.release)) = h.time.store.map (fun p => (p.ev, p.release)) ∧
      ∀ p, p ∈ t.time.store → p.ev.timed = true → p.release ≤ h.now + nsec 1000 → p.handed = true) ∧
    Completes .queueDelivery ⟨q, h⟩ (fun t =>
      let ready := h.time.store.takeWhile (fun p => p.due || decide (p.release ≤ h.now))
      t.time.store = h.time.store.drop (min ready.length (4 - h.servedNow)) ∧
      t.servedNow = h.servedNow + min ready.length (4 - h.servedNow))

/-- R55: the grandmaster is the candidate with the lowest (PRIO, ring, hub) among those that have a source; where none has one, among
all. -/
def Obligations.GrandmasterChoice : Prop :=
  ∀ (h : Hub) (c : GmCand), h.gmChoice = some c → ∀ a, a ∈ h.time.announces → a.prio.toNat < 255 →
    (a.kind ≠ 0#8 → c.2.2.2 ≠ 0 ∧ c.key ≤ a.prio.toNat * 4096 + a.ring.toNat * 256 + a.hub.toNat) ∧
    (c.2.2.2 = 0 → c.key ≤ a.prio.toNat * 4096 + a.ring.toNat * 256 + a.hub.toNat)

/-- R52, R53, R55 to R61: announces are sent every 250 ms on every active ring port with their egress time, kept for 750 ms and passed on as
they came; SYNC is sent every 31.25 ms by the grandmaster's counter, gives the servo owner the offset t_in - (T0 + C + d), and is passed on with
its tag and ARG C + d + (t_out - t_in), unless its FCS was bad, when each copy is stomped; a frame whose HOPS would reach 128 is removed and
counted, one that this hub sent itself is removed, and one whose tag fails is not taken; DREQ and DRESP measure every link, that of
PL too; a reserved subtype is counted. -/
def Obligations.TimeFrames : Prop :=
  ∀ (h : Hub) (q : List Instr) (l : Fin 4) (p : Fin 5) (hdr : Header) (payload : List Byte) (gmac : BitVec 128) (a b : Sample)
    (tOut : List Sample) (ptp : Bool),
    (h.get Fld.TIME_GM_CTL_PRIO < 255 → h.ready .announce = true →
      Completes (.announceSend ⟨ptp, tOut⟩) ⟨q, h⟩ (fun t =>
        t.timerAt .announce (h.dueAt .announce + ms 250) ∧
        t.sw.offered.length = h.sw.offered.length + (h.ringLanesUp.filter (fun k => h.numbered (h.laneRing k))).length ∧
        ∀ x, x ∈ t.sw.offered.drop h.sw.offered.length → x.frame.hdr.typ = 2#4 ∧ x.frame.hdr.sub = 3#6 ∧
          ∃ m ∈ h.ringLanesUp, x.outs = [m] ∧ x.frame.hdr.stamp = (h.egress tOut m).toFrame)) ∧
    (h.ownFrame l.val hdr = true →
      Completes (.announceRx l ptp ⟨hdr, payload, gmac⟩) ⟨q, h⟩ (fun t => t = h) ∧ Completes (.syncRx l ⟨hdr, payload, gmac⟩ a b true) ⟨q, h⟩ (fun t => t = h)) ∧
    (h.ownFrame l.val hdr = false → (h.opTag l.val ⟨hdr, payload, gmac⟩).1 = true →
      Completes (.announceRx l ptp ⟨hdr, payload, gmac⟩) ⟨q, h⟩ (fun t =>
        t.time.announces.head? = some (announceOf hdr payload) ∧
        t.timerAt (.announceHeard hdr.sring.toNat hdr.shub.toNat) (h.clock + ms 750) ∧
        (hdr.hops.toNat < 127 → t.sw.offered.length = h.sw.offered.length + (h.timeOnward l.val).length) ∧
        (127 ≤ hdr.hops.toNat → t.sw.offered = h.sw.offered ∧ t.rd (Reg.RING_CNT_HOPS l.val) = bump (h.rd (Reg.RING_CNT_HOPS l.val))) ∧
        ∀ x, x ∈ t.sw.offered.drop h.sw.offered.length → x.frame.payload = payload ∧ x.frame.gmac = gmac ∧ x.frame.hdr.stamp = hdr.stamp ∧
          x.frame.hdr.auth = hdr.auth)) ∧
    (h.ownFrame l.val hdr = false → (h.opTag l.val ⟨hdr, payload, gmac⟩).1 = false →
      Completes (.announceRx l ptp ⟨hdr, payload, gmac⟩) ⟨q, h⟩ (fun t => t.time.announces = h.time.announces ∧ Raised h t Flt.GMAC (4 + l.val))) ∧
    (∀ (ring : BitVec 4) (hub : BitVec 8), h.due (.announceHeard ring.toNat hub.toNat) = true →
      Completes (.announceSourceDrop ring hub ptp) ⟨q, h⟩ (fun t =>
        ∀ x, x ∈ t.time.announces ↔ x ∈ h.time.announces ∧ ¬(x.ring = ring ∧ x.hub = hub))) ∧
    (h.is Fld.TIME_STATUS_GM = true → h.syncDue = true →
      Completes (.syncSend tOut) ⟨q, h⟩ (fun t =>
        (h.time.syncAt = none → t.time.syncAt = some (h.now + nsec 31250000)) ∧
        (∀ x, h.time.syncAt = some x → x ≤ h.now → h.now < x + nsec 31250000 → t.time.syncAt = some (x + nsec 31250000)) ∧
        t.sw.offered.length = h.sw.offered.length + (h.ringLanesUp.filter (fun k => h.numbered (h.laneRing k))).length ∧
        ∀ x, x ∈ t.sw.offered.drop h.sw.offered.length → x.frame.hdr.typ = 2#4 ∧ x.frame.hdr.sub = 0#6 ∧
          ∃ m ∈ h.ringLanesUp, x.outs = [m] ∧ x.frame.hdr.stamp = (h.egress tOut m).toFrame)) ∧
    (h.ownFrame l.val hdr = false →
      let tin := h.laneIn l.val (h.sampled a)
      ((h.opTag l.val ⟨hdr, payload, gmac⟩).1 = true →
        Completes (.syncRx l ⟨hdr, payload, gmac⟩ a b true) ⟨q, h⟩ (fun t =>
          t.out = .servoOffset l.val ((tin : Int) - (Stamp.ofFrame h.now hdr.stamp + hdr.arg.toInt + h.linkDelay l.val)) :: h.out ∧
          (hdr.hops.toNat < 127 → t.sw.offered.length = h.sw.offered.length + (h.timeOnward l.val).length) ∧
          ∀ x, x ∈ t.sw.offered.drop h.sw.offered.length → x.frame.gmac = gmac ∧ x.frame.hdr.auth = hdr.auth ∧
            ∃ m ∈ h.timeOnward l.val, x.outs = [m] ∧
              x.frame.hdr.arg = BitVec.ofInt 48 (hdr.arg.toInt + h.linkDelay l.val + ((h.laneOut m (h.sampled b) : Int) - tin)))) ∧
      Completes (.syncRx l ⟨hdr, payload, gmac⟩ a b false) ⟨q, h⟩ (fun t =>
        t.sw.offered = h.sw.offered ∧ t.time = h.time ∧
        (hdr.hops.toNat < 127 → ∀ m, m ∈ h.timeOnward l.val → t.rd (Reg.RING_CNT_STOMP m) = bump (h.rd (Reg.RING_CNT_STOMP m))))) ∧
    (h.due .syncPath = true → ∀ p, bestPath (Assoc.del h.time.syncHeard (h.get Fld.TIME_GM_STAT_PATH)) = some p → p.1 < 4 → p.2 < 128 →
      Completes .syncPathTimeout ⟨q, h⟩ (fun t => t.get Fld.TIME_GM_STAT_PATH = p.1 ∧ t.get Fld.TIME_GM_STAT_HOPS = p.2)) ∧
    (h.laneUp p.val = true → h.ready (.dreq p.val) = true →
      Completes (.dreqSend p a) ⟨q, h⟩ (fun t =>
        Assoc.get t.time.dreqSent p.val = some (h.laneOut p.val (h.sampled a)) ∧ t.timerAt (.dreq p.val) (h.dueAt (.dreq p.val) + ms 1000) ∧
        Offers h t (fun x => x.outs = [p.val] ∧ x.frame.hdr.typ = 2#4 ∧ x.frame.hdr.sub = 1#6 ∧
          x.frame.hdr.stamp = (h.laneOut p.val (h.sampled a)).toFrame))) ∧
    ((h.opTag p.val ⟨hdr, payload, gmac⟩).1 = true →
      Completes (.dreqRx p ⟨hdr, payload, gmac⟩ a b) ⟨q, h⟩ (fun t =>
        Offers h t (fun x => x.outs = [p.val] ∧ x.frame.hdr.typ = 2#4 ∧ x.frame.hdr.sub = 2#6 ∧ x.frame.hdr.stamp = hdr.stamp ∧
          x.frame.hdr.arg = BitVec.ofInt 48 ((h.laneOut p.val (h.sampled b) : Int) - h.laneIn p.val (h.sampled a))))) ∧
    ((h.opTag p.val ⟨hdr, payload, gmac⟩).1 = false →
      Completes (.dreqRx p ⟨hdr, payload, gmac⟩ a b) ⟨q, h⟩ (fun t => t.sw.offered = h.sw.offered ∧ Raised h t Flt.GMAC (4 + p.val))) ∧
    (∀ t1, Assoc.get h.time.dreqSent p.val = some t1 → hdr.stamp = Stamp.toFrame t1 → hdr.auth = false →
      let m := (((h.laneIn p.val (h.sampled a) : Int) - t1) - hdr.arg.toInt) / 2 +
        (BitVec.ofNat 16 (h.get (Fld.RING_ASYM_ASYM p.val))).toInt * 65536 / 1000
      let kept := (Assoc.get h.time.delays p.val).getD []
      ((kept = [] ∨ (m - meanOf kept).natAbs ≤ nsec 10) →
        Completes (.drespRx p ⟨hdr, payload, gmac⟩ a) ⟨q, h⟩ (fun t =>
          Assoc.get t.time.delays p.val = some ((m :: kept).take 8) ∧
          t.rd (Reg.RING_DELAY p.val) = BitVec.ofInt 32 (meanOf ((m :: kept).take 8) / 4096) ∧ RegsKept h t (· == Reg.RING_DELAY p.val))) ∧
      (kept ≠ [] → nsec 10 < (m - meanOf kept).natAbs →
        Completes (.drespRx p ⟨hdr, payload, gmac⟩ a) ⟨q, h⟩ (fun t =>
          t.time.delays = h.time.delays ∧ t.rd (Reg.RING_CNT_DLYDISC p.val) = bump (h.rd (Reg.RING_CNT_DLYDISC p.val)) ∧
          RegsKept h t (· == Reg.RING_CNT_DLYDISC p.val)))) ∧
    Completes (.timeFrameReservedRx p) ⟨q, h⟩ (fun t =>
      t.rd (Reg.RING_CNT_DISC p.val) = bump (h.rd (Reg.RING_CNT_DISC p.val)) ∧ RegsKept h t (· == Reg.RING_CNT_DISC p.val) ∧ MemKept h t)

/-- R62, R63: PPS_IN edges of the polarity of IN_POL that come 1 s +- 100 us apart count towards its qualification, others do not; 1.1 s
without one loses it, with PPSLOST and FLT_PPS where it was qualified. PPS_OUT is high at a whole second while the hub is LOCKED or in
HOLDOVER or OUT_FORCE is set, for OUT_WIDTH ms. -/
def Obligations.PpsPins : Prop :=
  ∀ (h : Hub) (q : List Instr) (rising : Bool) (raw : Stamp),
    (h.is Fld.TIME_PPS_CTL_IN_EN = false ∨ rising = h.is Fld.TIME_PPS_CTL_IN_POL → Completes (.ppsInEdge ⟨rising, raw⟩) ⟨q, h⟩ (fun t => t = h)) ∧
    (h.is Fld.TIME_PPS_CTL_IN_EN = true → rising = !h.is Fld.TIME_PPS_CTL_IN_POL →
      (h.time.ppsEdge = none →
        Completes (.ppsInEdge ⟨rising, raw⟩) ⟨q, h⟩ (fun t =>
          t.time.ppsEdge = some (raw - Config.ppsPadDelay) ∧ t.time.ppsGood = 0 ∧ t.timerAt .ppsLoss (h.clock + ms 1100) ∧
          RegsKept h t (fun _ => false))) ∧
      (∀ last, h.time.ppsEdge = some last →
        (nsec 999900000 ≤ raw - Config.ppsPadDelay - last → raw - Config.ppsPadDelay - last ≤ nsec 1000100000 →
          Completes (.ppsInEdge ⟨rising, raw⟩) ⟨q, h⟩ (fun t =>
            t.time.ppsEdge = some (raw - Config.ppsPadDelay) ∧ t.time.ppsGood = min 3 (h.time.ppsGood + 1) ∧
            t.timerAt .ppsLoss (h.clock + ms 1100) ∧
            (2 ≤ h.time.ppsGood → t.rd Reg.TIME_PPS_NS = BitVec.ofNat 32 (Stamp.ns (raw - Config.ppsPadDelay)) ∧
              t.rd Reg.TIME_PPS_SEC = BitVec.ofNat 32 (Stamp.sec (raw - Config.ppsPadDelay))))) ∧
        (raw - Config.ppsPadDelay - last < nsec 999900000 ∨ nsec 1000100000 < raw - Config.ppsPadDelay - last →
          Completes (.ppsInEdge ⟨rising, raw⟩) ⟨q, h⟩ (fun t => t = h)))) ∧
    (h.due .ppsLoss = true →
      Completes .ppsInLoss ⟨q, h⟩ (fun t =>
        t.time.ppsEdge = none ∧ t.time.ppsGood = 0 ∧
        (3 ≤ h.time.ppsGood → t.is Fld.TIME_STATUS_PPSLOST = true ∧ Raised h t Flt.PPS 1))) ∧
    (h.sealed_ = true → h.time.atSecond = true →
      let on := h.is Fld.TIME_PPS_CTL_OUT_EN &&
        (h.get Fld.TIME_STATUS_LOCK == 1 || h.get Fld.TIME_STATUS_LOCK == 2 || h.is Fld.TIME_PPS_CTL_OUT_FORCE)
      Completes .ppsOutPulse ⟨q, h⟩ (fun t =>
        t.time.ppsOut = some on ∧ (on = true → t.timerAt .ppsEnd (h.clock + ms (h.get Fld.TIME_PPS_CTL_OUT_WIDTH))) ∧
        RegsKept h t (fun _ => false))) ∧
    (h.due .ppsEnd = true →
      Completes .ppsOutPulseEnd ⟨q, h⟩ (fun t => t.time.ppsOut = some false ∧ t.armed .ppsEnd = false ∧ RegsKept h t (fun _ => false)))

/-! ### Ring lanes (chapter 04) -/

/-- Tables 04.4 and 04.12, a command accepted: ENABLE takes a lane that is OFF into TRAIN or LOCK by its mode; DISABLE takes it to OFF, with
LINK_CLOSE ADMIN from UP or CONFIRM and without FLT_LINK; RETRAIN takes it to HOLDDOWN, from UP with LINK_CLOSE RESTART, LINKDN and
FLT_LINK; each is DENIED where RING_CTL.EN is 0. -/
def Obligations.RingLaneCommands : Prop :=
  ∀ (h : Hub) (q : List Instr) (req : Req) (l : Fin 5) (expect : BitVec 8), h.accepts (.lane l) req expect = true →
    let cs := Reg.RING_CMDSTAT l.val
    (h.is (Fld.RING_CTL_EN l.val) = true → h.lstate l.val = .off →
      Completes (.ringEnable req l expect) ⟨q, h⟩ (fun t =>
        CmdEnds t (.lane l) 2 .done ∧
        (if h.is (Fld.RING_CTL_MODE l.val) then LaneIn t l .train ∧ t.timerAt (.kr l.val) (h.clock + ms 500)
          else LaneIn t l .lock ∧ t.timerAt (.tLock l.val) (h.clock + ms 50)) ∧
        RegsKept h t (fun a => a == cs || laneReg l.val a || a == Reg.FLT_STRES || a == Reg.FLT_EVT) ∧ MemKept h t)) ∧
    (h.is (Fld.RING_CTL_EN l.val) = true → h.lstate l.val ≠ .off →
      Completes (.ringEnable req l expect) ⟨q, h⟩ (fun t => CmdEnds t (.lane l) 2 .done ∧ RegsKept h t (· == cs) ∧ MemKept h t) ∧
      Completes (.ringDisable req l expect) ⟨q, h⟩ (fun t =>
        CmdEnds t (.lane l) 1 .done ∧ LaneIn t l .off ∧ t.is (Fld.RING_PARTNER_PVALID l.val) = false ∧
        (h.lstate l.val = .up ∨ h.lstate l.val = .confirm → Emission.laneFrame l.val (h.closeFrame l.val closeAdmin) false ∈ t.out) ∧
        (h.lstate l.val = .up → t.is (Fld.RING_EVT_LINKDN l.val) = true) ∧ t.faults Flt.LINK (4 + l.val) = h.faults Flt.LINK (4 + l.val) ∧
        (l.val < 4 → (h.lane l.val).rx = none → RegsKept h t (fun a => a == cs || downReg l.val a)) ∧ MemKept h t) ∧
      Completes (.ringRetrain req l expect) ⟨q, h⟩ (fun t =>
        CmdEnds t (.lane l) 3 .done ∧ LaneIn t l .holddown ∧ t.timerAt (.holddown l.val) (h.clock + ms 10) ∧
        (h.lstate l.val = .up → Emission.laneFrame l.val (h.closeFrame l.val closeRestart) false ∈ t.out ∧ t.is (Fld.RING_EVT_LINKDN l.val) = true ∧
          Raised h t Flt.LINK (4 + l.val)) ∧
        (l.val < 4 → (h.lane l.val).rx = none → RegsKept h t (fun a => a == cs || downReg l.val a)) ∧ MemKept h t)) ∧
    (h.is (Fld.RING_CTL_EN l.val) = false →
      Completes (.ringEnable req l expect) ⟨q, h⟩ (fun t => CmdEnds t (.lane l) 2 .denied ∧ RegsKept h t (· == cs) ∧ MemKept h t) ∧
      Completes (.ringDisable req l expect) ⟨q, h⟩ (fun t => CmdEnds t (.lane l) 1 .denied ∧ RegsKept h t (· == cs) ∧ MemKept h t) ∧
      Completes (.ringRetrain req l expect) ⟨q, h⟩ (fun t => CmdEnds t (.lane l) 3 .denied ∧ RegsKept h t (· == cs) ∧ MemKept h t))

/-- Table 04.4, the bring-up of a lane: training ends in LOCK or, after 500 ms, in HOLDDOWN with TRAINFAIL; block lock held for 1 ms sends
a LINK_OFFER and starts T_NEG; T_LOCK and T_NEG end in HOLDDOWN with NEGTO; a negotiation frame is sent again each ms; HOLDDOWN ends
in TRAIN or LOCK, in bypass forwarding in the two modes in turn (R147), and REFUSED in LOCK. -/
def Obligations.RingBringUp : Prop :=
  ∀ (h : Hub) (q : List Instr) (l : Fin 5),
    (h.lstate l.val = .train → LaneMoves (.trainingDone l) h q l .lock (.tLock l.val) (ms 50) (fun t => t.faultsIn = h.faultsIn)) ∧
    (h.due (.kr l.val) = true → h.lstate l.val = .train →
      LaneMoves (.trainingTimeout l) h q l .holddown (.holddown l.val) (ms 10) (fun t => t.is (Fld.RING_EVT_TRAINFAIL l.val) = true)) ∧
    (h.lstate l.val = .lock →
      (∀ pins, Completes (.blockLockAcquired ⟨l, pins⟩) ⟨q, h⟩ (fun t =>
        t.is (Fld.RING_LINK_BLOCKLOCK l.val) = true ∧ t.is (Fld.RING_LINK_HIBER l.val) = false ∧
        t.is (Fld.RING_LINK_MODABS l.val) = pins.getLsbD 1 ∧ t.is (Fld.RING_LINK_LOS l.val) = pins.getLsbD 0 ∧
        t.timerAt (.blockLock l.val) (h.clock + ms 1) ∧ t.units = h.units ∧ RegsKept h t (· == Reg.RING_LINK l.val) ∧ MemKept h t)) ∧
      (h.due (.blockLock l.val) = true →
        LaneMoves (.blockLockHeld l) h q l .offer (.tNeg l.val) (ms 20) (fun t =>
          t.out = .laneFrame l.val (h.offerFrame l.val) false :: h.out ∧ t.timerAt (.resend l.val) (h.clock + ms 1) ∧
            t.rd (Reg.RING_CNT_TXF l.val) = bump (h.rd (Reg.RING_CNT_TXF l.val)))) ∧
      (h.due (.tLock l.val) = true →
        LaneMoves (.tLockExpiry l) h q l .holddown (.holddown l.val) (ms 10) (fun t => t.is (Fld.RING_EVT_NEGTO l.val) = true))) ∧
    (h.due (.tNeg l.val) = true → h.lstate l.val = .offer ∨ h.lstate l.val = .confirm →
      LaneMoves (.tNegExpiry l) h q l .holddown (.holddown l.val) (ms 10) (fun t => t.is (Fld.RING_EVT_NEGTO l.val) = true)) ∧
    (h.due (.resend l.val) = true → h.lstate l.val = .offer →
      Completes (.negResend l) ⟨q, h⟩ (fun t => t.out = .laneFrame l.val (h.offerFrame l.val) false :: h.out ∧
        t.timerAt (.resend l.val) (h.clock + ms 1) ∧ RegsKept h t (· == Reg.RING_CNT_TXF l.val))) ∧
    (∀ o, h.due (.resend l.val) = true → h.lstate l.val = .confirm → (h.lane l.val).offer = some o →
      Completes (.negResend l) ⟨q, h⟩ (fun t =>
        t.out = .laneFrame l.val (h.acceptFrame l.val (h.ownAccept l.val o (h.lane l.val).ownVer)) false :: h.out ∧
        t.timerAt (.resend l.val) (h.clock + ms 1) ∧ RegsKept h t (· == Reg.RING_CNT_TXF l.val))) ∧
    (h.due (.holddown l.val) = true → h.lstate l.val = .holddown →
      let kr := (h.lane l.val).kr != h.is Fld.REAM_STATUS_BYPASS
      (if kr then LaneMoves (.holddownExpiry l) h q l .train (.kr l.val) (ms 500) (fun t => t.faultsIn = h.faultsIn ∧ (t.lane l.val).kr = true)
        else LaneMoves (.holddownExpiry l) h q l .lock (.tLock l.val) (ms 50) (fun t => t.faultsIn = h.faultsIn ∧ (t.lane l.val).kr = false ∧
          (h.is Fld.REAM_STATUS_BYPASS = true → (t.lane l.val).fir = h.firReg l.val)))) ∧
    (h.due (.refused l.val) = true → h.lstate l.val = .refused →
      LaneMoves (.refusedExpiry l) h q l .lock (.tLock l.val) (ms 50) (fun t => t.faultsIn = h.faultsIn))

/-- R102 to R104: an offer in OFFER is answered by a LINK_ACCEPT for the version R102 chooses, or by REFUSED with LINK_CLOSE VERSION,
VERREF and FLT_LINKVER; the same offer again changes nothing in CONFIRM, another is answered anew; an offer or a close in UP, or
the loss of block lock or 16 invalid sync headers within 125 us (R116), ends UP with LINKDN and FLT_LINK; an offer in OFF is noted. A LINK_ACCEPT is kept in OFFER; in CONFIRM it brings UP with the lower
version and the features both offer, or REFUSED with the reason that applies first. -/
def Obligations.RingNegotiation : Prop :=
  ∀ (h : Hub) (q : List Instr) (l : Fin 5) (o : LinkOffer) (a : LinkAccept),
    (∀ v, h.lstate l.val = .offer → (h.lane l.val).held = none → chooseVersion o = some v →
      Completes (.linkOfferRx l o) ⟨q, h⟩ (fun t =>
        LaneIn t l .confirm ∧ t.out = .laneFrame l.val (h.acceptFrame l.val (h.ownAccept l.val o v)) false :: h.out ∧ (t.lane l.val).offer = some o ∧
        (t.lane l.val).ownVer = v ∧ t.timerAt (.resend l.val) (h.clock + ms 1) ∧
        t.rd (Reg.RING_PSERIAL_LO l.val) = o.serial.setWidth 32 ∧ t.get (Fld.RING_PARTNER_PHUB l.val) = o.hub.toNat ∧
        RegsKept h t (downReg l.val) ∧ MemKept h t)) ∧
    (h.lstate l.val = .offer ∨ h.lstate l.val = .confirm → chooseVersion o = none →
      Completes (.linkOfferRx l o) ⟨q, h⟩ (fun t =>
        LaneIn t l .refused ∧ t.out = .laneFrame l.val (h.closeFrame l.val closeVersion) false :: h.out ∧ t.is (Fld.RING_EVT_VERREF l.val) = true ∧
        Raised h t Flt.LINKVER (4 + l.val) ∧ t.timerAt (.refused l.val) (h.clock + ms 1000) ∧
        RegsKept h t (downReg l.val) ∧ MemKept h t)) ∧
    (∀ v, h.lstate l.val = .confirm → chooseVersion o = some v →
      ((h.lane l.val).offer = some o →
        Completes (.linkOfferRx l o) ⟨q, h⟩ (fun t => t.out = h.out ∧ t.lanes = h.lanes ∧ t.timers = h.timers ∧ t.units = h.units)) ∧
      ((h.lane l.val).offer ≠ some o →
        Completes (.linkOfferRx l o) ⟨q, h⟩ (fun t =>
          LaneIn t l .confirm ∧ t.out = .laneFrame l.val (h.acceptFrame l.val (h.ownAccept l.val o v)) false :: h.out ∧ (t.lane l.val).offer = some o ∧
          (t.lane l.val).held = none))) ∧
    (∀ v, h.lstate l.val = .up → chooseVersion o = some v →
      Completes (.linkOfferRx l o) ⟨q, h⟩ (fun t =>
        LaneIn t l .confirm ∧ t.out.head? = some (.laneFrame l.val (h.acceptFrame l.val (h.ownAccept l.val o v)) false) ∧ t.is (Fld.RING_EVT_LINKDN l.val) = true ∧
        Raised h t Flt.LINK (4 + l.val) ∧ t.timerAt (.tNeg l.val) (h.clock + ms 20) ∧ (l.val < 4 → (h.lane l.val).rx = none → RegsKept h t (downReg l.val)) ∧
        MemKept h t)) ∧
    (h.lstate l.val = .up → chooseVersion o = none →
      Completes (.linkOfferRx l o) ⟨q, h⟩ (fun t =>
        LaneIn t l .refused ∧ t.out.head? = some (.laneFrame l.val (h.closeFrame l.val closeVersion) false) ∧ t.is (Fld.RING_EVT_LINKDN l.val) = true ∧
        Raised h t Flt.LINK (4 + l.val) ∧ Raised h t Flt.LINKVER (4 + l.val))) ∧
    (h.lstate l.val = .offer →
      Completes (.linkAcceptRx l a) ⟨q, h⟩ (fun t => (t.lane l.val).held = some a ∧ RegsKept h t (· == Reg.RING_CNT_RXF l.val) ∧ MemKept h t)) ∧
    (h.lstate l.val = .confirm → (h.lane l.val).offer = some o →
      let p := (a.maj.toNat, a.min.toNat)
      let v := if verLe (h.lane l.val).ownVer p then (h.lane l.val).ownVer else p
      let good := a.serial = h.serial ∧ v ∈ linkVersions ∧ h.featuresAgree l.val o a v = true
      (good →
        Completes (.linkAcceptRx l a) ⟨q, h⟩ (fun t =>
          LaneIn t l .up ∧ t.is (Fld.RING_EVT_LINKUP l.val) = true ∧ (t.get (Fld.RING_LINK_AG_MAJ l.val), t.get (Fld.RING_LINK_AG_MIN l.val)) = v ∧
          t.get (Fld.RING_LINK_AG_FEAT l.val) = (h.bothFeatures l.val o &&& featuresOf v).toNat ∧
          t.timerAt (.errWindow l.val) (h.clock + ms (max 1 (h.get Fld.RING_ERRCFG_ERRWIN))) ∧
          (l.val < 4 → RegsKept h t (fun x => laneReg l.val x || [Reg.RING_CNT_RXF l.val, Reg.MBR_PATH, Reg.MBR_EVT].contains x || satReg x)) ∧ MemKept h t)) ∧
      (¬good →
        Completes (.linkAcceptRx l a) ⟨q, h⟩ (fun t =>
          LaneIn t l .refused ∧ t.is (Fld.RING_EVT_VERREF l.val) = true ∧ Raised h t Flt.LINKVER (4 + l.val) ∧
          t.timerAt (.refused l.val) (h.clock + ms 1000) ∧
          t.out = .laneFrame l.val (h.closeFrame l.val
            (if a.serial ≠ h.serial then closeRestart else if v ∈ linkVersions then closeFeature else closeVersion)) false :: h.out ∧
          RegsKept h t (downReg l.val) ∧ MemKept h t))) ∧
    (h.lstate l.val = .up →
      Completes (.linkCloseRx l) ⟨q, h⟩ (fun t =>
        LaneIn t l .holddown ∧ t.is (Fld.RING_EVT_LINKDN l.val) = true ∧ t.is (Fld.RING_EVT_PCLOSE l.val) = true ∧
        Raised h t Flt.LINK (4 + l.val) ∧ t.timerAt (.holddown l.val) (h.clock + ms 10) ∧ (l.val < 4 → (h.lane l.val).rx = none → RegsKept h t (downReg l.val)) ∧
        MemKept h t)) ∧
    (h.lstate l.val = .off →
      Completes (.linkOfferRx l o) ⟨q, h⟩ (fun t =>
        LaneSame h t l ∧ t.out = h.out ∧ t.rd (Reg.RING_PSERIAL_LO l.val) = o.serial.setWidth 32 ∧ t.get (Fld.RING_PARTNER_PHUB l.val) = o.hub.toNat ∧
        RegsKept h t (downReg l.val) ∧ MemKept h t)) ∧
    (∀ (lost : Bool) (invalid : BitVec 16) (pins : BitVec 2),
      let berNow := (if h.clock < (h.lane l.val).berFrom + us 125 then (h.lane l.val).berCount else 0) + invalid.toNat
      (lost = false → berNow < 16 → h.is (Fld.RING_LINK_HIBER l.val) = false →
        Completes (.blockLockLoss l lost ⟨invalid, pins⟩) ⟨q, h⟩ (fun t =>
          LaneSame h t l ∧ t.is (Fld.RING_LINK_HIBER l.val) = false ∧
          (t.rd (Reg.RING_CNT_BLK l.val)).toNat = min 0xFFFFFFFF ((h.rd (Reg.RING_CNT_BLK l.val)).toNat + invalid.toNat) ∧
          RegsKept h t (fun a => a == Reg.RING_CNT_BLK l.val || a == Reg.RING_LINK l.val) ∧ MemKept h t)) ∧
      (lost = true ∨ 16 ≤ berNow → h.lstate l.val ∈ [.train, .lock, .offer, .confirm, .up] →
      Completes (.blockLockLoss l lost ⟨invalid, pins⟩) ⟨q, h⟩ (fun t =>
        LaneIn t l .holddown ∧ t.timerAt (.holddown l.val) (h.clock + ms 10) ∧
        (16 ≤ berNow → t.is (Fld.RING_LINK_HIBER l.val) = true) ∧ (lost = true → t.is (Fld.RING_LINK_BLOCKLOCK l.val) = false) ∧
        (h.lstate l.val = .up → t.is (Fld.RING_EVT_LINKDN l.val) = true ∧ Raised h t Flt.LINK (4 + l.val)) ∧
        (h.lstate l.val ≠ .up → t.faultsIn = h.faultsIn) ∧ (l.val < 4 → (h.lane l.val).rx = none → RegsKept h t (downReg l.val)) ∧ MemKept h t)))

/-- R117 to R119, R476: the error window ends with its count at 0 and the next one starts; each equaliser quantity moves by the sign of
its update within its bounds; a Clause 72 request moves one coefficient within the bounds or sets TXLIM; a Ping is answered by an
Echo with its SEQ, ARG and payload, and an Echo goes to MC. -/
def Obligations.RingHealth : Prop :=
  ∀ (h : Hub) (q : List Instr) (l : Fin 5) (hdr : Header) (payload : List Byte),
    (h.due (.errWindow l.val) = true → h.laneUp l.val = true →
      Completes (.errWindowEnd l) ⟨q, h⟩ (fun t =>
        (t.lane l.val).errs = 0 ∧
        (∃ n, t.timerAt (.errWindow l.val) (h.dueAt (.errWindow l.val) + n * h.errWin) ∧ h.clock < h.dueAt (.errWindow l.val) + n * h.errWin ∧
          h.dueAt (.errWindow l.val) + n * h.errWin ≤ h.clock + h.errWin) ∧
        RegsKept h t (fun _ => false) ∧ MemKept h t)) ∧
    (∀ signs : List Int, h.lstate l.val ∈ [.train, .lock, .offer, .confirm, .up] →
      Completes (.eqAdapt l signs) ⟨q, h⟩ (fun t =>
        (∀ f lo hi sg, ((f, lo, hi), sg) ∈ (h.eqQuantities l.val).zip signs → t.eqNow f = max lo (min hi (h.eqNow f + sg.sign))) ∧
        t.get (Fld.RING_EQ_STAT_SAT l.val) = t.eqSat l.val ∧
        (t.eqSat l.val ≠ 0 → (h.lane l.val).eqHeld = false → Raised h t Flt.EQSAT (4 + l.val)) ∧
        RegsKept h t (fun a => a == Reg.RING_EQ_NOW0 l.val || a == Reg.RING_EQ_NOW1 l.val || a == Reg.RING_EQ_STAT l.val || satReg a) ∧
        MemKept h t)) ∧
    (h.due (.eqsat l.val) = true →
      Completes (.eqsatRelease l) ⟨q, h⟩ (fun t => (t.lane l.val).eqHeld = false ∧ RegsKept h t (fun _ => false))) ∧
    (h.inKr l.val = true →
      (∀ (coeff : Fin 3) (inc : Bool),
        (∀ f, h.firStep l.val (h.lane l.val).fir coeff inc = some f →
          Completes (.cl72CoeffRequest l coeff inc) ⟨q, h⟩ (fun t =>
            (t.lane l.val).fir = f ∧ t.out = .note 72 [l.val, coeff.val, 1] :: h.out ∧ RegsKept h t (fun _ => false))) ∧
        (h.firStep l.val (h.lane l.val).fir coeff inc = none →
          Completes (.cl72CoeffRequest l coeff inc) ⟨q, h⟩ (fun t =>
            t.lane l.val = h.lane l.val ∧ t.is (Fld.RING_EQ_STAT_TXLIM l.val) = true ∧
            t.out = .note 72 [l.val, coeff.val, if inc then 3 else 2] :: h.out ∧ RegsKept h t (· == Reg.RING_EQ_STAT l.val)))) ∧
      Completes (.cl72Initialize l) ⟨q, h⟩ (fun t => (t.lane l.val).fir = h.firReg l.val ∧ RegsKept h t (fun _ => false)) ∧
      Completes (.cl72Preset l) ⟨q, h⟩ (fun t => (t.lane l.val).fir = h.firClamp l.val (0, 63, 0) ∧ RegsKept h t (fun _ => false))) ∧
    (h.laneUp l.val = true → hdr.typ = 14#4 →
      (hdr.sub = 0#6 →
        Completes (.pingRx l hdr payload) ⟨q, h⟩ (fun t =>
          (∃ x, t.sw.offered = h.sw.offered ++ [x] ∧ x.inp = 10 ∧ x.outs = [l.val] ∧ x.frame.payload = payload ∧
            x.frame.hdr.typ = 14#4 ∧ x.frame.hdr.sub = 1#6 ∧ x.frame.hdr.seq = hdr.seq ∧ x.frame.hdr.arg = hdr.arg) ∧
          RegsKept h t (fun _ => false) ∧ MemKept h t)) ∧
      (hdr.sub = 1#6 →
        Completes (.echoRx l hdr payload) ⟨q, h⟩ (fun t =>
          (∃ x, t.sw.offered = h.sw.offered ++ [x] ∧ x.inp = l.val ∧ x.outs = [10] ∧ x.frame = Frame.marked ⟨hdr, payload, 0⟩ false) ∧
          RegsKept h t (fun _ => false) ∧ MemKept h t)))

/-- R104, R111, R113, R114: on a lane that is not UP a frame is counted in DISC; a header with a bad HCRC is counted in HCRC, one that
uses a feature not in force in DISC with FEATDROP; a good header is kept with its row of Table 04.7, and its cut-through copy is
offered to the lane across. A frame that ends bad is counted in FCS; a good one in RXF, is judged and goes on. HOPS counts one more where
a copy in transit leaves by a lane. -/
def Obligations.RingReception : Prop :=
  ∀ (h : Hub) (q : List Instr) (l : Fin 5) (hdr : Header) (hcrc : BitVec 16) (start : Bool),
    (h.laneUp l.val = false →
      Completes (.ringHeaderRx l hdr hcrc start) ⟨q, h⟩ (fun t =>
        t.rd (Reg.RING_CNT_DISC l.val) = bump (h.rd (Reg.RING_CNT_DISC l.val)) ∧ (t.lane l.val).rx = none ∧
        RegsKept h t (· == Reg.RING_CNT_DISC l.val) ∧ MemKept h t)) ∧
    (h.laneUp l.val = true →
      (start = true → hcrc ≠ hdr.hcrc →
        Completes (.ringHeaderRx l hdr hcrc start) ⟨q, h⟩ (fun t =>
          t.rd (Reg.RING_CNT_HCRC l.val) = bump (h.rd (Reg.RING_CNT_HCRC l.val)) ∧ (t.lane l.val).errs = ((h.errRoll l.val).lane l.val).errs + 1 ∧
          (((h.errRoll l.val).lane l.val).errs + 1 = max 1 (h.get Fld.RING_ERRCFG_ERRMAX) →
            t.is (Fld.RING_EVT_ERRRATE l.val) = true ∧ Raised h t Flt.LINKERR (4 + l.val)) ∧
          RegsKept h t (fun a => a == Reg.RING_CNT_HCRC l.val || a == Reg.RING_EVT l.val || satReg a) ∧ MemKept h t)) ∧
      (start = true → hcrc = hdr.hcrc → hdr.ver.toNat = h.get (Fld.RING_LINK_AG_MAJ l.val) →
        classAllowed hdr.typ.toNat hdr.cls.toNat = true → hdr.dir ≠ 3#2 → hdr.auth = true → (h.rd (Reg.RING_LINK l.val)).getLsbD 16 = false →
        Completes (.ringHeaderRx l hdr hcrc start) ⟨q, h⟩ (fun t =>
          t.rd (Reg.RING_CNT_DISC l.val) = bump (h.rd (Reg.RING_CNT_DISC l.val)) ∧ t.is (Fld.RING_EVT_FEATDROP l.val) = true ∧
          RegsKept h t (fun a => a == Reg.RING_CNT_DISC l.val || a == Reg.RING_EVT l.val) ∧ MemKept h t)) ∧
      (h.headerFault l.val hdr hcrc start = none → h.ingressFull l.val hdr.cls.toNat hdr.frameLen = false →
        Completes (.ringHeaderRx l hdr hcrc start) ⟨q, h⟩ (fun t =>
          (∃ r, (t.lane l.val).rx = some r ∧ r.hdr = hdr ∧ r.consume = (h.ringRow l.val hdr).1 ∧ r.inject = h.bridgeTakes l.val hdr ∧
            (r.forward = true → (h.ringRow l.val hdr).2.1 = true ∧ hdr.hops.toNat < 127 ∧
              (hdr.cls.toNat ≤ 2 → ∃ x ∈ t.sw.offered, x.outs = [laneAcross l.val] ∧ x.transit = true ∧ x.rx = some l.val ∧
                x.frame.hdr = { hdr with late := false }))) ∧
          RegsKept h t (fun a => a == Reg.RING_CNT_HOPS l.val || a == Reg.SW_CNT_LOWER || satReg a ||
            onPages [0x05, 0x10, 0x11, 0x12, 0x13, 0x14, 0x15, 0x16, 0x17] a) ∧ MemKept h t))) ∧
    (∀ (payload : List Byte) (gmac : BitVec 128) (r : RxFrame), (h.lane l.val).rx = some r →
      Completes (.ringFrameEnd l payload gmac false) ⟨q, h⟩ (fun t =>
        t.rd (Reg.RING_CNT_FCS l.val) = bump (h.rd (Reg.RING_CNT_FCS l.val)) ∧ (t.lane l.val).rx = none ∧
        (∀ c ∈ t.sw.copies, c.rx ≠ some l.val) ∧ (∀ x ∈ t.sw.offered, x.rx ≠ some l.val) ∧ MemKept h t) ∧
      (payload.length = r.hdr.len.toNat →
        Completes (.ringFrameEnd l payload gmac true) ⟨q, h⟩ (fun t =>
          t.rd (Reg.RING_CNT_RXF l.val) = bump (h.rd (Reg.RING_CNT_RXF l.val)) ∧ (t.lane l.val).rx = none ∧
          (r.forward = true → 3 ≤ r.hdr.cls.toNat → ∃ x ∈ t.sw.offered, x.outs = [laneAcross l.val] ∧ x.transit = true ∧
            x.frame = Frame.marked ⟨r.hdr, payload, gmac⟩ false) ∧
          t.log.mem = h.log.mem ∧ t.flash.mem = h.flash.mem))) ∧
    (∀ f : Frame, (h.onLane l.val true f).hdr.hops = f.hdr.hops + 1 ∧ (h.onLane l.val false f).hdr.hops = f.hdr.hops ∧
      (∀ b, (h.onLane l.val b f).hdr.dir = laneDir l.val ∧ (h.onLane l.val b f).hdr.late = f.hdr.late ∧ (h.onLane l.val b f).payload = f.payload))

/-! ### Membership (chapter 05) -/

/-- R125 to R128, a census frame on a lane of a ring: the first ROLL of a round marks this hub's claim (its fixed number, the number it held,
or none) and goes on, and a manager-capable hub with the smaller key answers it with the next round; the first ASSIGN gives it its number;
the COMMIT makes it adopt the number, once its identity record stands in the log. A REQUEST makes the manager start a round; a reserved SUB is counted. -/
def Obligations.CensusRounds : Prop :=
  ∀ (h : Hub) (q : List Instr) (l : Fin 4) (c : Census),
    let b := h.laneRing l.val
    let m := h.member b
    let on (c1 : Census) (p : Pass) (t : Hub) : Prop :=
      ∃ x, t.sw.offered = h.sw.offered ++ [x] ∧ x.outs = [(h.onward l.val c1).1] ∧ x.transit = true ∧
        x.frame = h.censusFrame (h.onward l.val c1).1 p.sub 0 (h.onward l.val c1).2
    let ended (a : Nat) : Bool := a == Reg.MBR_EVT || satReg a
    let free : Prop := h.log.identOwed = false ∧ (h.armed .identity = false ∨ h.due .identity = true)
    (h.laneUp l.val = true → (l.val < 2 ∨ h.pairB = 2) → h.is Fld.REAM_STATUS_BYPASS = false → c.serial ≠ h.serial →
      (m.newest = none ∨ ∃ r, m.newest = some r ∧ seqBefore c.round r.1 = false) →
      (m.newest ≠ some (c.round, c.serial) → (h.is Fld.MBR_CFG_MGRCAP = false ∨ managerKey c.slot.toNat c.serial ≤ h.ownKey) →
        c.numRing.toNat = h.ringOf b →
        (∀ n, h.fixedNumber = (some n, false) → bitOn c.fixed n = false →
          Completes (.censusRollRx l c) ⟨q, h⟩ (fun t =>
            (t.member b).claim = .fixed n ∧ on { c.visited with fixed := setBit c.fixed n } .roll t ∧ RegsKept h t ended ∧ MemKept h t)) ∧
        (∀ n, h.fixedNumber = (some n, false) → bitOn c.fixed n = true →
          Completes (.censusRollRx l c) ⟨q, h⟩ (fun t =>
            (t.member b).claim = .refused ∧ Raised h t Flt.NUMCONF 3 ∧ on c.visited .roll t ∧ RegsKept h t ended ∧ MemKept h t)) ∧
        (h.fixedNumber = (none, false) → h.remembered b ≠ 0 → bitOn c.taken (h.remembered b) = false →
          Completes (.censusRollRx l c) ⟨q, h⟩ (fun t =>
            (t.member b).claim = .remembered (h.remembered b) ∧ (t.member b).newest = some (c.round, c.serial) ∧
            on { c.visited with taken := setBit c.taken (h.remembered b) } .roll t ∧ RegsKept h t ended ∧ MemKept h t))) ∧
      (m.newest ≠ some (c.round, c.serial) → h.is Fld.MBR_CFG_MGRCAP = true → h.ownKey < managerKey c.slot.toNat c.serial →
        Completes (.censusRollRx l c) ⟨q, h⟩ (fun t =>
          (t.member b).newest = some (c.round + 1, h.serial) ∧ (t.member b).originating = some .roll ∧
          t.timerAt (.censusPass (ringIx b)) (h.clock + ms 10) ∧ RegsKept h t ended ∧ MemKept h t)) ∧
      (m.newest = some (c.round, c.serial) → m.visited.contains .assign = false →
        (∀ n, m.claim = .fixed n →
          Completes (.censusAssignRx l c) ⟨q, h⟩ (fun t =>
            (t.member b).chosen = n ∧ on { c.visited with used := setBit c.used n } .assign t ∧ RegsKept h t (fun _ => false) ∧ MemKept h t)) ∧
        (∀ n, m.claim = .none → c.lowestFree = some n →
          Completes (.censusAssignRx l c) ⟨q, h⟩ (fun t =>
            (t.member b).chosen = n ∧ on { c.visited with taken := setBit c.taken n, used := setBit c.used n } .assign t ∧
            RegsKept h t (fun _ => false) ∧ MemKept h t))) ∧
      (m.newest = some (c.round, c.serial) → m.visited.contains .assign = true → m.visited.contains .commit = false → b = false →
        1 ≤ m.chosen → m.chosen ≤ 127 → h.log.ident.incarn ≤ 65535 →
        (free ∨ m.chosen = h.self false →
          Completes (.censusCommitRx l c) ⟨q, h⟩ (fun t =>
            t.numbered false = true ∧ t.hubNo false = m.chosen ∧ t.is Fld.MBR_STATUS_JOINED_A = true ∧ t.is Fld.MBR_EVT_ROUNDEND = true ∧
            t.isMgr false = false ∧ t.rdBitmap Reg.MBR_USED = c.used ∧ t.rd Reg.MBR_CNT_ROUND = bump (h.rd Reg.MBR_CNT_ROUND) ∧
            (t.member false).reserved = numbersOf c.reserved)) ∧
        (h.armed .identity = true → h.due .identity = false → m.chosen ≠ h.self false → h.log.ident.hubA ≠ m.chosen →
          Completes (.censusCommitRx l c) ⟨q, h⟩ (fun t =>
            t.hubNo false = h.hubNo false ∧ t.numbered false = h.numbered false ∧ t.isMgr false = false ∧ t.log.identOwed = true ∧
            t.log.ident.hubA = m.chosen ∧ (t.member false).adopting = some (c.visited, m.chosen) ∧
            (t.member false).reserved = numbersOf c.reserved ∧ RegsKept h t (· == Reg.MBR_MGR) ∧ MemKept h t)))) ∧
    (∀ c1 n, h.due .identity = true → (h.member false).adopting = some (c1, n) → (h.member true).adopting = none → 1 ≤ n → n ≤ 127 →
      h.log.ident.incarn ≤ 65535 →
      Completes .identityWriteDeferred ⟨q, h⟩ (fun t =>
        t.numbered false = true ∧ t.hubNo false = n ∧ t.log.identOwed = false ∧ (t.member false).adopting = none ∧
        t.is Fld.MBR_EVT_ROUNDEND = true ∧ t.rdBitmap Reg.MBR_USED = c1.used)) ∧
    (h.isMgr b = true →
      Completes (.censusRequestRx l) ⟨q, h⟩ (fun t =>
        (t.member b).newest = some (h.nextRound b, h.serial) ∧ (t.member b).originating = some .roll ∧
        t.timerAt (.censusPass (ringIx b)) (h.clock + ms 10) ∧ RegsKept h t ended ∧ MemKept h t)) ∧
    Completes .censusReservedRx ⟨q, h⟩ (fun t =>
      t.rd Reg.MBR_CNT_CENBAD = bump (h.rd Reg.MBR_CNT_CENBAD) ∧ RegsKept h t (· == Reg.MBR_CNT_CENBAD) ∧ MemKept h t)

/-- R128, R129: a manager-capable hub that hears no COMMIT starts a round; a pass that does not come back starts the next round, after
three restarts in a row with FLT_CENSUS and 100 ms apart; the manager repeats its COMMIT each second; MBR_CTL.CENSUS starts a round
and MBR_CTL.FREE, like the end of HOURS, takes a number out of the reservation table. -/
def Obligations.CensusTimers : Prop :=
  ∀ (h : Hub) (q : List Instr) (b : Bool) (req : Req) (n : BitVec 7),
    let m := h.member b
    let starts (t : Hub) : Prop :=
      (t.member b).newest = some (h.nextRound b, h.serial) ∧ (t.member b).originating = some .roll ∧
        t.timerAt (.censusPass (ringIx b)) (h.clock + ms 10) ∧ RegsKept h t (fun a => a == Reg.MBR_EVT || satReg a) ∧
        MemKept h t
    (h.due (.censusSilence (ringIx b)) = true → h.is Fld.MBR_CFG_MGRCAP = true →
      Completes (.commitSilenceTimeout b) ⟨q, h⟩ (fun t => starts t ∧ t.timerAt (.censusSilence (ringIx b)) (h.clock + ms 3000))) ∧
    (h.due (.censusPass (ringIx b)) = true → m.originating ≠ none →
      (m.restarts < 3 → Completes (.censusPassTimeout b) ⟨q, h⟩ (fun t => starts t ∧ (t.member b).restarts = m.restarts + 1)) ∧
      (3 ≤ m.restarts → Completes (.censusPassTimeout b) ⟨q, h⟩ (fun t =>
        (t.member b).originating = none ∧ t.armed (.censusRetry (ringIx b)) = true ∧
        (h.armed (.censusRetry (ringIx b)) = false → t.timerAt (.censusRetry (ringIx b)) (h.clock + ms 100)) ∧
        (m.restarts = 3 → Raised h t Flt.CENSUS 3) ∧ RegsKept h t satReg ∧ MemKept h t))) ∧
    (h.armed (.censusRetry (ringIx b)) = true → h.due (.censusRetry (ringIx b)) = true →
      Completes (.censusRetryTimer b) ⟨q, h⟩ (fun t =>
        starts t ∧ t.timerAt (.censusRetry (ringIx b)) (h.dueAt (.censusRetry (ringIx b)) + ms 100))) ∧
    (∀ c, h.due (.commitRepeat (ringIx b)) = true → h.isMgr b = true → m.lastCommit = some c → h.laneUp (if b then 2 else 0) = true →
      Completes (.commitRepeat b) ⟨q, h⟩ (fun t =>
        (∃ x, t.sw.offered = h.sw.offered ++ [x] ∧ x.outs = [if b then 2 else 0] ∧ x.frame = h.censusFrame (if b then 2 else 0) 2 0 { c with shub := h.candidateNo b }) ∧
        t.timerAt (.commitRepeat (ringIx b)) (h.clock + ms 1000) ∧ RegsKept h t (fun _ => false) ∧ MemKept h t)) ∧
    (h.allows req Reg.MBR_CTL = true → h.isMgr b = true → h.isMgr (!b) = false → Completes (.mbrCensusCmd req) ⟨q, h⟩ starts) ∧
    (m.reserved.contains n.toNat = true →
      (h.allows req Reg.MBR_CTL = true → h.isMgr b = true → h.isMgr (!b) = false →
        Completes (.mbrFreeCmd req n) ⟨q, h⟩ (fun t =>
          (t.member b).reserved = m.reserved.filter (· ≠ n.toNat) ∧ t.armed (.reservation (ringIx b) n.toNat) = false ∧
          RegsKept h t (fun a => a == Reg.LOG_EVT || satReg a) ∧ MemKept h t)) ∧
      (h.due (.reservation (ringIx b) n.toNat) = true →
        Completes (.reservationExpiry b n) ⟨q, h⟩ (fun t =>
          (t.member b).reserved = m.reserved.filter (· ≠ n.toNat) ∧ t.armed (.reservation (ringIx b) n.toNat) = false ∧
          RegsKept h t (fun a => a == Reg.LOG_EVT || satReg a) ∧ MemKept h t)))

/-- R130, R131, R134, R138, R139: incarnation announces leave 100 us apart until three are sent, then each second; a changed incarnation
discards a hub's duplicate-discard entries and is counted; an entry's age ends it; a beat is sent on each path at its instant of the
schedule, 100 us apart; a good beat restarts a path's 320 us, and where they end the path is faulted with FLT_PATH. R134: a frame is
accepted once: the same SEQ again is a duplicate. -/
def Obligations.IncarnationsAndTethers : Prop :=
  ∀ (h : Hub) (q : List Instr) (hdr : Header),
    (h.due .incarnNext = true →
      Completes .incarnAnnounceSend ⟨q, h⟩ (fun t =>
        t.announced = h.announced + 1 ∧ t.timerAt .incarnNext (h.clock + (if h.announced + 1 < 3 then us 100 else ms 1000)) ∧
        t.sw.offered.length = h.sw.offered.length +
          ((h.ringPaths.filter (fun l => (h.rd (Reg.RING_LINK l)).getLsbD 18)).filter (fun l => h.numbered (h.laneRing l))).length ∧
        RegsKept h t (fun _ => false) ∧ MemKept h t)) ∧
    (∀ i s, Assoc.get h.incarns (hdr.sring.toNat * 256 + hdr.shub.toNat) = some (i, s) → i ≠ 0 →
      hdr.arg.extractLsb' 32 16 ≠ 0#16 → (hdr.arg.extractLsb' 32 16).toNat ≠ i →
      Completes (.incarnAnnounceRx hdr) ⟨q, h⟩ (fun t =>
        t.rd Reg.MBR_CNT_INCRESET = bump (h.rd Reg.MBR_CNT_INCRESET) ∧
        (∀ e ∈ t.dd, e.1 / 0x1000 ≠ hdr.sring.toNat * 256 + hdr.shub.toNat) ∧
        Assoc.get t.incarns (hdr.sring.toNat * 256 + hdr.shub.toNat) =
          some ((hdr.arg.extractLsb' 32 16).toNat, (hdr.arg.extractLsb' 16 16).toNat) ∧
        RegsKept h t (fun a => a == Reg.MBR_CNT_INCRESET || a == Reg.MBR_MGR) ∧ MemKept h t)) ∧
    (∀ (ring : BitVec 4) (hub : BitVec 8) (stream : BitVec 12), h.due (.dd (ddKey ring.toNat hub.toNat stream.toNat)) = true →
      Completes (.ddEntryAge ring hub stream) ⟨q, h⟩ (fun t =>
        (∀ e ∈ t.dd, e.1 ≠ ddKey ring.toNat hub.toNat stream.toNat) ∧ RegsKept h t (fun _ => false) ∧ MemKept h t)) ∧
    ((h.ddAccept hdr).1 = true →
      ((h.ddAccept hdr).2.ddAccept hdr).1 = false ∧
        ((h.ddAccept hdr).2.ddAccept hdr).2.rd Reg.MBR_CNT_DUP = bump (h.rd Reg.MBR_CNT_DUP)) ∧
    (∀ d, Assoc.get h.timers .tether = some d → d ≤ h.clock → h.is Fld.REAM_STATUS_BYPASS = false →
      Completes .tetherSend ⟨q, h⟩ (fun t =>
        t.timerAt .tether (d + us 100) ∧
        t.sw.offered.length = h.sw.offered.length +
          (([0, 1, 2, 3].filter (fun l => h.laneUp l && h.bothNumbered l)) ++ h.beatPaths).length ∧
        (∀ p ∈ (if h.is Fld.MBR_PAIRCFG_EN then h.partnerPaths else []), (t.path p).watched = true) ∧
        RegsKept h t (fun _ => false) ∧ MemKept h t)) ∧
    (h.armed .tether = false → h.clock < h.born + us 100 →
      Completes .tetherSend ⟨q, h⟩ (fun t =>
        t.timerAt .tether (h.born + us 100) ∧ t.sw = h.sw ∧ RegsKept h t (fun _ => false) ∧ MemKept h t)) ∧
    (∀ (l : Fin 5) p, beatPath l.val hdr.sub.toNat = some p → h.faulted p = false →
      Completes (.tetherRx l hdr) ⟨q, h⟩ (fun t =>
        (t.path p).watched = (decide (4 ≤ p) || h.bothNumbered p) ∧ (t.path p).lastBeat = h.clock ∧ (t.path p).heardSeq = hdr.seq ∧
        ((t.path p).watched = true → t.timerAt (.path p) (h.clock + us 320)) ∧
        RegsKept h t (fun a => a == Reg.MBR_CNT_INCRESET || a == Reg.MBR_MGR) ∧ MemKept h t)) ∧
    (∀ l : Fin 5, 4 ≤ hdr.sub.toNat →
      Completes (.tetherRx l hdr) ⟨q, h⟩ (fun t =>
        t.rd Reg.MBR_CNT_CENBAD = bump (h.rd Reg.MBR_CNT_CENBAD) ∧ RegsKept h t (· == Reg.MBR_CNT_CENBAD) ∧ MemKept h t)) ∧
    (∀ p : Fin 9, h.due (.path p.val) = true → (h.path p.val).watched = true → h.faulted p.val = false →
      Completes (.pathFault p) ⟨q, h⟩ (fun t =>
        t.faulted p.val = true ∧ Raised h t Flt.PATH 3 ∧ (p.val < 4 → RegsKept h t (fun a => a == Reg.MBR_PATH || satReg a)) ∧ MemKept h t))

/-- Table 05.5 and R143 to R145, a hub of a pair: a beat on the pair link forms the pair by the smaller manager key; versions that do not
meet raise FLT_PAIRVER; 500 ms without a beat after the join lead to SOLO, or to HELD while PAIR_PEER is high; PAIR_PEER low for 1 us
makes a committed follower the leader and HELD SOLO. PAIR_LEAD is high in the leading roles alone. -/
def Obligations.PairRoles : Prop :=
  ∀ (h : Hub) (q : List Instr) (hdr : Header) (b : PartnerBeat) (slot : BitVec 4),
    let other := managerKey slot.toNat (h.rd (Reg.RING_PSERIAL_HI 4) ++ h.rd (Reg.RING_PSERIAL_LO 4))
    (h.is Fld.MBR_PAIRCFG_EN = true →
      (pairVersion b = none → h.pair.refused = false → ∀ l : Fin 5,
        RoleMoves (.partnerBeatRx l hdr b slot) h q (fun t =>
          t.pair.refused = true ∧ t.role = h.role ∧ t.armed .unpaired = false ∧ Raised h t Flt.PAIRVER 3)) ∧
      (∀ v, pairVersion b = some v → h.role = .unpaired → Role.ofCode b.role.toNat = .unpaired → h.pair.peer = false →
        RoleMoves (.partnerBeatRx 4 hdr b slot) h q (fun t =>
          t.role = (if h.ownKey < other then Role.leader else Role.follower) ∧ t.leadHigh = decide (h.ownKey < other) ∧
          t.pair.partner = some b ∧ t.get Fld.MBR_PAIR_PVER = v ∧ t.armed .unpaired = false)) ∧
      (∀ v, pairVersion b = some v → h.role = .solo →
        RoleMoves (.partnerBeatRx 4 hdr b slot) h q (fun t => t.role = .leader ∧ t.leadHigh = true ∧ t.pair.partner = some b))) ∧
    (h.due .unpaired = true → h.role = .unpaired →
      (h.pair.peer = false → RoleMoves .unpairedTimeout h q (fun t => t.role = .solo ∧ t.leadHigh = true)) ∧
      (h.pair.peer = true → RoleMoves .unpairedTimeout h q (fun t =>
        t.role = .held ∧ t.leadHigh = false ∧ Raised h t Flt.PAIRSPLIT 3))) ∧
    RoleMoves .pairPeerRise h q (fun t =>
      t.pair.peer = true ∧ t.pair.peerLowLong = false ∧ t.role = h.role ∧ (∀ n, h.is (Fld.PB_CFG_SHARED n) = true → t.busFenced n = true)) ∧
    (h.role = .fCommitted → RoleMoves .pairPeerLow h q (fun t =>
      t.role = .leader ∧ t.leadHigh = true ∧ t.pair.peer = false ∧ t.get Fld.MBR_PAIR_PHASE = 0 ∧ t.is Fld.MBR_EVT_SWAPDONE = true)) ∧
    (h.role = .held → RoleMoves .pairPeerLow h q (fun t => t.role = .solo ∧ t.leadHigh = true ∧ t.is Fld.MBR_EVT_SWAPDONE = true))

/-- R145, R146: MBR_CTL.SWAP proposes a handover at T with the next swap number, or sets SWAPREF; the follower answers a proposal with
enough time by READY; READY on both kinds of path brings COMMIT, COMMIT on both F_COMMITTED, COMMITTED on both L_COMMITTED; deadlines
and ABORT end it with FLT_SWAP at the leader; at T the leader starts no more shared-bus frames, and releases PAIR_LEAD when none is
under way; a committed follower whose PAIR_PEER has been low leads at T; a leader whose partner went meanwhile leads again. -/
def Obligations.PairSwap : Prop :=
  ∀ (h : Hub) (q : List Instr) (req : Req) (n : BitVec 8) (st : BitVec 80) (pl : Bool),
    let at_ := Stamp.ofFrame h.now st
    let inTime (u : Nat) : Prop := h.now + usec u < h.pair.t
    (h.allows req Reg.MBR_CTL = true →
      (∀ b, h.role = .leader → h.pair.partner = some b → Role.ofCode b.role.toNat = .follower →
        (∀ p ∈ [0, 1, 2, 3] ++ h.partnerPaths, h.faulted p = false) →
        RoleMoves (.mbrSwapCmd req) h q (fun t =>
          t.role = .lProposed ∧ t.leadHigh = true ∧ t.pair.t = h.now + usec (1000 * h.get Fld.MBR_PAIRCFG_SWAPLEAD) ∧
          t.get Fld.MBR_PAIR_SWAPNUM = (h.get Fld.MBR_PAIR_SWAPNUM + 1) % 256 ∧ t.get Fld.MBR_PAIR_PHASE = 1)) ∧
      (h.role ≠ .leader →
        RoleMoves (.mbrSwapCmd req) h q (fun t =>
          t.is Fld.MBR_EVT_SWAPREF = true ∧ t.role = h.role))) ∧
    (h.role = .follower → h.now + usec 1000 ≤ at_ →
      RoleMoves (.swapProposeRx n st) h q (fun t =>
        t.role = .fReady ∧ t.leadHigh = false ∧ t.pair.t = at_ ∧ t.get Fld.MBR_PAIR_SWAPNUM = n.toNat ∧ t.get Fld.MBR_PAIR_PHASE = 2)) ∧
    (h.swapIs n = true →
      (h.role = .lProposed → h.get Fld.MBR_PAIR_PHASE = 1 → inTime 1000 →
        RoleMoves (.swapReadyRx pl n) h q (fun t =>
          t.get Fld.MBR_PAIR_PHASE = (if (h.pair.readyPl || pl) && (h.pair.readyRing || !pl) then 3 else 1) ∧
          t.pair.readyPl = (h.pair.readyPl || pl) ∧ t.pair.readyRing = (h.pair.readyRing || !pl) ∧ t.role = .lProposed)) ∧
      (h.role = .fReady → inTime 500 →
        RoleMoves (.swapCommitRx pl n) h q (fun t =>
          t.role = (if (h.pair.commitPl || pl) && (h.pair.commitRing || !pl) then Role.fCommitted else Role.fReady) ∧
          t.pair.commitPl = (h.pair.commitPl || pl))) ∧
      (h.role = .lProposed → h.get Fld.MBR_PAIR_PHASE = 3 → inTime 250 →
        RoleMoves (.swapCommittedRx pl n) h q (fun t =>
          t.role = (if (h.pair.committedPl || pl) && (h.pair.committedRing || !pl) then Role.lCommitted else Role.lProposed))) ∧
      (h.role = .lProposed → RoleMoves (.swapAbortRx n) h q (fun t => t.role = .leader ∧ t.leadHigh = true ∧ Raised h t Flt.SWAP 3)) ∧
      (h.role = .fReady → RoleMoves (.swapAbortRx n) h q (fun t => t.role = .follower ∧ t.leadHigh = false))) ∧
    (h.role = .lProposed → h.pair.t ≤ h.now + (if h.get Fld.MBR_PAIR_PHASE = 3 then usec 250 else usec 1000) →
      RoleMoves .swapDeadline h q (fun t =>
        t.role = .leader ∧ t.leadHigh = true ∧ t.get Fld.MBR_PAIR_PHASE = 0 ∧ Raised h t Flt.SWAP 3)) ∧
    (h.role = .fReady → h.pair.t ≤ h.now + usec 500 →
      RoleMoves .fReadyDeadline h q (fun t => t.role = .follower ∧ t.leadHigh = false ∧ t.get Fld.MBR_PAIR_PHASE = 0)) ∧
    (h.role = .fCommitted → h.pair.t + usec (1000 * h.get Fld.MBR_PAIRCFG_SWAPWAIT) ≤ h.now → h.pair.peer = true →
      RoleMoves .swapwaitExpiry h q (fun t => t.role = .follower ∧ t.leadHigh = false ∧ Raised h t Flt.SWAP 3)) ∧
    (h.role = .lCommitted → h.pair.t ≤ h.now →
      RoleMoves .swapTReached h q (fun t =>
        t.pair.tReached = true ∧ t.role = .lCommitted ∧ (∀ k, h.is (Fld.PB_CFG_SHARED k) = true → t.busFenced k = true))) ∧
    (h.role = .fCommitted → h.pair.t ≤ h.now →
      RoleMoves .swapTReached h q (fun t =>
        t.role = (if h.pair.peerLowLong then Role.leader else Role.fCommitted) ∧ (h.pair.peerLowLong = true → t.leadHigh = true))) ∧
    (h.role = .solo → h.pair.tReached = true → h.sharedBusy = false → h.pair.peer = false →
      RoleMoves .swapSharedFramesEnd h q (fun t => t.role = .solo ∧ t.leadHigh = true)) ∧
    (h.role = .lCommitted → h.pair.tReached = true → h.sharedBusy = false →
      RoleMoves .swapSharedFramesEnd h q (fun t =>
        t.role = .follower ∧ t.leadHigh = false ∧ t.is Fld.MBR_EVT_SWAPDONE = true ∧ t.get Fld.MBR_PAIR_PHASE = 0))

/-! ### The switch core (chapter 06) -/

/-- R154, R160 to R164, the first frame that an input offers, with one copy to write, held or not: none is written back to its own port; where its queue has room and the vat is above
LOWWAT, the copy takes its cells and is linked, and no octet of another cell changes; in a fixed queue without room it is lost, counted
in SW_LOST with QDROP and FLT_QDROP, or, of C4-C7 from a holdable input, waits in its block. -/
def Obligations.SwitchCopies : Prop :=
  ∀ (h : Hub) (q : List Instr) (i : Port) (x : Offered) (o : Nat) (flips : List (Nat × BitVec 64)),
    h.front i.val = some x → x.fid < h.sw.nextFid → x.outs = [o] → x.needsTag = false →
    (o = i.val → Completes (.switchCopyWrite ⟨i, flips⟩) ⟨q, h⟩ (fun t => i.val < 11 ∨ 18 < i.val → x.hold = false →
      t.sw.copies = h.sw.copies ∧ (∀ y ∈ t.sw.offered, ¬(y.fid = x.fid ∧ y.inp = x.inp)) ∧ RegsKept h t (fun _ => false) ∧ MemKept h t)) ∧
    (o ≠ i.val → (o < 5 → h.laneUp o = true) → h.worldBars o x = false →
    let n := cellsOf x.frame.hdr.frameLen
    let c := x.frame.hdr.cls.toNat
    let cmd : Instr := if x.hold then .heldCopyTaken i else .switchCopyWrite ⟨i, flips⟩
    let block : Prop := i.val < 11 ∨ 18 < i.val
    n ≤ h.sw.free → (c < 3 ∨ h.get Fld.SW_VATCFG_LOWWAT ≤ h.sw.free) →
    (h.fits i.val o c n x.frame = true →
      Completes cmd ⟨q, h⟩ (fun t =>
        ∃ p ∈ t.sw.copies, p.fid = x.fid ∧ p.inp = x.inp ∧ p.outp = o ∧ p.cls = c ∧ p.cells.length = n ∧ p.whole = x.rx.isNone ∧
          p.frame = x.frame.marked p.late ∧ (p.late = true ↔ p.wait = .consumer ∧ x.rx = none ∧ h.stale x.frame.hdr = true) ∧
          p.wait = (if x.release = true ∧ 5 ≤ o ∧ o ≠ 21 then .release else if consumerCopy o x.frame then .consumer else .voq) ∧
          (block → (∀ y ∈ t.sw.offered, ¬(y.fid = x.fid ∧ y.inp = x.inp)) ∧
            (∀ a, a / 128 ∉ p.cells → Sparse.get zeroByte t.sw.vat a = Sparse.get zeroByte h.sw.vat a) ∧
            t.log.mem = h.log.mem ∧ t.flash.mem = h.flash.mem ∧
            RegsKept h t (fun a => [Reg.SW_VATFREE, Reg.SW_VATMIN, Reg.SW_EVT].contains a || (List.range 9).any (fun k => a == Reg.SW_HQ_LVL k) ||
              a == Reg.TIME_LATECNT c || satReg a)))) ∧
    (h.fits i.val o c n x.frame = false → h.is (Fld.SW_QCFG_POLICY o c) = false →
      (c < 4 ∨ holdable i.val = false →
        Completes cmd ⟨q, h⟩ (fun t =>
          t.rd (Reg.SW_LOST o c) = bump (h.rd (Reg.SW_LOST o c)) ∧ t.is Fld.SW_EVT_QDROP = true ∧ Raised h t Flt.QDROP 2 ∧
          (block → t.sw.copies = h.sw.copies ∧ (∀ y ∈ t.sw.offered, ¬(y.fid = x.fid ∧ y.inp = x.inp)) ∧ MemKept h t ∧
            (o ≠ 9 → o ≠ 10 → RegsKept h t (fun a => a == Reg.SW_LOST o c || a == Reg.SW_EVT || satReg a))))) ∧
      (4 ≤ c → holdable i.val = true →
        Completes cmd ⟨q, h⟩ (fun t =>
          (∃ y ∈ t.sw.offered, y.fid = x.fid ∧ y.inp = x.inp ∧ y.hold = true ∧ y.outs = [o]) ∧
          (block → t.sw.copies = h.sw.copies ∧ RegsKept h t (fun _ => false) ∧ MemKept h t)))))

/-- R153, R167, R173, R176, R178, R179, R301: an output whose frame has ended drops it from the vat; the frame it then chooses leaves by its
lane, or goes to the block behind the output, or to Ploia; a double error drops it with FLT_VATECC, a missing link feature with
FEATDROP, a stopped crossing with XDROP. A missed tail sample is counted; a pop of a host queue moves the frame into its window; a read
of SW_VATMIN restarts it; a budget window ends with the overruns shown and raised. -/
def Obligations.SwitchOutputs : Prop :=
  ∀ (h : Hub) (q : List Instr) (req : Req) (o : Port) (spare : Bool),
    (∀ id st p h0, (h.sched o.val).sample = none → (h.sched o.val).sending = some (id, st) → h.sw.copies.find? (fun c => c.id = id) = some p → p.whole = true →
      h.endSending o.val = some h0 → h0.choose o.val = none ∨ h0.outWaits o.val = true →
      Completes (.outputSelect o 0 spare) ⟨q, h⟩ (fun t =>
        (∀ c ∈ t.sw.copies, c.id ≠ id) ∧ (t.sched o.val).sending = none ∧ MemKept h t)) ∧
    (∀ p sc, (h.sched o.val).sample = none → (h.sched o.val).sending = none → h.outWaits o.val = false → h.choose o.val = some (p, sc) →
      h.sw.eccScan p.words = (0, 0) →
      (h.outStopped o.val = false → h.get (Fld.SW_TSCFG_N o.val p.cls) = 0 →
        (o.val < 5 → p.whole = true → h.lacksFeature o.val p.frame.hdr = false → h.notOnLink o.val p.frame.hdr = false →
          Completes (.outputSelect o 0 spare) ⟨q, h⟩ (fun t =>
            t.out = .laneFrame o.val (h.onLane o.val p.transit p.frame) false :: h.out ∧
            t.rd (Reg.RING_CNT_TXF o.val) = bump (h.rd (Reg.RING_CNT_TXF o.val)) ∧ (t.sched o.val).sending = some (p.id, h.clock) ∧
            RegsKept h t (· == Reg.RING_CNT_TXF o.val) ∧ MemKept h t)) ∧
        (5 ≤ o.val → o.val ≠ 10 → o.val ≠ 21 →
          Completes (.outputSelect o 0 spare) ⟨q, h⟩ (fun t =>
            t.acts = actInsert h.actBefore ⟨o.val, p.fid, p.frame, p.late || h.stale p.frame.hdr, p.due,
              decide (o.val = 20) && h.xStopped (swCrossing 24 0), decide (o.val = 20) && h.xStopped (swCrossing 25 0), p.inp⟩ h.acts ∧
            (t.sched o.val).sending = some (p.id, h.clock) ∧
            (h.stale p.frame.hdr = true →
              t.rd (Reg.TIME_LATECNT p.frame.hdr.cls.toNat) = bump (h.rd (Reg.TIME_LATECNT p.frame.hdr.cls.toNat))) ∧
            RegsKept h t (fun a => h.stale p.frame.hdr && a == Reg.TIME_LATECNT p.frame.hdr.cls.toNat) ∧ MemKept h t)) ∧
        (o.val = 10 → p.frame.hdr.typ ≠ 7#4 → p.frame.hdr.typ ≠ 10#4 → p.frame.hdr.typ ≠ 11#4 → p.frame.hdr.typ ≠ 13#4 →
          Completes (.outputSelect o 0 spare) ⟨q, h⟩ (fun t =>
            t.out = .toBlock 10 p.frame p.late :: h.out ∧ (t.sched o.val).sending = some (p.id, h.clock) ∧
            RegsKept h t (fun _ => false) ∧ MemKept h t))) ∧
      (h.outStopped o.val = false →
        Completes (.outputSelect o 2 spare) ⟨q, h⟩ (fun t =>
          t.rd Reg.SW_CNT_ECC = bump (h.rd Reg.SW_CNT_ECC) ∧ t.is Fld.SW_EVT_ECC = true ∧ Raised h t Flt.VATECC 2 ∧
          (∀ c ∈ t.sw.copies, c.id ≠ p.id) ∧ (t.sched o.val).sending = none ∧ MemKept h t)) ∧
      (h.outStopped o.val = false → o.val < 5 → h.lacksFeature o.val p.frame.hdr = true →
        Completes (.outputSelect o 0 spare) ⟨q, h⟩ (fun t =>
          t.rd (Reg.RING_CNT_DISC o.val) = bump (h.rd (Reg.RING_CNT_DISC o.val)) ∧ t.is (Fld.RING_EVT_FEATDROP o.val) = true ∧
          t.out = h.out ∧ (∀ c ∈ t.sw.copies, c.id ≠ p.id) ∧ MemKept h t)) ∧
      (h.outStopped o.val = false → o.val < 5 → h.lacksFeature o.val p.frame.hdr = false → h.notOnLink o.val p.frame.hdr = true →
        Completes (.outputSelect o 0 spare) ⟨q, h⟩ (fun t =>
          t.out = h.out ∧ (∀ c ∈ t.sw.copies, c.id ≠ p.id) ∧
          RegsKept h t (fun a => [Reg.SW_VATFREE, Reg.SW_VATMIN, Reg.SW_EVT].contains a || satReg a) ∧ MemKept h t)) ∧
      (h.outStopped o.val = true →
        Completes (.outputSelect o 0 spare) ⟨q, h⟩ (fun t =>
          t.rd Reg.ISL_CNT_XDROP = bump (h.rd Reg.ISL_CNT_XDROP) ∧ (∀ c ∈ t.sw.copies, c.id ≠ p.id) ∧ MemKept h t))) ∧
    (∀ c t0, (h.sched o.val).sample = some (c, t0) → t0 + us 1 ≤ h.clock →
      Completes (.tailSampleSkip o) ⟨q, h⟩ (fun t =>
        (t.sched o.val).sample = none ∧ t.rd Reg.SW_CNT_TSSKIP = bump (h.rd Reg.SW_CNT_TSSKIP) ∧ t.is Fld.SW_EVT_TSSKIP = true ∧
        RegsKept h t (fun a => a == Reg.SW_CNT_TSSKIP || a == Reg.SW_EVT) ∧ MemKept h t)) ∧
    (∀ (k : Fin 9), h.allows req (Reg.SW_HQ_HEAD k.val) = true →
      (∀ id c, (h.sw.queue k.val).head? = some id → h.sw.copies.find? (fun x => x.id = id) = some c → c.whole = true →
        h.sw.eccScan c.words = (0, 0) →
        Completes (.hostQueuePop req k) ⟨q, h⟩ (fun t =>
          t.out.head? = some (.reply req (Reg.SW_HQ_HEAD k.val) (h.headWord k.val c true)) ∧ Assoc.get t.sw.windows k.val = some c ∧
          (∀ x ∈ t.sw.copies, x.id ≠ id) ∧ MemKept h t)) ∧
      ((h.sw.queue k.val).head? = none →
        Completes (.hostQueuePop req k) ⟨q, h⟩ (fun t =>
          t.out = .reply req (Reg.SW_HQ_HEAD k.val) 0#32 :: h.out ∧ t.sw = h.sw ∧ RegsKept h t (fun _ => false)))) ∧
    (h.allows req Reg.SW_VATMIN = true →
      Completes (.vatminRead req) ⟨q, h⟩ (fun t =>
        t.out = .reply req Reg.SW_VATMIN (h.rd Reg.SW_VATMIN) :: h.out ∧ t.rd Reg.SW_VATMIN = h.rd Reg.SW_VATFREE ∧
        RegsKept h t (· == Reg.SW_VATMIN) ∧ MemKept h t)) ∧
    (h.ready .budget = true →
      Completes .budgetWindowEnd ⟨q, h⟩ (fun t =>
        t.sw.meters = [] ∧ t.timerAt .budget (h.dueAt .budget + us 100) ∧
        (∀ i c, (i, c) ∈ h.overruns → (t.rd (Reg.SW_BUDSTAT i)).getLsbD c = true ∧ t.is Fld.SW_EVT_BUDGET = true) ∧
        (h.overruns ≠ [] → t.faults Flt.BUDGET 2 = min 65535 (h.faults Flt.BUDGET 2 + h.overruns.length)) ∧
        RegsKept h t (fun a => (List.range 22).any (fun i => a == Reg.SW_BUDSTAT i) || a == Reg.SW_EVT || satReg a) ∧ MemKept h t))

/-! ### Transactions and the host port (chapter 07) -/

/-- R184, R189 to R192, the requester: a request takes a free tag and leaves by its route, or, for a reserved hub number, ends UR at once; a
completion from its target ends it, BUSY issues it again after 10 us, and one for no request is counted; CTO without a completion ends
it TIMEOUT, with FLT_CTO and its tag out of use until the quarantine ends. A posted write leaves at once. -/
def Obligations.Requests : Prop :=
  ∀ (h : Hub) (q : List Instr) (mc : Bool) (r : WaitReq) (rest : List WaitReq) (a : BitVec 48) (d : List Byte),
    let routeRegs (x : Nat) : Bool := [Reg.XB_CNT_GUESS, Reg.XB_EVT, Reg.XB_CNT_REROUTE].contains x
    (takeFirst (fun (w : WaitReq) => w.mc == mc) h.xact.waiting = some (r, rest) →
      (∀ tg l gu, (faHub r.addr < 128 ∨ faHub r.addr = 0xFE) → h.freeTag mc = some tg → r.kind.space ≤ h.spaceLeft mc →
        h.toSelf (faRing r.addr) (faHub r.addr) = false → h.laneTowards (faRing r.addr) (faHub r.addr) = some (l, gu) →
        Completes (.requestIssue mc none) ⟨q, h⟩ (fun t =>
          Offers h t (fun x => x.outs = [l] ∧ x.frame.hdr.typ = 6#4 ∧ x.frame.hdr.tag = BitVec.ofNat 10 tg ∧ x.frame.hdr.arg = r.addr) ∧
          t.xact.waiting = rest ∧ (∃ o, t.xact.out = h.xact.out ++ [o] ∧ o.tag = tg ∧ o.req = r ∧ o.tries = 0) ∧
          t.timerAt (.tag tg) (h.clock + h.cto) ∧ RegsKept h t routeRegs ∧ MemKept h t)) ∧
      (128 ≤ faHub r.addr → faHub r.addr ≠ 0xFE → r.mc = true →
        Completes (.requestIssue mc none) ⟨q, h⟩ (fun t =>
          t.out = .octets 3 [stUR, r.addr.toNat] r.ones :: h.out ∧ t.xact.waiting = rest ∧ t.xact.out = h.xact.out ∧
          RegsKept h t (fun _ => false) ∧ MemKept h t))) ∧
    (∀ l gu, (faHub a < 128 ∨ faHub a = 0xFE) → h.toSelf (faRing a) (faHub a) = false → h.laneTowards (faRing a) (faHub a) = some (l, gu) →
      Completes (.requestIssue true (some (a, .posted d none))) ⟨q, h⟩ (fun t =>
        Offers h t (fun x => x.inp = 10 ∧ x.outs = [l] ∧ x.frame.hdr.typ = 5#4 ∧ x.frame.hdr.cls = 4#3 ∧ x.frame.hdr.arg = a ∧ x.frame.payload = d) ∧
        RegsKept h t routeRegs ∧ MemKept h t)) ∧
    (128 ≤ faHub a → faHub a ≤ 253 →
      Completes (.requestIssue true (some (a, .posted d none))) ⟨q, h⟩ (fun t =>
        t.sw = h.sw ∧ Raised h t Flt.DECODE 14 ∧ RegsKept h t satReg ∧ MemKept h t)) ∧
    (∀ c as, h.takes (if mc then 10 else 9) (fun f => f.hdr.typ = 7#4) c as →
      (∀ o, h.xact.out.find? (fun o => o.tag = c.frame.hdr.tag.toNat) = some o → c.frame.hdr.sring.toNat = faRing o.req.addr →
        c.frame.hdr.shub.toNat = faHub o.req.addr → c.frame.hdr.arg = o.req.addr →
        (o.req.mc = true → c.frame.hdr.sub.toNat ≤ 2 →
          Completes (.completionRx mc) ⟨q, h⟩ (fun t =>
            t.out = .octets 3 [c.frame.hdr.sub.toNat, o.req.addr.toNat]
              (if c.frame.hdr.sub = 0#6 then c.frame.payload else o.req.ones) :: h.out ∧
            (∀ x ∈ t.xact.out, x.tag ≠ o.tag) ∧ t.armed (.tag o.tag) = false ∧ t.acts = as ∧ RegsKept h t (fun _ => false) ∧ MemKept h t)) ∧
        (∀ rd, o.req.mc = false → c.frame.hdr.sub = 0#6 → h.host.reads.find? (fun x => x.id = o.req.hostId) = some rd → rd.left = 1 →
          rd.status = 0 →
          Completes (.completionRx mc) ⟨q, h⟩ (fun t =>
            t.out = .octets 4 [rd.id, 0] (laneGather rd.di rd.base rd.len (rd.parts ++ [(o.req.addr.toNat, c.frame.payload)])) :: h.out ∧
            (∀ x ∈ t.host.reads, x.id ≠ rd.id) ∧ (∀ x ∈ t.xact.out, x.tag ≠ o.tag) ∧ RegsKept h t (fun _ => false) ∧ MemKept h t)) ∧
        (c.frame.hdr.sub = 3#6 → o.tries < 3 → o.req.mc = true ∨ h.host.reads.any (fun r => decide (r.id = o.req.hostId)) = true →
          Completes (.completionRx mc) ⟨q, h⟩ (fun t =>
            t.xact.out = h.xact.out.map (fun x => if x.tag = c.frame.hdr.tag.toNat then { x with tries := x.tries + 1 } else x) ∧
            t.timerAt (.busy c.frame.hdr.tag.toNat) (h.clock + us 10) ∧ RegsKept h t (fun _ => false) ∧ MemKept h t))) ∧
      (h.xact.out.find? (fun o => o.tag = c.frame.hdr.tag.toNat) = none →
        let late := h.xact.quarantine.contains c.frame.hdr.tag.toNat || h.xact.allQuarantined
        let reg := if late then Reg.XB_CNT_LATECPL else Reg.XB_CNT_BADCPL
        Completes (.completionRx mc) ⟨q, h⟩ (fun t => t.rd reg = bump (h.rd reg) ∧ t.out = h.out ∧ RegsKept h t (· == reg) ∧ MemKept h t))) ∧
    (∀ (tg : BitVec 10) o, h.xact.out.find? (fun o => o.tag = tg.toNat) = some o →
      (h.due (.tag tg.toNat) = true → o.req.mc = true →
        Completes (.completionTimeout tg) ⟨q, h⟩ (fun t =>
          t.rd Reg.XB_CNT_CTO = bump (h.rd Reg.XB_CNT_CTO) ∧ t.is Fld.XB_EVT_CTO = true ∧ Raised h t Flt.CTO 14 ∧
          t.out = .octets 3 [stTIMEOUT, o.req.addr.toNat] o.req.ones :: h.out ∧ t.xact.quarantine = tg.toNat :: h.xact.quarantine ∧
          t.timerAt (.tagFree tg.toNat) (h.clock + (h.cto + ms 1)) ∧ (∀ x ∈ t.xact.out, x.tag ≠ tg.toNat) ∧
          RegsKept h t (fun x => x == Reg.XB_CNT_CTO || x == Reg.XB_EVT || satReg x) ∧ MemKept h t)) ∧
      (∀ l gu, h.due (.busy tg.toNat) = true → h.laneTowards (faRing o.req.addr) (faHub o.req.addr) = some (l, gu) →
        Completes (.busyReissue tg) ⟨q, h⟩ (fun t =>
          Offers h t (fun x => x.inp = (if o.req.mc then 10 else 9) ∧ x.outs = [l] ∧ x.frame.hdr.typ = 6#4 ∧ x.frame.hdr.tag = tg ∧
            x.frame.hdr.arg = o.req.addr ∧ x.frame.payload = o.frame.payload) ∧
          t.xact.out = h.xact.out ∧ RegsKept h t routeRegs ∧ MemKept h t))) ∧
    (h.due .tagsBoot = true →
      Completes (.tagQuarantineEnd none) ⟨q, h⟩ (fun t => t.xact.allQuarantined = false ∧ RegsKept h t (fun _ => false) ∧ MemKept h t)) ∧
    (∀ k : BitVec 10, h.due (.tagFree k.toNat) = true →
      Completes (.tagQuarantineEnd (some k)) ⟨q, h⟩ (fun t =>
        t.xact.quarantine = h.xact.quarantine.filter (fun x => x != k.toNat) ∧ RegsKept h t (fun _ => false) ∧ MemKept h t))

/-- R181 to R183, R192, R196, R200 to R203, the completer: a posted write is performed, or draws a notice; a non-posted request that its
fence does not hold is performed by its kind and answered, one of a reserved kind UR; a held one waits for WAIT at most, and is then
performed with FLT_FENCE, once the outbound buffer of R197 has room for it; one not answered within CTO is dropped. A notice reaches XB_PFQ or, from before the last chip reset, is
counted. -/
def Obligations.Completer : Prop :=
  ∀ (h : Hub) (q : List Instr) (a : Act) (rest : List Act),
    let h1 : Hub := { h with acts := rest }
    let f := a.frame
    let ring := f.hdr.sring.toNat
    let hub := f.hdr.shub.toNat
    let loc := faLocal f.hdr.arg
    let rq := reqOf f a.inp
    (h.takes 9 (fun f => f.hdr.typ = 5#4) a rest → h.postedRoom f = true → h.xact.held = [] →
      (f.postedShape = false → h.isSelf ring hub = false → hub ≠ 0 → ms 1 ≤ h.clock - h.xact.noteFrom → ∀ l g, h.routeLane ring hub = some (l, g) →
        Completes .postedWriteRx ⟨q, h⟩ (fun t =>
          t.rd Reg.XB_CNT_MALF = bump (h.rd Reg.XB_CNT_MALF) ∧ t.rd Reg.XB_CNT_PFSENT = bump (h.rd Reg.XB_CNT_PFSENT) ∧
          Offers h t (fun x => x.frame.hdr.typ = 11#4 ∧ x.frame.hdr.sub = BitVec.ofNat 6 causeMALF ∧ x.frame.hdr.arg = f.hdr.arg) ∧
          RegsKept h t (fun r => [Reg.XB_CNT_MALF, Reg.XB_CNT_PFSENT, Reg.XB_CNT_GUESS, Reg.XB_EVT].contains r) ∧ MemKept h t)) ∧
      (f.postedShape = true → bridged loc = false →
        ∀ g, h1.localWrite rq loc f.payload (f.hdr.sub.getLsbD 4 && decide (f.hdr.sub.extractLsb' 0 4 ≠ 0xF#4)) f.hdr.arg.toNat = (none, g) →
          g.xact.held = [] →
          Completes .postedWriteRx ⟨q, h⟩ (fun t => RegsKept g t (fun _ => false) ∧ MemKept g t ∧
            (g.host.posted = [] → g.xact.donePw = [] → Assoc.get t.xact.donePw f.hdr.source = some (f.hdr.seq, g.clock)))) ∧
      (∀ w m, f.hdr.sub = 0#6 → 1 ≤ f.hdr.len.toNat → f.hdr.len.toNat ≤ 2048 → bridged loc = true →
        h.window true (f.hdr.arg.extractLsb' 0 36).toNat f.payload.length = some (w, m) → f.hdr.world = true → h.hostBar = none →
        Completes .postedWriteRx ⟨q, h⟩ (fun t =>
          t.host.posted = h.host.posted ++ [.write (lanePieces (h.is (Fld.HP_WIN_CTL_DI w)) m f.payload) a.inp f none] ∧
          RegsKept h t (fun _ => false) ∧ MemKept h t))) ∧
    (h.fenced f = true →
      let held (c : Instr) : Prop := Completes c ⟨q, h⟩ (fun t =>
        t.xact.held = h.xact.held ++ [⟨h.xact.nextHeld, a.inp, f, false⟩] ∧
        t.timerAt (.fence h.xact.nextHeld) (h.clock + us (max 1 (h.get Fld.XB_ORD_WAIT))) ∧
        t.timerAt (.held h.xact.nextHeld) (h.clock + h.cto) ∧ RegsKept h t (fun _ => false) ∧ MemKept h t)
      (h.takes 9 (fun f => decide (f.hdr.typ = 6#4) && f.hdr.sub.toNat == 0) a rest → held .npReadRx) ∧
      (h.takes 9 (fun f => decide (f.hdr.typ = 6#4) && f.hdr.sub.toNat == 1) a rest → held .npWriteRx) ∧
      (h.takes 9 (fun f => decide (f.hdr.typ = 6#4) && f.hdr.sub.toNat == 2) a rest → held .npSwapRx) ∧
      (h.takes 9 (fun f => decide (f.hdr.typ = 6#4) && f.hdr.sub.toNat == 3) a rest → held .npCasRx)) ∧
    (h.fenced f = false → a.inp ≠ 9 → a.inp ≠ 10 →
      (h.takes 9 (fun f => decide (f.hdr.typ = 6#4) && f.hdr.sub.toNat == 0) a rest → f.npShape = true → bridged loc = false →
        let r := h1.localRead rq loc f.rdlen f.hdr.arg.toNat
        ∀ l g, r.2.2.routeLane ring hub = some (l, g) →
          Completes .npReadRx ⟨q, h⟩ (fun t =>
            Answers r.2.2 t f.hdr r.1 (if r.1 = stSC then r.2.1 else List.replicate f.rdlen 0xFF) ∧
            RegsKept r.2.2 t (fun x => x == Reg.XB_CNT_GUESS || x == Reg.XB_EVT) ∧ MemKept r.2.2 t)) ∧
      (h.takes 9 (fun f => decide (f.hdr.typ = 6#4) && f.hdr.sub.toNat == 1) a rest → f.npShape = true → bridged loc = false →
        let r := h1.localWrite rq loc f.operands false f.hdr.arg.toNat
        ∀ l g, r.2.routeLane ring hub = some (l, g) →
          Completes .npWriteRx ⟨q, h⟩ (fun t =>
            Answers r.2 t f.hdr (npStatus r.1) [] ∧ RegsKept r.2 t (fun x => x == Reg.XB_CNT_GUESS || x == Reg.XB_EVT) ∧ MemKept r.2 t)) ∧
      (∀ w m, bridged loc = true → f.npShape = true → h.window true loc 4 = some (w, m) → f.hdr.world = true → h.host.atomicEn = true →
        h.hostBar = none → h.npRoom f = true →
        let waits (c : Instr) : Prop := Completes c ⟨q, h⟩ (fun t =>
          t.host.nps = h.host.nps ++ [⟨h.xact.nextHeld, a.inp, m, 4, h.is (Fld.HP_WIN_CTL_DI w), false, f⟩] ∧
          t.timerAt (.held h.xact.nextHeld) (h.clock + h.cto) ∧ RegsKept h t (fun _ => false) ∧ MemKept h t)
        (h.takes 9 (fun f => decide (f.hdr.typ = 6#4) && f.hdr.sub.toNat == 2) a rest → waits .npSwapRx) ∧
        (h.takes 9 (fun f => decide (f.hdr.typ = 6#4) && f.hdr.sub.toNat == 3) a rest → waits .npCasRx)) ∧
      (h.takes 9 (fun f => decide (f.hdr.typ = 6#4) && decide (4 ≤ f.hdr.sub.toNat)) a rest → ∀ l g, h.routeLane ring hub = some (l, g) →
        Completes .npReservedRx ⟨q, h⟩ (fun t =>
          Answers h t f.hdr stUR [] ∧ RegsKept h t (fun x => x == Reg.XB_CNT_GUESS || x == Reg.XB_EVT) ∧ MemKept h t))) ∧
    (∀ id e, h.xact.held.find? (fun e => e.id = id) = some e →
      (h.due (.fence id) = true →
        (h.npRoom e.frame = true →
          Completes (.fenceTimeout id) ⟨q, h⟩ (fun t => ∃ g : Hub, g.rd Reg.XB_CNT_FENCETO = bump (h.rd Reg.XB_CNT_FENCETO) ∧
            g.is Fld.XB_EVT_FENCETO = true ∧ Raised h g Flt.FENCE 14 ∧ g.xact.held = h.xact.held.filter (fun x => x.id != id) ∧
            RegsKept h g (fun x => x == Reg.XB_CNT_FENCETO || x == Reg.XB_EVT || satReg x) ∧ MemKept h g ∧
            t = g.npPerform e.inp e.frame (h.dueAt (.held id)))) ∧
        (h.npRoom e.frame = false →
          Completes (.fenceTimeout id) ⟨q, h⟩ (fun t =>
            t.rd Reg.XB_CNT_FENCETO = bump (h.rd Reg.XB_CNT_FENCETO) ∧ Raised h t Flt.FENCE 14 ∧
            t.xact.held = h.xact.held.map (fun x => if x.id = id then { x with late := true } else x) ∧
            RegsKept h t (fun x => x == Reg.XB_CNT_FENCETO || x == Reg.XB_EVT || satReg x) ∧ MemKept h t))) ∧
      (h.due (.held id) = true →
        Completes (.completerAbandon id) ⟨q, h⟩ (fun t =>
          t.xact.held = h.xact.held.filter (fun x => x.id != id) ∧ t.host.nps = h.host.nps.filter (fun x => x.id != id) ∧
          t.sw.offered = h.sw.offered ∧ RegsKept h t (fun _ => false) ∧ MemKept h t))) ∧
    (∀ mc : Bool, h.takes (if mc then 10 else 9) (fun f => f.hdr.typ = 11#4) a rest →
      let n := noticeFrom f
      (Stamp.ofFrame h.now n.stamp < h.bornStamp →
        Completes (.noticeRx mc) ⟨q, h⟩ (fun t =>
          t.rd Reg.XB_CNT_PFSTALE = bump (h.rd Reg.XB_CNT_PFSTALE) ∧ RegsKept h t (· == Reg.XB_CNT_PFSTALE) ∧ MemKept h t)) ∧
      (h.bornStamp ≤ Stamp.ofFrame h.now n.stamp → n.stream.toNat = h.get Fld.XB_STREAM_HPSTR → h.xact.pfq.length < 16 →
        Completes (.noticeRx mc) ⟨q, h⟩ (fun t =>
          t.rd Reg.XB_CNT_PFRECV = bump (h.rd Reg.XB_CNT_PFRECV) ∧ t.xact.pfq = h.xact.pfq ++ [n] ∧ Raised h t Flt.POSTFAIL 14 ∧
          RegsKept h t (fun x => x == Reg.XB_CNT_PFRECV || satReg x) ∧ MemKept h t)))

/-- R95, R204 to R210, host accesses and their answers: a write through an inbound window leaves as posted writes, one of BAR4 sets the
MSI-X table; a read waits as READs of MAXRD octets or less; outside every window they are counted; the outbound buffers go to the root
complex in order, and its completion answers the request that asked. -/
def Obligations.HostAccesses : Prop :=
  ∀ (h : Hub) (q : List Instr) (bar : Fin 3) (off : Nat) (d : List Byte), h.is Fld.HP_LINK_UP = true →
    (d ≠ [] → h.inboundLoad + d.length ≤ 32768 →
      (bar ≠ 2 → h.sealed_ = false →
        Completes (.hostBarWrite bar off d none) ⟨q, h⟩ (fun t =>
          t.get Fld.CHIP_SEAL_PRESEAL = min 65535 (h.get Fld.CHIP_SEAL_PRESEAL + 1) ∧ t.sw = h.sw ∧ RegsKept h t (· == Reg.CHIP_SEAL) ∧
          MemKept h t)) ∧
      (bar ≠ 2 → h.sealed_ = true → h.inbound (decide (bar = 1)) off d.length = none →
        Completes (.hostBarWrite bar off d none) ⟨q, h⟩ (fun t =>
          t.rd Reg.HP_CNT_NOWIN = bump (h.rd Reg.HP_CNT_NOWIN) ∧ t.sw = h.sw ∧ RegsKept h t (· == Reg.HP_CNT_NOWIN) ∧ MemKept h t)) ∧
      (∀ w m l gu, bar ≠ 2 → h.sealed_ = true → h.inbound (decide (bar = 1)) off d.length = some (w, m) →
        (w = 0 ∨ h.is (Fld.HP_WIN_CTL_DI w) = false) → d.length + m % 4096 ≤ 4096 → d.length ≤ 2048 → faHub (BitVec.ofNat 48 m) < 128 →
        h.toSelf (faRing (BitVec.ofNat 48 m)) (faHub (BitVec.ofNat 48 m)) = false →
        h.laneTowards (faRing (BitVec.ofNat 48 m)) (faHub (BitVec.ofNat 48 m)) = some (l, gu) →
        Completes (.hostBarWrite bar off d none) ⟨q, h⟩ (fun t =>
          Offers h t (fun x => x.inp = 9 ∧ x.outs = [l] ∧ x.frame.hdr.typ = 5#4 ∧ x.frame.hdr.world = h.hostWorld w ∧
            x.frame.hdr.arg = BitVec.ofNat 48 m ∧ x.frame.payload = d) ∧
          RegsKept h t (fun x => [Reg.XB_CNT_GUESS, Reg.XB_EVT, Reg.XB_CNT_REROUTE].contains x) ∧ MemKept h t)) ∧
      (bar = 2 → d.length = 4 → off % 4 = 0 → off < 512 →
        Completes (.hostBarWrite bar off d none) ⟨q, h⟩ (fun t =>
          t.msixWord off = d.getD 3 0 ++ d.getD 2 0 ++ d.getD 1 0 ++ d.getD 0 0 ∧ RegsKept h t (fun _ => false) ∧ MemKept h t))) ∧
    (∀ len, 0 < len → len ≤ 4096 → h.readsWaiting < 64 → bar ≠ 2 →
      (h.sealed_ = false →
        Completes (.hostBarRead bar off len) ⟨q, h⟩ (fun t =>
          t.out = .octets 4 [h.host.nextRead, 0] (List.replicate len 0xFF) :: h.out ∧
          t.get Fld.CHIP_SEAL_PRESEAL = min 65535 (h.get Fld.CHIP_SEAL_PRESEAL + 1) ∧ RegsKept h t (· == Reg.CHIP_SEAL) ∧ MemKept h t)) ∧
      (h.sealed_ = true → h.inbound (decide (bar = 1)) off len = none →
        Completes (.hostBarRead bar off len) ⟨q, h⟩ (fun t =>
          t.out = .octets 4 [h.host.nextRead, 1] [] :: h.out ∧ t.rd Reg.HP_CNT_NOWIN = bump (h.rd Reg.HP_CNT_NOWIN) ∧
          RegsKept h t (· == Reg.HP_CNT_NOWIN) ∧ MemKept h t)) ∧
      (∀ w m, h.sealed_ = true → h.inbound (decide (bar = 1)) off len = some (w, m) → (w = 0 ∨ h.is (Fld.HP_WIN_CTL_DI w) = false) →
        len ≤ h.maxRd →
        Completes (.hostBarRead bar off len) ⟨q, h⟩ (fun t =>
          t.xact.waiting = h.xact.waiting ++ [⟨false, h.hostWorld w, BitVec.ofNat 48 m, .read len, h.host.nextRead⟩] ∧
          t.host.nextRead = h.host.nextRead + 1 ∧ t.out = h.out ∧ RegsKept h t (fun _ => false) ∧ MemKept h t))) ∧
    (∀ v rest, h.host.posted = .msix v :: rest →
      (h.hostBar = none →
        Completes (.hostWindowRequest true) ⟨q, h⟩ (fun t =>
          t.out = .msix v :: h.out ∧ t.host.posted = rest ∧ RegsKept h t (fun _ => false) ∧ MemKept h t)) ∧
      (h.hostBar = some causeNOBM →
        Completes (.hostWindowRequest true) ⟨q, h⟩ (fun t =>
          v ∈ t.host.msixPending ∧ t.out = h.out ∧ t.host.posted = rest ∧ RegsKept h t (fun _ => false) ∧ MemKept h t))) ∧
    (∀ ad i f rest, d ≠ [] → d.length + ad % 4096 ≤ 4096 → d.length ≤ h.host.maxPayload → h.host.posted = .write [(ad, d)] i f none :: rest →
      h.hostBar = none → h.xact.held = [] → rest = [] →
      Completes (.hostWindowRequest true) ⟨q, h⟩ (fun t =>
        t.out = .octets 5 [ad] d :: h.out ∧ t.host.posted = rest ∧
        (h.xact.donePw = [] → Assoc.get t.xact.donePw f.hdr.source = some (f.hdr.seq, h.clock)) ∧ RegsKept h t (fun _ => false) ∧ MemKept h t)) ∧
    (∀ e, h.host.nps.find? (fun e => !e.sent) = some e → h.hostBar = none → h.npMayGo e = true →
      Completes (.hostWindowRequest false) ⟨q, h⟩ (fun t =>
        (∀ x ∈ t.host.nps, x.id = e.id → x.sent = true) ∧ t.host.nps.length = h.host.nps.length ∧ RegsKept h t (fun _ => false) ∧ MemKept h t)) ∧
    (∀ (id : Nat) (e : NpOut) (l : Nat) (gu : Bool), h.host.nps.find? (fun e => decide (e.id = id) && e.sent) = some e → e.inp ≠ 9 → e.inp ≠ 10 → e.di = false →
      d.length = e.len → 0 < e.len → h.xact.held = [] → h.routeLane e.frame.hdr.sring.toNat e.frame.hdr.shub.toNat = some (l, gu) →
      Completes (.pcieCompletionRx id true d) ⟨q, h⟩ (fun t =>
        Answers h t e.frame.hdr stSC d ∧ (∀ x ∈ t.host.nps, x.id ≠ id) ∧ RegsKept h t (fun x => x == Reg.XB_CNT_GUESS || x == Reg.XB_EVT) ∧
        MemKept h t))

/-- R204 to R206, R211, R212: configuration requests are put off until the host sheet is applied, and then set the controls they name; the
link comes up only with PERST_N high and not in bypass forwarding, and its fall ends what the host had under way; a side-band interrupt of vector 12 or more is sent as
MSI-X, a doorbell is queued, a reserved message counted. -/
def Obligations.HostLinkAndSideBand : Prop :=
  ∀ (h : Hub) (q : List Instr) (b : Bool),
    (h.is Fld.HP_LINK_UP = true →
      (∀ c, h.host.sheet = false →
        Completes (.hostConfigRequest c) ⟨q, h⟩ (fun t =>
          t.rd Reg.HP_CNT_CRS = bump (h.rd Reg.HP_CNT_CRS) ∧ t.host = h.host ∧ RegsKept h t (· == Reg.HP_CNT_CRS) ∧ MemKept h t)) ∧
      (h.host.sheet = true → h.host.msixPending = [] →
        Completes (.hostConfigRequest (.busMaster b)) ⟨q, h⟩ (fun t =>
          t.is Fld.HP_LINK_BME = b ∧ t.host = h.host ∧ RegsKept h t (· == Reg.HP_LINK) ∧ MemKept h t) ∧
        Completes (.hostConfigRequest (.atomic b)) ⟨q, h⟩ (fun t =>
          t.host = { h.host with atomicEn := b } ∧ RegsKept h t (fun _ => false) ∧ MemKept h t) ∧
        Completes (.hostConfigRequest (.read 0)) ⟨q, h⟩ (fun t =>
          t.out = .note 15 [0, (h.rd Reg.HP_ID0).toNat] :: h.out ∧ RegsKept h t (fun _ => false) ∧ MemKept h t)) ∧
      (h.xact.held = [] → Completes (.hostLinkDown b) ⟨q, h⟩ (fun t =>
        t.is Fld.HP_LINK_UP = false ∧ t.is Fld.HP_LINK_PERST = h.is Fld.HP_LINK_PERST ∧ t.is Fld.HP_EVT_LINKDN = true ∧
        (b = true → t.is Fld.HP_EVT_HOTRST = true) ∧ t.host.posted = [] ∧ t.host.nps = [] ∧ t.host.reads = [] ∧
        t.host.sheet = h.host.sheet ∧ MemKept h t)) ∧
      (h.xact.held = [] → Completes (.perstNChange false) ⟨q, h⟩ (fun t =>
        t.is Fld.HP_LINK_UP = false ∧ t.is Fld.HP_LINK_PERST = false ∧ t.is Fld.HP_EVT_LINKDN = true ∧ (t.unit .host).state = .off))) ∧
    (∀ width rate : Fin 4, h.is Fld.HP_LINK_PERST = true → h.is Fld.HP_LINK_UP = false → h.is Fld.REAM_STATUS_BYPASS = false →
        (h.host.sheet = true → h.get Fld.HP_ID0_VID ≠ 0xFFFF) →
      Completes (.hostLinkUp width rate) ⟨q, h⟩ (fun t =>
        t.is Fld.HP_LINK_UP = true ∧ t.get Fld.HP_LINK_WIDTH = width.val ∧ t.get Fld.HP_LINK_RATE = rate.val ∧ t.is Fld.HP_EVT_LINKUP = true ∧
        RegsKept h t (fun a => a == Reg.HP_LINK || a == Reg.HP_EVT || a == Reg.HP_STATE) ∧ MemKept h t)) ∧
    (h.is Fld.HP_LINK_UP = false →
      Completes (.perstNChange b) ⟨q, h⟩ (fun t =>
        t.is Fld.HP_LINK_PERST = b ∧ RegsKept h t (fun a => a == Reg.HP_LINK || a == Reg.HP_STATE) ∧ MemKept h t)) ∧
    (∀ a, h.sbFirst a = true →
      (h.acts.find? (fun a => decide (a.port = 9) && decide (a.frame.hdr.typ = 10#4) && a.frame.hdr.sub.toNat == 0 && h.actDue a) = some a →
        (12 ≤ a.frame.hdr.arg.toNat % 32 → h.is Fld.HP_LINK_MSIXEN = true → h.msixMasked (a.frame.hdr.arg.toNat % 32) = false →
          h.host.posted = [] → h.is Fld.HP_LINK_BME = true → h.host.d3 = false →
          Completes .sbInterruptRx ⟨q, h⟩ (fun t =>
            t.out = .msix (a.frame.hdr.arg.toNat % 32) :: h.out ∧ RegsKept h t (fun _ => false) ∧ MemKept h t)) ∧
        (a.frame.hdr.arg.toNat % 32 < 12 →
          Completes .sbInterruptRx ⟨q, h⟩ (fun t =>
            t.rd Reg.XB_CNT_SBBAD = bump (h.rd Reg.XB_CNT_SBBAD) ∧ t.out = h.out ∧ RegsKept h t (· == Reg.XB_CNT_SBBAD) ∧ MemKept h t))) ∧
      (h.acts.find? (fun x => decide (x.port = if b then 10 else 9) && decide (x.frame.hdr.typ = 10#4) && x.frame.hdr.sub.toNat == 1 &&
          h.actDue x) = some a →
        (h.xact.doorbells.length < 32 →
          Completes (.sbDoorbellRx b) ⟨q, h⟩ (fun t =>
            t.xact.doorbells = h.xact.doorbells ++ [a.frame.hdr.arg.extractLsb' 0 32] ∧ RegsKept h t (· == Reg.XB_DBLVL) ∧ MemKept h t)) ∧
        (32 ≤ h.xact.doorbells.length →
          Completes (.sbDoorbellRx b) ⟨q, h⟩ (fun t =>
            t.rd Reg.XB_CNT_DBFULL = bump (h.rd Reg.XB_CNT_DBFULL) ∧ t.is Fld.XB_EVT_DBFULL = true ∧ t.xact.doorbells = h.xact.doorbells ∧
            RegsKept h t (fun x => x == Reg.XB_CNT_DBFULL || x == Reg.XB_EVT) ∧ MemKept h t))) ∧
      (h.acts.find? (fun x => decide (x.port = if b then 10 else 9) && decide (x.frame.hdr.typ = 10#4) && decide (3 ≤ x.frame.hdr.sub.toNat) &&
          h.actDue x) = some a →
        Completes (.sbReservedRx b) ⟨q, h⟩ (fun t =>
          t.rd Reg.XB_CNT_SBBAD = bump (h.rd Reg.XB_CNT_SBBAD) ∧ RegsKept h t (· == Reg.XB_CNT_SBBAD) ∧ MemKept h t)))

/-- R64, R214 to R218, R223, a station port: the commands put it OFF, RUN or IDLE, the link moves it between RUN and IDLE; a frame that is too
short, too long or bad is counted, a good one takes the action of its rule, or of ST_DEFAULT with NORULE counted; a due tunnel leaves as
it came, and a transmit stamp of it that was asked for is queued and popped in order. -/
def Obligations.StationPorts : Prop :=
  ∀ (h : Hub) (q : List Instr) (req : Req) (p : Fin 4) (expect : BitVec 8) (raw : Sample),
    let k := p.val
    let inState (st : UState) (t : Hub) : Prop := (t.unit (.station p)).state = st
    (h.accepts (.station p) req expect = true →
      let cs (a : Nat) : Bool := a == Reg.ST_CMDSTAT k || a == Reg.ST_STATE k || a == Reg.ST_LINK k
      Completes (.stDisable req p expect) ⟨q, h⟩ (fun t =>
        CmdEnds t (.station p) 1 .done ∧ inState .off t ∧ t.is (Fld.ST_LINK_UP k) = false ∧ RegsKept h t cs ∧ MemKept h t) ∧
      Completes (.stEnable req p expect) ⟨q, h⟩ (fun t =>
        CmdEnds t (.station p) 2 .done ∧
        (if h.stInUse k then inState (if h.is (Fld.ST_LINK_UP k) then .run else .idle) t else t.unit (.station p) = h.unit (.station p)) ∧
        RegsKept h t cs ∧ MemKept h t) ∧
      Completes (.stRestartAn req p expect) ⟨q, h⟩ (fun t =>
        CmdEnds t (.station p) 3 .done ∧
        (h.get (Fld.ST_CTL_MODE k) = 0 → h.is (Fld.ST_CTL_ANEN k) = true → ¬inState .off h →
          inState .idle t ∧ t.is (Fld.ST_LINK_UP k) = false ∧ t.is (Fld.ST_LINK_ANDONE k) = false) ∧
        RegsKept h t cs ∧ MemKept h t)) ∧
    (∀ (up an : Bool) (speed : Fin 4),
      (inState .idle h ∨ inState .run h →
        Completes (.stLinkChange p up an speed) ⟨q, h⟩ (fun t =>
          t.is (Fld.ST_LINK_UP k) = up ∧ inState (if up then .run else .idle) t ∧
          (h.get (Fld.ST_CTL_MODE k) = 0 →
            t.get (Fld.ST_LINK_SPEED k) = 2 ∧ t.is (Fld.ST_LINK_ANDONE k) = (an && h.is (Fld.ST_CTL_ANEN k))) ∧
          (h.get (Fld.ST_CTL_MODE k) = 1 → t.get (Fld.ST_LINK_SPEED k) = min 2 speed.val ∧ t.is (Fld.ST_LINK_ANDONE k) = an) ∧
          (h.get (Fld.ST_CTL_MODE k) = 2 → t.get (Fld.ST_LINK_SPEED k) = 3 ∧ t.is (Fld.ST_LINK_ANDONE k) = false) ∧
          (t.unit (.station p)).detail = BitVec.ofNat 12 (256 * h.get (Fld.ST_CTL_MODE k) + 64 * t.get (Fld.ST_LINK_SPEED k)) ∧
          RegsKept h t (fun a => a == Reg.ST_LINK k || a == Reg.ST_STATE k) ∧ MemKept h t)) ∧
      (¬(inState .idle h ∨ inState .run h) → Completes (.stLinkChange p up an speed) ⟨q, h⟩ (fun t => t = h))) ∧
    (∀ (o : List Byte) (fcs : Bool), inState .run h →
      let bad (reg : Nat) : Prop := Completes (.stFrameRx p o fcs raw) ⟨q, h⟩ (fun t =>
        t.rd reg = bump (h.rd reg) ∧ t.sw = h.sw ∧ RegsKept h t (· == reg) ∧ MemKept h t)
      (o.length < 64 → bad (Reg.ST_CNT_SHORT k)) ∧ (2000 < o.length → bad (Reg.ST_CNT_LONG k)) ∧
      (64 ≤ o.length → o.length ≤ 2000 → fcs = false → bad (Reg.ST_CNT_FCS k)) ∧
      (64 ≤ o.length → o.length ≤ 2000 → fcs = true → ptpEvent o = none → h.ingressFull (5 + k) 3 (36 + padded (16 + o.length)) = false →
        let host (x : Offered) : Prop := x.inp = 5 + k ∧ x.outs = [9] ∧ x.release = true ∧ x.frame.hdr.typ = 8#4 ∧ x.frame.hdr.cls = 3#3 ∧
          x.frame.payload.drop 16 = o
        ((∀ r, r < 16 → h.ruleMatches k r o = false) → (h.rd (Reg.ST_DEFAULT k)).extractLsb' 30 2 = 2#2 →
          ((h.rd (Reg.ST_DEFAULT k)).extractLsb' 27 3).toNat ≤ 2 →
          Completes (.stFrameRx p o fcs raw) ⟨q, h⟩ (fun t =>
            Offers h t host ∧ t.rd (Reg.ST_CNT_RXF k) = bump (h.rd (Reg.ST_CNT_RXF k)) ∧
            t.rd (Reg.ST_CNT_NORULE k) = bump (h.rd (Reg.ST_CNT_NORULE k)) ∧
            RegsKept h t (fun a => a == Reg.ST_CNT_RXF k || a == Reg.ST_CNT_NORULE k) ∧ MemKept h t)) ∧
        (∀ r, (List.range 16).find? (fun r => h.ruleMatches k r o) = some r →
          ((h.rd (Reg.ST_RULE_ACT k r)).extractLsb' 30 2 = 2#2 →
            (((h.rd (Reg.ST_RULE_ACT k r)).extractLsb' 27 3).toNat ≤ 2 →
              Completes (.stFrameRx p o fcs raw) ⟨q, h⟩ (fun t =>
                Offers h t host ∧ t.rd (Reg.ST_CNT_RXF k) = bump (h.rd (Reg.ST_CNT_RXF k)) ∧
                RegsKept h t (· == Reg.ST_CNT_RXF k) ∧ MemKept h t)) ∧
            (2 < ((h.rd (Reg.ST_RULE_ACT k r)).extractLsb' 27 3).toNat →
              Completes (.stFrameRx p o fcs raw) ⟨q, h⟩ (fun t =>
                t.sw = h.sw ∧ t.rd Reg.XB_CNT_TUNVER = bump (h.rd Reg.XB_CNT_TUNVER) ∧
                t.rd (Reg.ST_CNT_RXF k) = bump (h.rd (Reg.ST_CNT_RXF k)) ∧
                t.is Fld.XB_EVT_TUNVER = true ∧ Raised h t Flt.TUNVER 14 ∧
                RegsKept h t (fun a => [Reg.ST_CNT_RXF k, Reg.XB_CNT_TUNVER, Reg.XB_EVT].contains a || satReg a) ∧ MemKept h t))) ∧
          ((h.rd (Reg.ST_RULE_ACT k r)).extractLsb' 30 2 = 0#2 →
            Completes (.stFrameRx p o fcs raw) ⟨q, h⟩ (fun t =>
              t.sw = h.sw ∧ t.rd (Reg.ST_CNT_RXF k) = bump (h.rd (Reg.ST_CNT_RXF k)) ∧
              RegsKept h t (· == Reg.ST_CNT_RXF k) ∧ MemKept h t))))) ∧
    (∀ a rest, inState .run h → h.takes (5 + k) (fun f => f.hdr.typ == 8#4) a rest →
      let o := slice a.frame.payload 16 (word16 a.frame.payload 2)
      Completes (.stTunnelTx p raw) ⟨q, h⟩ (fun t =>
        t.out = .stationFrame k o false :: h.out ∧ t.rd (Reg.ST_CNT_TXF k) = bump (h.rd (Reg.ST_CNT_TXF k)) ∧ t.acts = rest ∧
        (∀ m, ptpEvent o = some m → (a.frame.oct 1).getLsbD 0 = true → (h.st k).stamps.length < 16 →
          (t.st k).stamps = (h.st k).stamps ++ [((o.getD m 0).toNat % 16, word16 o (m + 30),
            h.sampled raw + psUnits (h.get (Fld.ST_LAT_TX k) + h.get (Fld.ST_PHYLAT_TX k)))]) ∧
        RegsKept h t (fun x => x == Reg.ST_CNT_TXF k || x == Reg.ST_CNT_TSOVF k) ∧ MemKept h t)) ∧
    (∀ ty sq st rest, (h.st k).stamps = (ty, sq, st) :: rest → h.allows req (Reg.ST_TSFIFO k) = true →
      Completes (.stTsfifoPop req p) ⟨q, h⟩ (fun t =>
        t.out = .reply req (Reg.ST_TSFIFO k) (BitVec.ofNat 32 (0x80000000 + 0x100000 * ty + sq)) :: h.out ∧ (t.st k).stamps = rest ∧
        t.rd (Reg.ST_TS_NS k) = BitVec.ofNat 32 (Stamp.ns st) ∧ t.rd (Reg.ST_TS_SEC k) = BitVec.ofNat 32 (Stamp.sec st) ∧
        RegsKept h t (fun a => a == Reg.ST_TS_NS k || a == Reg.ST_TS_SEC k) ∧ MemKept h t))

/-! ### Bridle engines and clusters (chapter 08) -/

/-- Table 08.6: the commands of an engine, each refused with BADCMD and no effect outside its state, and the stall that has lasted 1 ms
(R246). START needs IDLE, not armed, a valid configuration (R251); STOP keeps the registers; RESTART clears them; RELEASE also makes the
engine's lines inputs; STEP executes one instruction and does nothing where that would stall. -/
def Obligations.EngineCommands : Prop :=
  ∀ (h : Hub) (q : List Instr) (req : Req) (c e : Fin 8) (expect : BitVec 8),
    (h.accepts (.engine c e) req expect = true →
      (∀ pc : BitVec 6,
        (h.engReady c e = true → h.engValid c e = true →
          Completes (.engineStart req c e expect pc) ⟨q, h⟩ (fun t =>
            CmdEnds t (.engine c e) 1 .done ∧ EngStarted h t c e pc.toNat ∧
            RegsKept h t (fun a => engReg c e a || a == Reg.BRD_ECMDSTAT c e || testReg a) ∧ MemKept h t)) ∧
        (h.engReady c e = false ∨ h.engValid c e = false →
          Completes (.engineStart req c e expect pc) ⟨q, h⟩ (fun t =>
            CmdEnds t (.engine c e) 1 .badcmd ∧ t.unit (.engine c e) = h.unit (.engine c e) ∧ t.eng c e = h.eng c e ∧
            RegsKept h t (· == Reg.BRD_ECMDSTAT c e) ∧ MemKept h t))) ∧
      (h.engRuns c e = true →
        Completes (.engineStop req c e expect) ⟨q, h⟩ (fun t =>
          CmdEnds t (.engine c e) 2 .done ∧ t.engState c e = .idle ∧ t.engPc c e = h.engPc c e ∧ t.eng c e = { h.eng c e with irqWait := false } ∧
          RegsKept h t (fun a => engReg c e a || a == Reg.BRD_ECMDSTAT c e) ∧ MemKept h t) ∧
        Completes (.engineRestart req c e expect) ⟨q, h⟩ (fun t =>
          CmdEnds t (.engine c e) 3 .badcmd ∧ t.unit (.engine c e) = h.unit (.engine c e) ∧ RegsKept h t (· == Reg.BRD_ECMDSTAT c e)) ∧
        Completes (.engineRelease req c e expect) ⟨q, h⟩ (fun t =>
          CmdEnds t (.engine c e) 5 .done ∧ t.engState c e = .idle ∧ t.eng c e = { h.eng c e with irqWait := false } ∧
          (∀ k, k < 32 → t.lineBit c true k = (h.lineBit c true k && !h.owns c e k)) ∧ (∀ k, t.lineBit c false k = h.lineBit c false k) ∧
          RegsKept h t (fun a => engReg c e a || a == Reg.BRD_LINEOE c || a == Reg.BRD_ECMDSTAT c e) ∧ MemKept h t)) ∧
      (h.engState c e = .idle ∨ h.engState c e = .fault →
        Completes (.engineRestart req c e expect) ⟨q, h⟩ (fun t =>
          CmdEnds t (.engine c e) 3 .done ∧ t.engState c e = .idle ∧ t.engArmed c e = h.engArmed c e ∧ t.eng c e = EngineRec.reset ∧
          t.rd (Reg.BRD_EPC c e) = 0#32 ∧ t.engX c e = 0#32 ∧ t.engY c e = 0#32 ∧
          RegsKept h t (fun a => engReg c e a || a == Reg.BRD_EX c e || a == Reg.BRD_EY c e || a == Reg.BRD_ECMDSTAT c e) ∧ MemKept h t) ∧
        Completes (.engineStop req c e expect) ⟨q, h⟩ (fun t =>
          CmdEnds t (.engine c e) 2 .done ∧ t.unit (.engine c e) = h.unit (.engine c e) ∧ RegsKept h t (· == Reg.BRD_ECMDSTAT c e))) ∧
      (∀ (w pins : Word), h.engReady c e = true → h.engWord c e = w → reservedCode w = false →
        (opOf w = 7 → opnd w 13 3 = 1 →
          Completes (.engineStep req c e expect pins) ⟨q, h⟩ (fun t =>
            CmdEnds t (.engine c e) 4 .done ∧ t.engX c e = BitVec.ofNat 32 (opnd w 0 12) ∧ t.engPc c e = h.engNext c e ∧
            t.unit (.engine c e) = h.unit (.engine c e) ∧ t.eng c e = h.eng c e ∧ LinesAfter h t c e w noDrive ∧
            RegsKept h t (fun a => engRunReg c e a || a == Reg.BRD_LINEIN c || a == Reg.BRD_ECMDSTAT c e) ∧ MemKept h t)) ∧
        (opOf w = 1 → opnd w 12 3 = 0 → pins.getLsbD (opnd w 0 5) ≠ w.getLsbD 15 →
          Completes (.engineStep req c e expect pins) ⟨q, h⟩ (fun t =>
            CmdEnds t (.engine c e) 4 .done ∧ t.unit (.engine c e) = h.unit (.engine c e) ∧ t.eng c e = h.eng c e ∧
            RegsKept h t (fun a => a == Reg.BRD_LINEIN c || a == Reg.BRD_ECMDSTAT c e) ∧ MemKept h t)))) ∧
    (h.due (.engStall (engNo c e)) = true → h.engState c e = .run → h.stallReason c e ≠ 0 →
      Completes (.engineStallTimeout c e) ⟨q, h⟩ (fun t =>
        t.engState c e = .stall ∧ (t.unit (engUnit c e)).detail = BitVec.ofNat 12 (h.stallReason c e) ∧ t.eng c e = h.eng c e ∧
        RegsKept h t (fun a => a == Reg.BRD_ESTATE c e || a == Reg.BRD_CSTATE c) ∧ MemKept h t))

/-- Tables 08.3 and 08.4 for the instructions that compute and move: JMP with its tests (XLOOP and YLOOP decrement in every case), MOV,
SET, IN and OUT (R233, R234), with the tails and delays of every instruction (R229 to R231); a jump beyond LEN, a bit count of 0 or
above 32 and a reserved code are faults (R232). -/
def Obligations.EngineArithmetic : Prop :=
  ∀ (h : Hub) (q : List Instr) (c e : Fin 8) (w pins : Word),
    (h.fetches c e w 0 →
      (h.get (Fld.BRD_EWIN_LEN c e) ≤ opnd w 0 6 →
        Completes (.engineJmp c e pins) ⟨q, h⟩ (fun t => EngFaults h t c e 3 ∧
          RegsKept h t (fun a => engReg c e a || a == Reg.BRD_LINEIN c || a == Reg.BRD_EVT c || satReg a) ∧ MemKept h t)) ∧
      (∀ ok : Bool, opnd w 0 6 < h.get (Fld.BRD_EWIN_LEN c e) →
        (match opnd w 12 4 with
          | 0 => ok = true
          | 1 => ok = pins.getLsbD (h.get (Fld.BRD_EPINS_JPIN c e))
          | 2 => ok = (h.engX c e == 0#32)
          | 3 => ok = (h.engY c e == 0#32)
          | 4 => ok = (h.engX c e == h.engY c e)
          | 5 => ok = (h.engX c e != 1#32)
          | 6 => ok = (h.engY c e != 1#32)
          | 7 => ok = (h.eng c e).rise.2
          | 8 => ok = (h.eng c e).fall.2
          | 9 => ok = decide (h.fillTh c e ≤ (h.eng c e).osrCount)
          | 10 => ok = decide (h.drainTh c e ≤ (h.eng c e).isrCount)
          | 11 => ok = (h.eng c e).tx.isEmpty
          | 12 => ok = (decide (h.rxCap c e ≠ 0) && decide (h.rxCap c e ≤ (h.eng c e).rx.length))
          | _ => ok = (h.rd (Reg.BRD_FLAGS c)).getLsbD 0) →
        Completes (.engineJmp c e pins) ⟨q, h⟩ (fun t =>
          EngDone h t c e w (if ok = w.getLsbD 11 then h.engNext c e else opnd w 0 6)
            (if opnd w 12 4 = 5 then h.engX c e - 1 else h.engX c e) (if opnd w 12 4 = 6 then h.engY c e - 1 else h.engY c e) (h.eng c e) noDrive ∧
          RegsKept h t (fun a => engRunReg c e a || a == Reg.BRD_LINEIN c) ∧ MemKept h t))) ∧
    (h.engDue c e = true → h.engWord c e = w → 11 ≤ opOf w →
      Completes (.engineJmp c e pins) ⟨q, h⟩ (fun t => EngFaults h t c e 1 ∧
        RegsKept h t (fun a => engReg c e a || a == Reg.BRD_LINEIN c || a == Reg.BRD_EVT c || satReg a) ∧ MemKept h t)) ∧
    (h.fetches c e w 6 → ∀ x : Word,
      (match opnd w 8 3 with
        | 4 => x = BitVec.ofNat 32 (h.eng c e).tx.length
        | 5 => x = (h.eng c e).isr
        | 6 => x = (h.eng c e).osr
        | 7 => x = BitVec.ofNat 32 (Stamp.ns (h.eng c e).sr)
        | s => h.sourceWord c e pins s x) →
      (∀ v : Word, v = (if opnd w 11 2 = 0 then x else if opnd w 11 2 = 1 then ~~~x else x.reverse) →
        (opnd w 13 3 = 5 → h.get (Fld.BRD_EWIN_LEN c e) ≤ opnd v 0 6 →
          Completes (.engineMov c e pins) ⟨q, h⟩ (fun t => EngFaults h t c e 3 ∧
            RegsKept h t (fun a => engReg c e a || a == Reg.BRD_LINEIN c || a == Reg.BRD_EVT c || satReg a) ∧ MemKept h t)) ∧
        ((opnd w 13 3 = 5 → opnd v 0 6 < h.get (Fld.BRD_EWIN_LEN c e)) → (opnd w 13 3 = 0 → h.get (Fld.BRD_EPINS_OUTCNT c e) ≤ 32) →
          Completes (.engineMov c e pins) ⟨q, h⟩ (fun t =>
            EngDone h t c e w (if opnd w 13 3 = 5 then opnd v 0 6 else h.engNext c e)
              (if opnd w 13 3 = 1 then v else h.engX c e) (if opnd w 13 3 = 2 then v else h.engY c e)
              (if opnd w 13 3 = 6 then { h.eng c e with isr := v, isrCount := 0 }
                else if opnd w 13 3 = 7 then { h.eng c e with osr := v, osrCount := 0 } else h.eng c e)
              (fun dir k => if dir = false ∧ opnd w 13 3 = 0 then
                runBit (h.get (Fld.BRD_EPINS_OUTBASE c e)) (h.get (Fld.BRD_EPINS_OUTCNT c e)) v k else none) ∧
            RegsKept h t (fun a => engRunReg c e a || a == Reg.BRD_LINEIN c) ∧ MemKept h t)))) ∧
    (h.fetches c e w 7 →
      Completes (.engineSet c e) ⟨q, h⟩ (fun t =>
        EngDone h t c e w (h.engNext c e)
          (if opnd w 13 3 = 1 then BitVec.ofNat 32 (opnd w 0 12) else h.engX c e) (if opnd w 13 3 = 2 then BitVec.ofNat 32 (opnd w 0 12) else h.engY c e)
          (h.eng c e)
          (fun dir k => if (dir = false ∧ opnd w 13 3 = 0) ∨ (dir = true ∧ opnd w 13 3 = 4) then
            runBit (h.get (Fld.BRD_EPINS_SETBASE c e)) (h.get (Fld.BRD_EPINS_SETCNT c e)) (BitVec.ofNat 32 (opnd w 0 12)) k else none) ∧
        RegsKept h t (engRunReg c e) ∧ MemKept h t)) ∧
    (h.fetches c e w 2 →
      (opnd w 0 6 = 0 ∨ 32 < opnd w 0 6 →
        Completes (.engineIn c e pins) ⟨q, h⟩ (fun t => EngFaults h t c e 2 ∧
          RegsKept h t (fun a => engReg c e a || a == Reg.BRD_LINEIN c || a == Reg.BRD_EVT c || satReg a) ∧ MemKept h t)) ∧
      (∀ (n : Nat) (b isr : Word) (r : EngineRec), n = opnd w 0 6 → 0 < n → n ≤ 32 → r = h.eng c e → h.sourceWord c e pins (opnd w 13 3) b →
        (∀ k, k < 32 → isr.getLsbD k =
          if h.is (Fld.BRD_ESHIFT_ISHR c e) then (if k < 32 - n then r.isr.getLsbD (k + n) else b.getLsbD (k - (32 - n)))
          else (if k < n then b.getLsbD k else r.isr.getLsbD (k - n))) →
        (h.is (Fld.BRD_ESHIFT_DRAINEN c e) = false ∨ min 32 (r.isrCount + n) < h.drainTh c e →
          Completes (.engineIn c e pins) ⟨q, h⟩ (fun t =>
            EngDone h t c e w (h.engNext c e) (h.engX c e) (h.engY c e) { r with isr := isr, isrCount := min 32 (r.isrCount + n) } noDrive ∧
            RegsKept h t (fun a => engRunReg c e a || a == Reg.BRD_LINEIN c) ∧ MemKept h t)) ∧
        (h.is (Fld.BRD_ESHIFT_DRAINEN c e) = true → h.drainTh c e ≤ min 32 (r.isrCount + n) → h.join c e ≠ 1 →
          (h.rxCap c e ≤ r.rx.length →
            Completes (.engineIn c e pins) ⟨q, h⟩ (fun t => EngStalls h t c e w 3 r.irqWait ∧
              RegsKept h t (fun a => engRunReg c e a || a == Reg.BRD_LINEIN c) ∧ MemKept h t)) ∧
          (r.rx.length < h.rxCap c e → h.is (Fld.BRD_ESHIFT_DRAIN c e) = false →
            Completes (.engineIn c e pins) ⟨q, h⟩ (fun t =>
              EngDone h t c e w (h.engNext c e) (h.engX c e) (h.engY c e) { r with isr := 0, isrCount := 0, rx := r.rx ++ [isr] } noDrive ∧
              RegsKept h t (fun a => engRunReg c e a || a == Reg.BRD_LINEIN c) ∧ MemKept h t))))) ∧
    (h.fetches c e w 3 →
      (opnd w 0 6 = 0 ∨ 32 < opnd w 0 6 →
        Completes (.engineOut c e) ⟨q, h⟩ (fun t => EngFaults h t c e 2 ∧
          RegsKept h t (fun a => engReg c e a || a == Reg.BRD_EVT c || satReg a) ∧ MemKept h t)) ∧
      (∀ (n : Nat) (osr b rest : Word) (cnt : Nat) (tx : List Word) (r : EngineRec), n = opnd w 0 6 → 0 < n → n ≤ 32 → r = h.eng c e →
        (if h.is (Fld.BRD_ESHIFT_FILLEN c e) = true ∧ h.fillTh c e ≤ r.osrCount then r.tx = osr :: tx ∧ cnt = 0
          else osr = r.osr ∧ tx = r.tx ∧ cnt = r.osrCount) →
        (∀ k, k < 32 → b.getLsbD k = (decide (k < n) && osr.getLsbD (if h.is (Fld.BRD_ESHIFT_OSHR c e) then k else 32 - n + k))) →
        (∀ k, k < 32 → rest.getLsbD k =
          (if h.is (Fld.BRD_ESHIFT_OSHR c e) then osr.getLsbD (k + n) else (decide (n ≤ k) && osr.getLsbD (k - n)))) →
        (opnd w 13 3 = 5 → h.get (Fld.BRD_EWIN_LEN c e) ≤ opnd b 0 6 →
          Completes (.engineOut c e) ⟨q, h⟩ (fun t => EngFaults h t c e 3)) ∧
        (opnd w 13 3 ≠ 6 → (opnd w 13 3 = 5 → opnd b 0 6 < h.get (Fld.BRD_EWIN_LEN c e)) →
          Completes (.engineOut c e) ⟨q, h⟩ (fun t =>
            EngDone h t c e w (if opnd w 13 3 = 5 then opnd b 0 6 else h.engNext c e)
              (if opnd w 13 3 = 1 then b else h.engX c e) (if opnd w 13 3 = 2 then b else h.engY c e)
              { r with osr := rest, osrCount := min 32 (cnt + n), tx := tx }
              (fun dir k => if (dir = false ∧ opnd w 13 3 = 0) ∨ (dir = true ∧ opnd w 13 3 = 4) then
                runBit (h.get (Fld.BRD_EPINS_OUTBASE c e)) (min n (h.get (Fld.BRD_EPINS_OUTCNT c e))) b k else none) ∧
            RegsKept h t (engRunReg c e) ∧ MemKept h t)) ∧
        (opnd w 13 3 = 6 →
          Completes (.engineOut c e) ⟨q, h⟩ (fun t =>
            (t.eng c e).isr = b ∧ (t.eng c e).osr = rest ∧ (t.eng c e).tx = tx ∧ t.engPc c e = h.engNext c e ∧
            RegsKept h t (engRunReg c e) ∧ MemKept h t))) ∧
      (0 < opnd w 0 6 → opnd w 0 6 ≤ 32 → h.is (Fld.BRD_ESHIFT_FILLEN c e) = true → h.fillTh c e ≤ (h.eng c e).osrCount → (h.eng c e).tx = [] →
        Completes (.engineOut c e) ⟨q, h⟩ (fun t => EngStalls h t c e w 2 (h.eng c e).irqWait ∧ RegsKept h t (engRunReg c e) ∧ MemKept h t)))

/-- Tables 08.3 and 08.4 for the instructions that wait, and that move words and stamps: WAIT, PUSH, PULL, IRQ, STMP and EMIT (R230,
R233, R237, R240, R241); a queue that JOIN removes and EMIT without DRAIN are faults (R232). -/
def Obligations.EngineQueuesAndWaits : Prop :=
  ∀ (h : Hub) (q : List Instr) (c e : Fin 8) (w : Word) (r : EngineRec), r = h.eng c e →
    (∀ (pins : Word) (ok : Bool), h.fetches c e w 1 →
      (match opnd w 12 3 with
        | 0 => ok = (pins.getLsbD (opnd w 0 5) == w.getLsbD 15)
        | 1 => ok = (pins.getLsbD ((h.get (Fld.BRD_EPINS_INBASE c e) + opnd w 0 5) % 32) == w.getLsbD 15)
        | 2 => ok = ((h.rd (Reg.BRD_FLAGS c)).getLsbD (opnd w 0 5 % 8) == w.getLsbD 15)
        | 3 => ok = ((h.rd (Reg.BRD_FLAGS c)).getLsbD (8 + opnd w 0 5 % 16) == w.getLsbD 15)
        | _ => ok = (if w.getLsbD 15 then r.rise.2 else r.fall.2)) →
      (ok = true → Completes (.engineWait c e pins) ⟨q, h⟩ (fun t =>
        EngDone h t c e w (h.engNext c e) (h.engX c e) (h.engY c e) r noDrive ∧ RegsKept h t (fun a => engRunReg c e a || a == Reg.BRD_LINEIN c) ∧ MemKept h t)) ∧
      (ok = false → Completes (.engineWait c e pins) ⟨q, h⟩ (fun t =>
        EngStalls h t c e w 1 r.irqWait ∧ RegsKept h t (fun a => engRunReg c e a || a == Reg.BRD_LINEIN c) ∧ MemKept h t))) ∧
    (h.fetches c e w 4 →
      (h.join c e = 1 → Completes (.enginePush c e) ⟨q, h⟩ (fun t => EngFaults h t c e 4 ∧
        RegsKept h t (fun a => engReg c e a || a == Reg.BRD_EVT c || satReg a) ∧ MemKept h t)) ∧
      (h.join c e ≠ 1 → w.getLsbD 15 = true → r.isrCount < h.drainTh c e → Completes (.enginePush c e) ⟨q, h⟩ (fun t =>
        EngDone h t c e w (h.engNext c e) (h.engX c e) (h.engY c e) r noDrive ∧ RegsKept h t (engRunReg c e) ∧ MemKept h t)) ∧
      (h.join c e ≠ 1 → (w.getLsbD 15 = true → h.drainTh c e ≤ r.isrCount) →
        (r.rx.length < h.rxCap c e → h.is (Fld.BRD_ESHIFT_DRAIN c e) = false → Completes (.enginePush c e) ⟨q, h⟩ (fun t =>
          EngDone h t c e w (h.engNext c e) (h.engX c e) (h.engY c e) { r with isr := 0, isrCount := 0, rx := r.rx ++ [r.isr] } noDrive ∧
          RegsKept h t (engRunReg c e) ∧ MemKept h t)) ∧
        (r.rx = [] → 0 < h.rxCap c e → h.is (Fld.BRD_ESHIFT_DRAIN c e) = true → h.closedBuffers c e < 2 → r.buffer.length < 63 →
          Completes (.enginePush c e) ⟨q, h⟩ (fun t =>
            EngDone h t c e w (h.engNext c e) (h.engX c e) (h.engY c e) { r with isr := 0, isrCount := 0, buffer := r.buffer ++ [r.isr] } noDrive ∧
            RegsKept h t (engRunReg c e) ∧ MemKept h t)) ∧
        (h.rxCap c e ≤ r.rx.length → w.getLsbD 14 = true → Completes (.enginePush c e) ⟨q, h⟩ (fun t =>
          EngStalls h t c e w 3 r.irqWait ∧ RegsKept h t (engRunReg c e) ∧ MemKept h t)) ∧
        (h.rxCap c e ≤ r.rx.length → w.getLsbD 14 = false → Completes (.enginePush c e) ⟨q, h⟩ (fun t =>
          EngDone h t c e w (h.engNext c e) (h.engX c e) (h.engY c e) { r with isr := 0, isrCount := 0 } noDrive ∧
          t.rd (Reg.BRD_CNT_RXLOST c e) = bump (h.rd (Reg.BRD_CNT_RXLOST c e)) ∧
          RegsKept h t (fun a => engRunReg c e a || a == Reg.BRD_CNT_RXLOST c e) ∧ MemKept h t)))) ∧
    (h.fetches c e w 5 →
      (h.join c e = 2 → Completes (.enginePull c e) ⟨q, h⟩ (fun t => EngFaults h t c e 4 ∧
        RegsKept h t (fun a => engReg c e a || a == Reg.BRD_EVT c || satReg a) ∧ MemKept h t)) ∧
      (h.join c e ≠ 2 → w.getLsbD 15 = true → r.osrCount < h.fillTh c e → Completes (.enginePull c e) ⟨q, h⟩ (fun t =>
        EngDone h t c e w (h.engNext c e) (h.engX c e) (h.engY c e) r noDrive ∧ RegsKept h t (engRunReg c e) ∧ MemKept h t)) ∧
      (h.join c e ≠ 2 → (w.getLsbD 15 = true → h.fillTh c e ≤ r.osrCount) →
        (∀ x tx, r.tx = x :: tx → Completes (.enginePull c e) ⟨q, h⟩ (fun t =>
          EngDone h t c e w (h.engNext c e) (h.engX c e) (h.engY c e) { r with osr := x, osrCount := 0, tx := tx } noDrive ∧
          RegsKept h t (engRunReg c e) ∧ MemKept h t)) ∧
        (r.tx = [] → w.getLsbD 14 = false → Completes (.enginePull c e) ⟨q, h⟩ (fun t =>
          EngDone h t c e w (h.engNext c e) (h.engX c e) (h.engY c e) { r with osr := h.engX c e, osrCount := 0 } noDrive ∧
          RegsKept h t (engRunReg c e) ∧ MemKept h t)) ∧
        (r.tx = [] → w.getLsbD 14 = true → Completes (.enginePull c e) ⟨q, h⟩ (fun t =>
          EngStalls h t c e w 2 r.irqWait ∧ RegsKept h t (engRunReg c e) ∧ MemKept h t)))) ∧
    (h.fetches c e w 8 →
      (w.getLsbD 15 = true ∨ w.getLsbD 14 = false → Completes (.engineIrq c e) ⟨q, h⟩ (fun t =>
        EngDone h t c e w (h.engNext c e) (h.engX c e) (h.engY c e) r noDrive ∧ (t.rd (Reg.BRD_FLAGS c)).getLsbD (opnd w 0 3) = !w.getLsbD 15 ∧
        (∀ k, k ≠ opnd w 0 3 → (t.rd (Reg.BRD_FLAGS c)).getLsbD k = (h.rd (Reg.BRD_FLAGS c)).getLsbD k) ∧
        RegsKept h t (fun a => engRunReg c e a || a == Reg.BRD_FLAGS c) ∧ MemKept h t)) ∧
      (w.getLsbD 15 = false → w.getLsbD 14 = true →
        (r.irqWait = false → Completes (.engineIrq c e) ⟨q, h⟩ (fun t =>
          EngStalls h t c e w 4 true ∧ (t.rd (Reg.BRD_FLAGS c)).getLsbD (opnd w 0 3) = true ∧
          RegsKept h t (fun a => engRunReg c e a || a == Reg.BRD_FLAGS c) ∧ MemKept h t)) ∧
        (r.irqWait = true → (h.rd (Reg.BRD_FLAGS c)).getLsbD (opnd w 0 3) = true → Completes (.engineIrq c e) ⟨q, h⟩ (fun t =>
          EngStalls h t c e w 4 true ∧ RegsKept h t (engRunReg c e) ∧ MemKept h t)) ∧
        (r.irqWait = true → (h.rd (Reg.BRD_FLAGS c)).getLsbD (opnd w 0 3) = false → Completes (.engineIrq c e) ⟨q, h⟩ (fun t =>
          EngDone h t c e w (h.engNext c e) (h.engX c e) (h.engY c e) r noDrive ∧ RegsKept h t (engRunReg c e) ∧ MemKept h t)))) ∧
    (h.fetches c e w 9 →
      (∀ sr, w.getLsbD 14 = false →
        (if w.getLsbD 12 then sr = r.sr else if w.getLsbD 15 then (if w.getLsbD 13 then r.rise else r.fall) = (sr, true) else sr = h.now) →
        Completes (.engineStmp c e) ⟨q, h⟩ (fun t =>
          EngDone h t c e w (h.engNext c e) (h.engX c e) (h.engY c e)
            { r with sr := sr, rise := if w.getLsbD 12 = false ∧ w.getLsbD 15 = true ∧ w.getLsbD 13 = true then (r.rise.1, false) else r.rise,
                     fall := if w.getLsbD 12 = false ∧ w.getLsbD 15 = true ∧ w.getLsbD 13 = false then (r.fall.1, false) else r.fall } noDrive ∧
          RegsKept h t (engRunReg c e) ∧ MemKept h t)) ∧
      (w.getLsbD 14 = true → w.getLsbD 15 = false → w.getLsbD 12 = false → h.join c e ≠ 1 → h.is (Fld.BRD_ESHIFT_DRAIN c e) = false →
        r.rx.length + 3 ≤ h.rxCap c e →
        Completes (.engineStmp c e) ⟨q, h⟩ (fun t =>
          EngDone h t c e w (h.engNext c e) (h.engX c e) (h.engY c e)
            { r with sr := h.now, rx := r.rx ++ [BitVec.ofNat 32 (Stamp.ns h.now), BitVec.ofNat 32 (Stamp.sec h.now),
              BitVec.ofNat 32 (Stamp.frac h.now * 0x10000 + Stamp.sec h.now / 0x100000000 % 0x10000)] } noDrive ∧
          RegsKept h t (engRunReg c e) ∧ MemKept h t)) ∧
      (w.getLsbD 12 = false → w.getLsbD 15 = true → (w.getLsbD 14 = true → h.join c e ≠ 1) →
        (if w.getLsbD 13 then r.rise.2 else r.fall.2) = false → Completes (.engineStmp c e) ⟨q, h⟩ (fun t =>
          EngStalls h t c e w 5 r.irqWait ∧ RegsKept h t (engRunReg c e) ∧ MemKept h t))) ∧
    (h.fetches c e w 10 →
      (h.is (Fld.BRD_ESHIFT_DRAIN c e) = false → Completes (.engineEmit c e) ⟨q, h⟩ (fun t => EngFaults h t c e 4 ∧
        RegsKept h t (fun a => engReg c e a || a == Reg.BRD_EVT c || satReg a) ∧ MemKept h t)) ∧
      (h.is (Fld.BRD_ESHIFT_DRAIN c e) = true →
        (2 ≤ h.closedBuffers c e → Completes (.engineEmit c e) ⟨q, h⟩ (fun t =>
          EngStalls h t c e w 6 r.irqWait ∧ RegsKept h t (engRunReg c e) ∧ MemKept h t)) ∧
        (h.closedBuffers c e < 2 → r.buffer = [] → Completes (.engineEmit c e) ⟨q, h⟩ (fun t =>
          EngDone h t c e w (h.engNext c e) (h.engX c e) (h.engY c e) r noDrive ∧ RegsKept h t (engRunReg c e) ∧ MemKept h t)) ∧
        (h.closedBuffers c e < 2 → r.buffer ≠ [] → r.buffer.length ≤ 64 → h.get (Fld.BRD_ESTR_DHUB c e) = 0 → h.get (Fld.BRD_ESTR_PORT c e) = 10 →
          Completes (.engineEmit c e) ⟨q, h⟩ (fun t =>
            EngDone h t c e w (h.engNext c e) (h.engX c e) (h.engY c e) { r with buffer := [] } noDrive ∧
            Offers h t (fun x => x.inp = 11 + c.val ∧ x.frame.hdr.typ = 4#4 ∧ x.frame.hdr.cls = 1#3 ∧
              x.frame.hdr.stamp = Stamp.toFrame (if w.getLsbD 15 then r.sr else h.now) ∧
              x.frame.payload = r.buffer.flatMap (fun v => beBytes 4 v.toNat)) ∧
            t.rd (Reg.BRD_CNT_FRAMES c e) = bump (h.rd (Reg.BRD_CNT_FRAMES c e)) ∧
            RegsKept h t (fun a => engRunReg c e a || a == Reg.BRD_CNT_FRAMES c e) ∧ MemKept h t))))

/-- Table 08.7 and R243 to R246: SYNC and wire starts start the ready engines of a mask and count those that are not; ARM takes T, at
least 2 us ahead, for engines that are all IDLE; DISARM undoes it; STOP stops a mask; at T the armed engines start, flagged where the time
is not LOCKED. Wire flags 0 to 15 take the level of the message. R226: a PLL loss takes the cluster to FAULT and its engines to OFF; the
relock brings it back with its engines cleared. -/
def Obligations.ClusterCommands : Prop :=
  ∀ (h : Hub) (q : List Instr) (req : Req) (c : Fin 8) (expect mask : BitVec 8),
    (h.accepts (.cluster c) req expect = true →
      Completes (.clusterSync req c expect mask) ⟨q, h⟩ (fun t =>
        CmdEnds t (.cluster c) 1 .done ∧
        (∀ e : Fin 8, mask.getLsbD e = true → h.engReady c e = true → h.engValid c e = true → EngStarted h t c e (h.engPc c e)) ∧
        (∀ e : Fin 8, mask.getLsbD e = false ∨ h.engReady c e = false → t.unit (.engine c e) = h.unit (.engine c e) ∧ t.eng c e = h.eng c e) ∧
        ((∃ e : Fin 8, mask.getLsbD e = true ∧ h.engReady c e = false) → t.is (Fld.BRD_EVT_STARTMISS c) = true) ∧
        t.rd (Reg.BRD_CNT_STARTMISS c) = BitVec.ofNat 32 (min 0xFFFFFFFF ((h.rd (Reg.BRD_CNT_STARTMISS c)).toNat +
          ((List.range 8).filter (fun e => mask.getLsbD e && !h.engReady c e)).length)) ∧
        RegsKept h t (fun a => cluReg c a || a == Reg.BRD_CCMDSTAT c || a == Reg.BRD_CNT_STARTMISS c || a == Reg.BRD_EVT c || testReg a) ∧ MemKept h t) ∧
      ((h.tmsT c < h.now + nsec 2000 ∨ (∃ e : Fin 8, h.engArmed c e = true ∨ (mask.getLsbD e = true ∧ h.engState c e ≠ .idle))) →
        Completes (.clusterArm req c expect mask) ⟨q, h⟩ (fun t =>
          CmdEnds t (.cluster c) 2 .badcmd ∧ (∀ e : Fin 8, t.unit (.engine c e) = h.unit (.engine c e)) ∧ t.armT c = h.armT c ∧
          RegsKept h t (· == Reg.BRD_CCMDSTAT c) ∧ MemKept h t)) ∧
      (h.now + nsec 2000 ≤ h.tmsT c → (∀ e : Fin 8, h.engArmed c e = false ∧ (mask.getLsbD e = true → h.engState c e = .idle)) →
        Completes (.clusterArm req c expect mask) ⟨q, h⟩ (fun t =>
          CmdEnds t (.cluster c) 2 .done ∧ (∀ e : Fin 8, t.engArmed c e = mask.getLsbD e ∧ t.engState c e = h.engState c e) ∧ t.armT c = h.tmsT c ∧
          RegsKept h t (fun a => cluReg c a || a == Reg.BRD_CCMDSTAT c) ∧ MemKept h t)) ∧
      Completes (.clusterDisarm req c expect mask) ⟨q, h⟩ (fun t =>
        CmdEnds t (.cluster c) 3 .done ∧
        (∀ e : Fin 8, mask.getLsbD e = true → t.engArmed c e = false ∧ (h.engArmed c e = true → t.engState c e = .idle)) ∧
        (∀ e : Fin 8, mask.getLsbD e = false ∨ h.engArmed c e = false → t.unit (.engine c e) = h.unit (.engine c e)) ∧
        RegsKept h t (fun a => cluReg c a || a == Reg.BRD_CCMDSTAT c) ∧ MemKept h t) ∧
      Completes (.clusterStop req c expect mask) ⟨q, h⟩ (fun t =>
        CmdEnds t (.cluster c) 4 .done ∧
        (∀ e : Fin 8, mask.getLsbD e = true → h.engRuns c e = true → t.engState c e = .idle ∧ t.engPc c e = h.engPc c e) ∧
        (∀ e : Fin 8, mask.getLsbD e = false ∨ h.engRuns c e = false → t.unit (.engine c e) = h.unit (.engine c e) ∧ t.eng c e = h.eng c e) ∧
        RegsKept h t (fun a => cluReg c a || a == Reg.BRD_CCMDSTAT c) ∧ MemKept h t)) ∧
    (h.armT c ≤ h.now → (∃ e : Fin 8, h.engArmed c e = true) →
      Completes (.engineTimedStart c) ⟨q, h⟩ (fun t =>
        (∀ e : Fin 8, h.engArmed c e = true → h.engValid c e = true → EngStarted h t c e (h.engPc c e) ∧ t.engArmed c e = false) ∧
        (∀ e : Fin 8, h.engArmed c e = false → t.unit (.engine c e) = h.unit (.engine c e) ∧ t.eng c e = h.eng c e) ∧
        (h.get Fld.TIME_STATUS_LOCK ≠ 1 → t.is (Fld.BRD_EVT_TMSUNLOCK c) = true) ∧
        RegsKept h t (fun a => cluReg c a || a == Reg.BRD_EVT c || testReg a) ∧ MemKept h t)) ∧
    (∀ a rest, h.takes (11 + c) (fun f => f.hdr.typ == 10 && !(decide (0x100 ≤ wireIndex f) && decide (wireIndex f ≤ 0x2FF))) a rest →
      (wireIndex a.frame ≤ 15 →
        Completes (.wireFlagRx c) ⟨q, h⟩ (fun t =>
          (∀ k, k < 32 → (t.rd (Reg.BRD_FLAGS c)).getLsbD k =
            if k = 8 + wireIndex a.frame then a.frame.hdr.arg.getLsbD 16 else (h.rd (Reg.BRD_FLAGS c)).getLsbD k) ∧
          t.acts = rest ∧ RegsKept h t (· == Reg.BRD_FLAGS c) ∧ MemKept h t)) ∧
      (15 < wireIndex a.frame →
        Completes (.wireFlagRx c) ⟨q, h⟩ (fun t =>
          t.rd (Reg.BRD_CNT_WIREBAD c) = bump (h.rd (Reg.BRD_CNT_WIREBAD c)) ∧ t.acts = rest ∧ RegsKept h t (· == Reg.BRD_CNT_WIREBAD c) ∧
          MemKept h t))) ∧
    (∀ a rest, h.takes (11 + c) (fun f => f.hdr.typ == 10 && decide (0x100 ≤ wireIndex f) && decide (wireIndex f ≤ 0x1FF)) a rest →
      Completes (.wireStartRx c) ⟨q, h⟩ (fun t =>
        (∀ e : Fin 8, a.frame.hdr.arg.getLsbD e = true → h.engReady c e = true → h.engValid c e = true → EngStarted h t c e (h.engPc c e)) ∧
        (∀ e : Fin 8, a.frame.hdr.arg.getLsbD e = false ∨ h.engReady c e = false → t.unit (.engine c e) = h.unit (.engine c e)) ∧
        ((∃ e : Fin 8, a.frame.hdr.arg.getLsbD e = true ∧ h.engReady c e = false) → t.is (Fld.BRD_EVT_STARTMISS c) = true) ∧ t.acts = rest ∧
        RegsKept h t (fun x => cluReg c x || x == Reg.BRD_CNT_STARTMISS c || x == Reg.BRD_EVT c || testReg x) ∧ MemKept h t)) ∧
    (∀ a rest, h.takes (11 + c) (fun f => f.hdr.typ == 10 && decide (0x200 ≤ wireIndex f) && decide (wireIndex f ≤ 0x2FF)) a rest →
      Completes (.wireStopRx c) ⟨q, h⟩ (fun t =>
        (∀ e : Fin 8, a.frame.hdr.arg.getLsbD e = true → h.engRuns c e = true → t.engState c e = .idle ∧ t.engPc c e = h.engPc c e) ∧
        (∀ e : Fin 8, a.frame.hdr.arg.getLsbD e = false ∨ h.engRuns c e = false → t.unit (.engine c e) = h.unit (.engine c e)) ∧ t.acts = rest ∧
        RegsKept h t (cluReg c) ∧ MemKept h t)) ∧
    ((h.unit (.cluster c)).state = .run →
      Completes (.clusterPllLoss c) ⟨q, h⟩ (fun t =>
        (t.unit (.cluster c)).state = .fault ∧ (∀ e : Fin 8, t.engState c e = .off) ∧ (∀ dir k, t.lineBit c dir k = h.lineBit c dir k) ∧
        t.is (Fld.BRD_EVT_CLPLL c) = true ∧ Raised h t Flt.CLPLL (15 + c) ∧
        RegsKept h t (fun a => cluReg c a || a == Reg.BRD_EVT c || satReg a) ∧ MemKept h t)) ∧
    ((h.unit (.cluster c)).state = .fault →
      Completes (.clusterPllRelock c) ⟨q, h⟩ (fun t =>
        (t.unit (.cluster c)).state = .run ∧ (∀ e : Fin 8, t.engState c e = .idle ∧ t.engArmed c e = false ∧ t.eng c e = EngineRec.reset ∧
          t.engPc c e = 0 ∧ t.engX c e = 0#32 ∧ t.engY c e = 0#32) ∧ (∀ dir k, t.lineBit c dir k = h.lineBit c dir k) ∧
        RegsKept h t (fun a => cluReg c a || (List.range 8).any (fun e => a == Reg.BRD_EX c e || a == Reg.BRD_EY c e)) ∧ MemKept h t))

/-- R235, R236, R238, R239, R242: a level that has not held for FILT is no edge; an edge of a line that is selected and outside its gap is sent as an event with its corrected stamp and the
count of edges since the last one; one within the gap is only counted and remembered, and sent at the gap's end where the level differs
from the one reported; the edge registers of the engines that watch the line take every edge. Stream frames and host writes fill the TX
queues, a host read pops the RX queue. -/
def Obligations.EdgesAndHostQueues : Prop :=
  ∀ (h : Hub) (q : List Instr) (req : Req) (c e : Fin 8) (k : Fin 32) (level : Bool) (raw : Sample),
    ((h.unit (.cluster c)).state ≠ .run ∨ h.now < h.sampled raw + nsec (h.get (Fld.BRD_EDGEFLT_FILT c)) →
      Completes (.lineEdge c k level raw) ⟨q, h⟩ (fun t =>
        (∀ j, j < 32 → (t.rd (Reg.BRD_LINEIN c)).getLsbD j = if j = k then level else (h.rd (Reg.BRD_LINEIN c)).getLsbD j) ∧
        RegsKept h t (· == Reg.BRD_LINEIN c) ∧ MemKept h t)) ∧
    (∀ stamp : Stamp, (h.unit (.cluster c)).state = .run → h.sampled raw + nsec (h.get (Fld.BRD_EDGEFLT_FILT c)) ≤ h.now →
      stamp = h.sampled raw - h.get (Fld.BRD_LAT_IN_LAT c) * 65536 / 1000 →
      Completes (.lineEdge c k level raw) ⟨q, h⟩ (fun t =>
        (t.rd (Reg.BRD_LINEIN c)).getLsbD k = level ∧
        (h.get (Fld.BRD_EPINS_JPIN c e) = k →
          t.eng c e = if level then { h.eng c e with rise := (stamp, true) } else { h.eng c e with fall := (stamp, true) }) ∧
        (h.get (Fld.BRD_EPINS_JPIN c e) ≠ k → t.eng c e = h.eng c e) ∧
        (h.armed (.edgeGap (32 * c + k)) = true →
          t.line c k = ⟨(h.line c k).reported, some (stamp, level), min 0xFFFF ((h.line c k).missed + 1)⟩ ∧ t.sw = h.sw ∧
          t.rd (Reg.BRD_CNT_EDGESUP c) = bump (h.rd (Reg.BRD_CNT_EDGESUP c)) ∧
          RegsKept h t (fun a => (List.range 8).any (fun e => a == Reg.BRD_EQLVL c e) ||
            [Reg.BRD_LINEIN c, Reg.BRD_CNT_EDGEOVR c, Reg.BRD_EVT c, Reg.BRD_CNT_EDGESUP c].contains a) ∧ MemKept h t) ∧
        (h.armed (.edgeGap (32 * c + k)) = false → h.edgeSelected c k level = true →
          t.line c k = ⟨level, none, 0⟩ ∧ t.timerAt (.edgeGap (32 * c + k)) (h.clock + 1000 * h.get (Fld.BRD_EDGEFLT_GAP c)) ∧
          t.rd (Reg.BRD_CNT_EDGEEVT c) = bump (h.rd (Reg.BRD_CNT_EDGEEVT c)) ∧ MemKept h t ∧
          (h.get (Fld.BRD_EDGESTR_DHUB c) = 0 → h.get (Fld.BRD_EDGESTR_PORT c) = 10 →
            Offers h t (fun x => x.inp = 11 + c.val ∧ x.frame.hdr.typ = 3#4 ∧ x.frame.hdr.sub = 2#6 ∧
              x.frame.payload = beBytes 10 stamp.toFrame.toNat ++ beBytes 2 (h.line c k).missed ++ [0, 0, 0, 0])) ∧
          RegsKept h t (fun a => (List.range 8).any (fun e => a == Reg.BRD_EQLVL c e) ||
            [Reg.BRD_LINEIN c, Reg.BRD_CNT_EDGEOVR c, Reg.BRD_EVT c, Reg.BRD_CNT_EDGEEVT c, Reg.MBR_CNT_EARLY].contains a)) ∧
        (h.armed (.edgeGap (32 * c + k)) = false → h.edgeSelected c k level = false →
          t.line c k = { h.line c k with missed := min 0xFFFF ((h.line c k).missed + 1) } ∧ t.sw = h.sw ∧
          RegsKept h t (fun a => (List.range 8).any (fun e => a == Reg.BRD_EQLVL c e) || [Reg.BRD_LINEIN c, Reg.BRD_CNT_EDGEOVR c, Reg.BRD_EVT c].contains a) ∧
          MemKept h t))) ∧
    (h.due (.edgeGap (32 * c + k)) = true →
      (∀ stamp lv, (h.line c k).latest = some (stamp, lv) → lv ≠ (h.line c k).reported →
        Completes (.edgeGapEnd c k) ⟨q, h⟩ (fun t =>
          t.line c k = ⟨lv, none, 0⟩ ∧ t.timerAt (.edgeGap (32 * c + k)) (h.clock + 1000 * h.get (Fld.BRD_EDGEFLT_GAP c)) ∧
          t.rd (Reg.BRD_CNT_EDGEEVT c) = bump (h.rd (Reg.BRD_CNT_EDGEEVT c)) ∧
          RegsKept h t (fun a => a == Reg.BRD_CNT_EDGEEVT c || a == Reg.MBR_CNT_EARLY) ∧ MemKept h t)) ∧
      ((h.line c k).latest = none →
        Completes (.edgeGapEnd c k) ⟨q, h⟩ (fun t =>
          h.line c k = t.line c k ∧ t.armed (.edgeGap (32 * c + k)) = false ∧ RegsKept h t (fun _ => false) ∧ MemKept h t))) ∧
    (∀ a rest n, h.takes (11 + c) (fun f => f.hdr.typ == 4) a rest → (a.frame.hdr.arg.extractLsb' 36 3).toNat = e →
      n = (a.frame.hdr.arg.extractLsb' 0 8).toNat →
      (h.is (Fld.BRD_ESHIFT_FEED c e) = true → (h.eng c e).tx.length + n ≤ h.txCap c e →
        Completes (.streamFill c) ⟨q, h⟩ (fun t =>
          t.eng c e = { h.eng c e with tx := (h.eng c e).tx ++ (List.range n).map (fun j => BitVec.ofNat 32 (ofBe (slice a.frame.payload (4 * j) 4))) } ∧
          t.acts = rest ∧ RegsKept h t (· == Reg.BRD_EQLVL c e) ∧ MemKept h t)) ∧
      (h.is (Fld.BRD_ESHIFT_FEED c e) = false ∨ h.txCap c e < (h.eng c e).tx.length + n →
        Completes (.streamFill c) ⟨q, h⟩ (fun t =>
          t.eng c e = h.eng c e ∧ t.rd (Reg.BRD_CNT_FILLLOST c e) = bump (h.rd (Reg.BRD_CNT_FILLLOST c e)) ∧ Raised h t Flt.FILLLOST (15 + c) ∧
          t.acts = rest ∧ RegsKept h t (fun x => x == Reg.BRD_CNT_FILLLOST c e || satReg x) ∧ MemKept h t))) ∧
    (∀ w : Word, h.allows req (Reg.BRD_TXQ c e) = true →
      (h.is (Fld.BRD_ESHIFT_FEED c e) = false → (h.eng c e).tx.length < h.txCap c e →
        Completes (.txqPush req c e w) ⟨q, h⟩ (fun t =>
          t.eng c e = { h.eng c e with tx := (h.eng c e).tx ++ [w] } ∧ RegsKept h t (· == Reg.BRD_EQLVL c e) ∧ MemKept h t)) ∧
      (h.is (Fld.BRD_ESHIFT_FEED c e) = true ∨ h.txCap c e ≤ (h.eng c e).tx.length →
        Completes (.txqPush req c e w) ⟨q, h⟩ (fun t =>
          t.eng c e = h.eng c e ∧ t.is ⟨Reg.BRD_EVT c, 16 + e, 1⟩ = true ∧ RegsKept h t (· == Reg.BRD_EVT c) ∧ MemKept h t))) ∧
    (h.allows req (Reg.BRD_RXQ c e) = true →
      (∀ x rx, h.is (Fld.BRD_ESHIFT_DRAIN c e) = false → (h.eng c e).rx = x :: rx →
        Completes (.rxqPop req c e) ⟨q, h⟩ (fun t =>
          t.out = .reply req (Reg.BRD_RXQ c e) x :: h.out ∧ t.eng c e = { h.eng c e with rx := rx } ∧
          RegsKept h t (· == Reg.BRD_EQLVL c e) ∧ MemKept h t)) ∧
      (h.is (Fld.BRD_ESHIFT_DRAIN c e) = true ∨ (h.eng c e).rx = [] →
        Completes (.rxqPop req c e) ⟨q, h⟩ (fun t =>
          t.out = .reply req (Reg.BRD_RXQ c e) 0#32 :: h.out ∧ t.eng c e = h.eng c e ∧ RegsKept h t (fun _ => false) ∧ MemKept h t)))

/-! ### Sensed inputs and guarded outputs (chapter 09) -/

/-- R252 to R254, R260, R30 to R32: ENABLE starts reference sampling, each sample enters the mean of 16, and 16 ms later the group runs
with its threshold at once on the target; then T moves by at most SLEW every 16 ms, held within TMIN to TMAX, SAT and FLT_SENSAT at a
bound; DISABLE takes the group to OFF with its levels clear. -/
def Obligations.SensedThreshold : Prop :=
  ∀ (h : Hub) (q : List Instr) (req : Req) (g : Fin 8) (expect : BitVec 8) (uv : Nat),
    (h.grpState g = .idle ∨ h.grpState g = .run → h.ready (.siref g) = true → (∀ x ∈ (h.grp g).samples, x ≤ 4095) →
      Completes (.sirefSample g uv) ⟨q, h⟩ (fun t =>
        (t.grp g).samples = (adcCode uv :: (h.grp g).samples).take 16 ∧ t.timerAt (.siref g) (h.dueAt (.siref g) + ms 1) ∧
        (15 ≤ (h.grp g).samples.length → t.get (Fld.SEN_GREF_V g) = (t.grp g).samples.foldl (· + ·) 0 / 16) ∧
        t.get (Fld.SEN_GREF_T g) = h.get (Fld.SEN_GREF_T g) ∧ RegsKept h t (· == Reg.SEN_GREF g) ∧ MemKept h t)) ∧
    (∀ w lo hi T T' slew : Nat, h.grpState g = .run → h.due (.threshold g) = true →
      w = (2 * h.get (Fld.SEN_GCFG_K g) * (h.grp g).samples.foldl (· + ·) 0 + 16384) / 32768 →
      lo = h.get (Fld.SEN_GBND_TMIN g) → hi = h.get (Fld.SEN_GBND_TMAX g) → T = h.get (Fld.SEN_GREF_T g) →
      slew = max 1 (h.get (Fld.SEN_GCFG_SLEW g)) → T' = max lo (min hi (if T ≤ w then min w (T + slew) else max w (T - slew))) →
      Completes (.thresholdUpdate g) ⟨q, h⟩ (fun t =>
        t.get (Fld.SEN_GREF_T g) = T' ∧ t.is (Fld.SEN_GREF_SAT g) = (decide (lo ≠ hi) && (T' == lo || T' == hi)) ∧
        t.timerAt (.threshold g) (h.dueAt (.threshold g) + ms 16) ∧
        ((h.grp g).satHeld = false → lo ≠ hi → T' = lo ∨ T' = hi → Raised h t Flt.SENSAT 24 ∧ (t.grp g).satHeld = true) ∧
        ((h.grp g).satHeld = true → h.armed (.sensat g) = false → lo = hi ∨ (T' ≠ lo ∧ T' ≠ hi) → t.timerAt (.sensat g) (h.clock + ms 1000)) ∧
        RegsKept h t (fun a => a == Reg.SEN_GREF g || a == Reg.SEN_GSTATE g || satReg a) ∧ MemKept h t)) ∧
    (h.due (.sensat g) = true →
      Completes (.sensatRelease g) ⟨q, h⟩ (fun t =>
        t.grp g = { h.grp g with satHeld := false } ∧ t.armed (.sensat g) = false ∧ RegsKept h t (fun _ => false) ∧ MemKept h t)) ∧
    (h.grpState g = .idle → h.due (.senFirst g) = true →
      Completes (.senFirstThreshold g) ⟨q, h⟩ (fun t =>
        t.grpState g = .run ∧ t.get (Fld.SEN_GREF_T g) = h.senClamp g (h.senTarget g) ∧ (t.grp g).runAt = h.now ∧
        t.timerAt (.threshold g) (h.clock + ms 16) ∧ t.timerAt (.chatter g) (h.clock + h.chatWindow) ∧
        (t.grp g).initLeft = (grpLines g).filter h.senEn ∧
        (∀ n ∈ grpLines g, h.senEn n = true → (t.sns n).firstEnd = none ∧ (t.sns n).since = h.now ∧ t.timerAt (.debounce n) (h.clock + us (h.senDebounce n))) ∧
        RegsKept h t (fun a => a == Reg.SEN_GREF g || a == Reg.SEN_GSTATE g || satReg a) ∧ MemKept h t)) ∧
    (h.accepts (.sensed g) req expect = true →
      (h.is (Fld.SEN_GCFG_EN g) = true → h.grpState g = .off →
        Completes (.senEnable req g expect) ⟨q, h⟩ (fun t =>
          CmdEnds t (.sensed g) 2 .done ∧ t.grpState g = .idle ∧ (t.grp g).samples = [] ∧ t.timerAt (.senFirst g) (h.clock + ms 16) ∧
          RegsKept h t (fun a => a == Reg.SEN_GSTATE g || a == Reg.SEN_GCMDSTAT g) ∧ MemKept h t)) ∧
      (h.is (Fld.SEN_GCFG_EN g) = false →
        Completes (.senEnable req g expect) ⟨q, h⟩ (fun t =>
          CmdEnds t (.sensed g) 2 .denied ∧ t.unit (.sensed g) = h.unit (.sensed g) ∧ RegsKept h t (· == Reg.SEN_GCMDSTAT g) ∧ MemKept h t)) ∧
      (h.grpState g ≠ .off →
        Completes (.senDisable req g expect) ⟨q, h⟩ (fun t =>
          CmdEnds t (.sensed g) 1 .done ∧ t.grpState g = .off ∧ (∀ n ∈ grpLines g, t.is (senLevel n) = false ∧ t.is (senChat n) = false) ∧
          (h.grpState g = .idle ∨ h.is Fld.TIME_STATUS_OPEN = false → t.sw = h.sw ∧ t.rd Reg.SEN_CNT_EVT = h.rd Reg.SEN_CNT_EVT) ∧
          RegsKept h t (fun a => [Reg.SEN_GSTATE g, Reg.SEN_GCMDSTAT g, Reg.SEN_LEVEL0, Reg.SEN_LEVEL1, Reg.SEN_CHAT0, Reg.SEN_CHAT1,
            Reg.SEN_CNT_EVT, Reg.MBR_CNT_EARLY].contains a) ∧ MemKept h t)))

/-- R256 to R259: a comparator transition starts the line's debounce, a return to the accepted level ends it, DEBOUNCE 0 accepts at once;
the first debounce of a run settles the level and lets the line's INIT event follow in line order, with the release stage open; a later one is an accepted change: an event where the polarity is selected, else a missed
one; at CHATMAX changes in a window the line enters chatter, and leaves it after a whole window of at most CHATREL. -/
def Obligations.SensedLines : Prop :=
  ∀ (h : Hub) (q : List Instr) (n : Fin 64) (level : Bool) (raw : Sample), h.grpState (n / 8) = .run →
    (∀ r : SenseRec, r = h.sns n → r.comp = !level → h.senEn n = true → 0 < h.senDebounce n →
      (r.firstEnd = none ∨ h.is (senLevel n) = !level →
        Completes (.comparatorTransition n level raw) ⟨q, h⟩ (fun t =>
          t.sns n = { r with comp := level, since := h.sampled raw - h.get Fld.SEN_LAT_IN_LAT * 65536 / 1000 } ∧
          t.timerAt (.debounce n) (h.clock + us (h.senDebounce n)) ∧ RegsKept h t (fun _ => false) ∧ MemKept h t)) ∧
      (r.firstEnd ≠ none → h.is (senLevel n) = level →
        Completes (.comparatorTransition n level raw) ⟨q, h⟩ (fun t =>
          t.sns n = { r with comp := level } ∧ t.armed (.debounce n) = false ∧ RegsKept h t (fun _ => false) ∧ MemKept h t))) ∧
    (∀ (r : SenseRec) (order : Stamp), r = h.sns n → h.due (.debounce n) = true → order = r.since + nsec (1000 * h.senDebounce n) →
      (r.firstEnd = none → h.is Fld.TIME_STATUS_OPEN = false →
        Completes (.debounceEnd n) ⟨q, h⟩ (fun t =>
          t.is (senLevel n) = r.comp ∧ t.sns n = { r with firstEnd := some order, lastStart := r.since } ∧
          RegsKept h t (· == (senLevel n).reg) ∧ MemKept h t)) ∧
      (∀ rest, r.firstEnd = none → h.is Fld.TIME_STATUS_OPEN = true → (h.grp (n / 8)).initLeft = n.val :: rest →
        (∀ k, rest.head? = some k → k ≠ n.val ∧ (h.sns k).firstEnd = none) →
        Completes (.debounceEnd n) ⟨q, h⟩ (fun t =>
          t.is (senLevel n) = r.comp ∧ (t.grp (n / 8)).initLeft = rest ∧ t.rd Reg.SEN_CNT_EVT = bump (h.rd Reg.SEN_CNT_EVT) ∧
          (h.get (Fld.SEN_GSTR_DHUB (n / 8)) = 0 → h.get (Fld.SEN_GSTR_PORT (n / 8)) = 10 →
            Offers h t (fun x => x.inp = 20 ∧ x.frame.hdr.typ = 3#4 ∧ x.frame.hdr.sub = 1#6 ∧ x.frame.hdr.stamp = Stamp.toFrame (max order h.time.opened))) ∧
          RegsKept h t (fun a => [(senLevel n).reg, Reg.SEN_GSTATE (n / 8), Reg.SEN_CNT_EVT, Reg.MBR_CNT_EARLY].contains a) ∧ MemKept h t)) ∧
      (r.firstEnd ≠ none → h.is (senLevel n) = r.comp →
        Completes (.debounceEnd n) ⟨q, h⟩ (fun t => t.sns n = r ∧ t.armed (.debounce n) = false ∧ RegsKept h t (fun _ => false) ∧ MemKept h t)) ∧
      (r.firstEnd ≠ none → h.is (senLevel n) = !r.comp → h.is (senChat n) = false →
        (h.get Fld.SEN_CHATCFG_CHATMAX = 0 ∨ r.changes + 1 < h.get Fld.SEN_CHATCFG_CHATMAX →
          ((h.get (Fld.SEN_LCFG_EDGE (n / 8) (n % 8))) / (if r.comp then 1 else 2) % 2 = 0 ∨ h.is Fld.TIME_STATUS_OPEN = false →
            Completes (.debounceEnd n) ⟨q, h⟩ (fun t =>
              t.is (senLevel n) = r.comp ∧ t.sns n = { r with lastStart := r.since, changes := r.changes + 1, missed := min 0xFFFF (r.missed + 1) } ∧
              t.sw = h.sw ∧ RegsKept h t (· == (senLevel n).reg) ∧ MemKept h t)) ∧
          ((h.get (Fld.SEN_LCFG_EDGE (n / 8) (n % 8))) / (if r.comp then 1 else 2) % 2 = 1 → h.is Fld.TIME_STATUS_OPEN = true →
            Completes (.debounceEnd n) ⟨q, h⟩ (fun t =>
              t.is (senLevel n) = r.comp ∧ t.sns n = { r with lastStart := r.since, changes := r.changes + 1, missed := 0 } ∧
              t.rd Reg.SEN_CNT_EVT = bump (h.rd Reg.SEN_CNT_EVT) ∧
              (h.get (Fld.SEN_GSTR_DHUB (n / 8)) = 0 → h.get (Fld.SEN_GSTR_PORT (n / 8)) = 10 →
                Offers h t (fun x => x.inp = 20 ∧ x.frame.hdr.typ = 3#4 ∧ x.frame.hdr.sub = 1#6 ∧ x.frame.hdr.stamp = order.toFrame ∧
                  x.frame.payload.take 10 = beBytes 10 r.since.toFrame.toNat)) ∧
              RegsKept h t (fun a => [(senLevel n).reg, Reg.SEN_CNT_EVT, Reg.MBR_CNT_EARLY].contains a) ∧ MemKept h t))) ∧
        (h.get Fld.SEN_CHATCFG_CHATMAX ≠ 0 → h.get Fld.SEN_CHATCFG_CHATMAX ≤ r.changes + 1 →
          Completes (.debounceEnd n) ⟨q, h⟩ (fun t =>
            t.is (senLevel n) = r.comp ∧ t.is (senChat n) = true ∧ Raised h t Flt.SENCHAT 24 ∧ t.rd Reg.SEN_CNT_CHAT = bump (h.rd Reg.SEN_CNT_CHAT) ∧
            (t.sns n).changes = r.changes + 1 ∧ (h.is Fld.TIME_STATUS_OPEN = true → t.rd Reg.SEN_CNT_EVT = bump (h.rd Reg.SEN_CNT_EVT)) ∧
            RegsKept h t (fun a => [(senLevel n).reg, (senChat n).reg, Reg.SEN_GSTATE (n / 8), Reg.SEN_CNT_CHAT, Reg.SEN_CNT_EVT, Reg.MBR_CNT_EARLY].contains a ||
              satReg a) ∧ MemKept h t)))) ∧
    (∀ g : Fin 8, g.val = n / 8 → h.due (.chatter g) = true →
      Completes (.chatterWindowEnd g) ⟨q, h⟩ (fun t =>
        t.timerAt (.chatter g) (h.dueAt (.chatter g) + h.chatWindow) ∧ (t.sns n).changes = 0 ∧
        (h.is (senChat n) = true → t.is (senChat n) = !((h.sns n).whole && decide ((h.sns n).changes ≤ h.get Fld.SEN_CHATCFG_CHATREL))) ∧
        (h.is (senChat n) = false → t.is (senChat n) = false) ∧
        RegsKept h t (fun a => [(senChat n).reg, Reg.SEN_GSTATE g, Reg.SEN_CNT_EVT, Reg.MBR_CNT_EARLY].contains a) ∧ MemKept h t))

/-- R261, R263 to R265, R268: EVA applies a released level to ARM and EVB to FIRE, each from its own copy of the sources; FIRE stays on for
MINON and at most for MAXON, after which the channel holds with FLT_GRDMAXON, unless a level 0 is released at that time; ENABLE and CLEAR need copies that agree (FLT_GRDCOPY);
outside RUN both pins are inactive. -/
def Obligations.GuardedChannels : Prop :=
  ∀ (h : Hub) (q : List Instr) (req : Req) (n : Fin 16) (expect : BitVec 8),
    (∀ (a : Act) (b : Bool), h.evNext false = some a → b = a.frame.hdr.arg.getLsbD 0 → h.grdState n = .run → h.armIs n a.frame.hdr = true →
      Completes (.grdLevelApply false) ⟨q, h⟩ (fun t =>
        (t.grd n).arm = some b ∧ (t.grd n).fire = (h.grd n).fire ∧ (h.get (Fld.GRD_CFG_ARMMODE n) = 2 → t.is (Fld.GRD_STAT_ARM n) = b) ∧
        (h.get (Fld.GRD_CFG_ARMMODE n) = 1 → t.is (Fld.GRD_STAT_ARM n) = true) ∧ t.is (Fld.GRD_STAT_FIRE n) = h.is (Fld.GRD_STAT_FIRE n) ∧
        RegsKept h t (fun x => (List.range 16).any (fun m => x == Reg.GRD_STAT m || x == Reg.GRD_CNT_LATE m)) ∧ MemKept h t)) ∧
    (∀ a : Act, h.evNext true = some a → h.grdState n = .run → h.fireIs n a.frame.hdr = true → h.grdHeld n = false →
      (a.frame.hdr.arg.getLsbD 0 = true → h.is (Fld.GRD_STAT_FIRE n) = false →
        Completes (.grdLevelApply true) ⟨q, h⟩ (fun t =>
          (t.grd n).fire = some true ∧ t.is (Fld.GRD_STAT_FIRE n) = true ∧ t.is (Fld.GRD_STAT_ARM n) = h.is (Fld.GRD_STAT_ARM n) ∧
          t.rd (Reg.GRD_CNT_FIRE n) = bump (h.rd (Reg.GRD_CNT_FIRE n)) ∧
          t.timerAt (.maxon n) (h.clock + ms (max 1 (h.getB (Fld.GRD_TIME_MAXON n)))) ∧
          (h.getB (Fld.GRD_TIME_MINON n) ≠ 0 → t.timerAt (.minon n) (h.clock + ms (h.getB (Fld.GRD_TIME_MINON n)))) ∧
          RegsKept h t (fun x => x == Reg.FLT_ALIVE || (List.range 16).any (fun m =>
            [Reg.GRD_STAT m, Reg.GRD_STATE m, Reg.GRD_CNT_FIRE m, Reg.GRD_CNT_LATE m].contains x)) ∧ MemKept h t)) ∧
      (a.frame.hdr.arg.getLsbD 0 = false → h.is (Fld.GRD_STAT_FIRE n) = true →
        Completes (.grdLevelApply true) ⟨q, h⟩ (fun t =>
          (t.grd n).fire = some false ∧
          (h.armed (.minon n) = false ∨ h.due (.minon n) = true → t.is (Fld.GRD_STAT_FIRE n) = false ∧ t.armed (.maxon n) = false) ∧
          (h.armed (.minon n) = true → h.due (.minon n) = false → t.is (Fld.GRD_STAT_FIRE n) = true ∧ (t.grd n).lowWaits = true) ∧
          RegsKept h t (fun x => x == Reg.FLT_ALIVE || (List.range 16).any (fun m =>
            [Reg.GRD_STAT m, Reg.GRD_STATE m, Reg.GRD_CNT_FIRE m, Reg.GRD_CNT_LATE m].contains x)) ∧ MemKept h t))) ∧
    (h.due (.minon n) = true →
      Completes (.minonEnd n) ⟨q, h⟩ (fun t =>
        t.is (Fld.GRD_STAT_FIRE n) = (h.is (Fld.GRD_STAT_FIRE n) && !(h.grd n).lowWaits) ∧ t.is (Fld.GRD_STAT_ARM n) = h.is (Fld.GRD_STAT_ARM n) ∧
        RegsKept h t (· == Reg.GRD_STAT n) ∧ MemKept h t)) ∧
    (h.due (.maxon n) = true → h.lowDue n = true →
      Completes (.maxonExpiry n) ⟨q, h⟩ (fun t =>
        t.is (Fld.GRD_STAT_FIRE n) = false ∧ t.unit (.guarded n) = h.unit (.guarded n) ∧ t.faultsIn = h.faultsIn ∧
        RegsKept h t (· == Reg.GRD_STAT n) ∧ MemKept h t)) ∧
    (h.due (.maxon n) = true → h.lowDue n = false →
      Completes (.maxonExpiry n) ⟨q, h⟩ (fun t =>
        t.is (Fld.GRD_STAT_FIRE n) = false ∧ t.grdHeld n = true ∧ t.grdState n = h.grdState n ∧ t.is ⟨Reg.GRD_EVT, 16 + n, 1⟩ = true ∧
        Raised h t Flt.GRDMAXON 25 ∧
        RegsKept h t (fun a => [Reg.GRD_STAT n, Reg.GRD_STATE n, Reg.GRD_EVT, Reg.FLT_ALIVE].contains a || satReg a) ∧ MemKept h t)) ∧
    (h.accepts (.guarded n) req expect = true →
      (h.grdTracks n = true →
        Completes (.grdDisable req n expect) ⟨q, h⟩ (fun t =>
          CmdEnds t (.guarded n) 1 .done ∧ t.grdState n = .off ∧ t.is (Fld.GRD_STAT_ARM n) = false ∧ t.is (Fld.GRD_STAT_FIRE n) = false ∧
          t.grd n = { GuardRec.reset with rb := (h.grd n).rb } ∧
          RegsKept h t (fun a => [Reg.GRD_STAT n, Reg.GRD_STATE n, Reg.GRD_CMDSTAT n, Reg.FLT_ALIVE].contains a) ∧ MemKept h t)) ∧
      (h.grdState n = .off →
        (h.is (Fld.GRD_CFG_EN n) = true → h.grdAgree n = true →
          Completes (.grdEnable req n expect) ⟨q, h⟩ (fun t =>
            CmdEnds t (.guarded n) 2 .done ∧ t.grdState n = .run ∧ t.is (Fld.GRD_STAT_ARM n) = h.armLevel n ∧
            RegsKept h t (fun a => [Reg.GRD_STAT n, Reg.GRD_STATE n, Reg.GRD_CMDSTAT n, Reg.GRD_CNT_FIRE n, Reg.FLT_ALIVE].contains a || testReg a) ∧
            MemKept h t)) ∧
        (h.grdAgree n = false →
          Completes (.grdEnable req n expect) ⟨q, h⟩ (fun t =>
            CmdEnds t (.guarded n) 2 .badcmd ∧ t.grdState n = .off ∧ t.grdCause n = 3 ∧ Raised h t Flt.GRDCOPY 25 ∧
            RegsKept h t (fun a => [Reg.GRD_STAT n, Reg.GRD_STATE n, Reg.GRD_CMDSTAT n, Reg.FLT_ALIVE].contains a || satReg a) ∧ MemKept h t))) ∧
      (h.grdState n = .fault →
        (h.grdAgree n = true →
          Completes (.grdClear req n expect) ⟨q, h⟩ (fun t =>
            CmdEnds t (.guarded n) 3 .done ∧ t.grdState n = .run ∧ t.grdHeld n = h.grdHeld n ∧ t.grdCause n = 0 ∧
            RegsKept h t (fun a => [Reg.GRD_STAT n, Reg.GRD_STATE n, Reg.GRD_CMDSTAT n, Reg.GRD_CNT_FIRE n, Reg.FLT_ALIVE].contains a || testReg a) ∧
            MemKept h t)) ∧
        (h.grdAgree n = false →
          Completes (.grdClear req n expect) ⟨q, h⟩ (fun t =>
            CmdEnds t (.guarded n) 3 .badcmd ∧ t.unit (.guarded n) = h.unit (.guarded n) ∧ RegsKept h t (· == Reg.GRD_CMDSTAT n) ∧ MemKept h t))))

/-- R266, R267: the readback shows in SENSE after its polarity; a mismatch with the expected level that lasts RBSETTLE is left to the
partner where PAIRWIRE explains it, else it is FLT_GRDRB, and with RBACT the channel goes to FAULT with both pins inactive. -/
def Obligations.GuardedReadback : Prop :=
  ∀ (h : Hub) (q : List Instr) (n : Fin 16) (level : Bool),
    let sense := level != decide (h.getB (Fld.GRD_CFG_RBPOL n) = 1)
    Completes (.rbSenseChange n level) ⟨q, h⟩ (fun t =>
      t.is (Fld.GRD_STAT_SENSE n) = sense ∧ (t.grd n).rb = level ∧
      t.is (Fld.GRD_STAT_ARM n) = h.is (Fld.GRD_STAT_ARM n) ∧ t.is (Fld.GRD_STAT_FIRE n) = h.is (Fld.GRD_STAT_FIRE n) ∧
      (h.is (Fld.GRD_STAT_SENSE n) = sense → t.timers = h.timers) ∧
      (h.is (Fld.GRD_STAT_SENSE n) ≠ sense →
        (h.grdState n = .run → h.grdExpected n ≠ sense → t.timerAt (.rbSettle n) (h.clock + us (h.get (Fld.GRD_RB_RBSETTLE n)))) ∧
        (h.grdState n ≠ .run ∨ h.grdExpected n = sense → t.armed (.rbSettle n) = false)) ∧
      RegsKept h t (· == Reg.GRD_STAT n) ∧ MemKept h t) ∧
    (h.due (.rbSettle n) = true → h.grdState n = .run → h.grdExpected n ≠ h.is (Fld.GRD_STAT_SENSE n) →
      (h.getB (Fld.GRD_CFG_PAIRWIRE n) = (if h.grdExpected n then 2 else 1) →
        Completes (.rbMismatch n) ⟨q, h⟩ (fun t =>
          t.is ⟨Reg.GRD_PAIRDIFF, n, 1⟩ = true ∧ Raised h t Flt.PAIRDIFF 25 ∧ t.grdState n = .run ∧
          RegsKept h t (fun a => a == Reg.GRD_PAIRDIFF || satReg a) ∧ MemKept h t)) ∧
      (h.getB (Fld.GRD_CFG_PAIRWIRE n) ≠ (if h.grdExpected n then 2 else 1) →
        Completes (.rbMismatch n) ⟨q, h⟩ (fun t =>
          t.is ⟨Reg.GRD_EVT, n, 1⟩ = true ∧ Raised h t Flt.GRDRB 25 ∧
          (h.getB (Fld.GRD_CFG_RBACT n) = 0 → t.grdState n = .run ∧ t.rd (Reg.GRD_STAT n) = h.rd (Reg.GRD_STAT n)) ∧
          (h.getB (Fld.GRD_CFG_RBACT n) = 1 → t.grdState n = .fault ∧ t.grdCause n = (if h.grdExpected n then 1 else 2) ∧
            t.is (Fld.GRD_STAT_ARM n) = false ∧ t.is (Fld.GRD_STAT_FIRE n) = false) ∧
          RegsKept h t (fun a => [Reg.GRD_STAT n, Reg.GRD_STATE n, Reg.GRD_EVT, Reg.FLT_ALIVE].contains a || satReg a) ∧ MemKept h t)))

/-! ### Priority buses (chapter 10) -/

/-- Tables 10.3 and 10.4: the commands of a controller, and the bus events that change its state (R271, R273, R279, R283, R288 to R290). -/
def Obligations.BusStates : Prop :=
  ∀ (h : Hub) (q : List Instr) (req : Req) (b : Fin 16) (expect : BitVec 8) (r : BusRec), r = h.bus b →
    (h.accepts (.bus b) req expect = true →
      (r.st ≠ .off → Completes (.pbDisable req b expect) ⟨q, h⟩ (fun t =>
        CmdEnds t (.bus b) 1 .done ∧ BusIn t b .off ∧ (t.bus b).timed = r.timed ∧ (t.bus b).sending = false ∧
        (t.bus b).spool = (if r.sending && r.abortWaits then r.spool.drop 1 else r.spool) ∧
        t.rd (Reg.PB_CNT_ABORT b) = (if r.sending && r.abortWaits then bump (h.rd (Reg.PB_CNT_ABORT b)) else h.rd (Reg.PB_CNT_ABORT b)) ∧
        RegsKept h t (fun a => busReg b a || a == Reg.PB_CNT_ABORT b || a == Reg.PB_CMDSTAT b) ∧ MemKept h t)) ∧
      (h.is (Fld.PB_CFG_EN b) = true → r.st = .off →
        (h.busValid b = true → Completes (.pbEnable req b expect) ⟨q, h⟩ (fun t =>
          CmdEnds t (.bus b) 2 .done ∧ BusIn t b .integrate ∧ t.rd (Reg.PB_ERRCNT b) = 0#32 ∧ (t.bus b).spool = r.spool ∧
          RegsKept h t (fun a => busReg b a || a == Reg.PB_ERRCNT b || a == Reg.PB_CMDSTAT b || testReg a) ∧ MemKept h t)) ∧
        (h.busValid b = false → Completes (.pbEnable req b expect) ⟨q, h⟩ (fun t =>
          CmdEnds t (.bus b) 2 .badcmd ∧ t.bus b = r ∧ t.is (Fld.PB_EVT_CFGERR b) = true ∧ Raised h t Flt.PBCFG 23 ∧
          RegsKept h t (fun a => a == Reg.PB_EVT b || a == Reg.PB_CMDSTAT b || satReg a) ∧ MemKept h t))) ∧
      (h.is (Fld.PB_CFG_EN b) = false → Completes (.pbEnable req b expect) ⟨q, h⟩ (fun t =>
        CmdEnds t (.bus b) 2 .denied ∧ t.bus b = r ∧ RegsKept h t (· == Reg.PB_CMDSTAT b) ∧ MemKept h t)) ∧
      (r.st = .busoff → Completes (.pbRecover req b expect) ⟨q, h⟩ (fun t =>
        CmdEnds t (.bus b) 3 .done ∧ BusIn t b .recover ∧ (t.bus b).spool = r.spool ∧
        RegsKept h t (fun a => busReg b a || a == Reg.PB_CMDSTAT b) ∧ MemKept h t)) ∧
      (r.st = .run → Completes (.pbSleep req b expect) ⟨q, h⟩ (fun t =>
        CmdEnds t (.bus b) 4 .done ∧ t.bus b = { r with sleepWaits := true } ∧ RegsKept h t (fun a => busReg b a || a == Reg.PB_CMDSTAT b) ∧
        MemKept h t)) ∧
      (r.st ≠ .run → Completes (.pbSleep req b expect) ⟨q, h⟩ (fun t =>
        CmdEnds t (.bus b) 4 .badcmd ∧ t.bus b = r ∧ RegsKept h t (· == Reg.PB_CMDSTAT b) ∧ MemKept h t)) ∧
      (r.st = .sleep → Completes (.pbWake req b expect) ⟨q, h⟩ (fun t =>
        CmdEnds t (.bus b) 5 .done ∧ BusIn t b .integrate ∧ t.is (Fld.PB_EVT_WAKE b) = true ∧ (t.bus b).spool = r.spool ∧
        RegsKept h t (fun a => busReg b a || a == Reg.PB_EVT b || a == Reg.PB_CMDSTAT b || testReg a) ∧ MemKept h t)) ∧
      (∀ e rest, r.spool = e :: rest →
        (r.sending = false →
          Completes (.pbAbort req b expect) ⟨q, h⟩ (fun t =>
            CmdEnds t (.bus b) 6 .done ∧ (t.bus b).spool = rest ∧ (t.bus b).timed = r.timed ∧
            t.rd (Reg.PB_CNT_ABORT b) = bump (h.rd (Reg.PB_CNT_ABORT b)) ∧
            RegsKept h t (fun a => busReg b a || a == Reg.PB_CNT_ABORT b || a == Reg.PB_CMDSTAT b) ∧ MemKept h t) ∧
          Completes (.pbFlush req b expect) ⟨q, h⟩ (fun t =>
            CmdEnds t (.bus b) 7 .done ∧ t.bus b = { r with spool := r.spool.filter (fun x => decide (h.clock ≤ x.entered)) } ∧
            t.rd (Reg.PB_CNT_ABORT b) = BitVec.ofNat 32 (min 0xFFFFFFFF ((h.rd (Reg.PB_CNT_ABORT b)).toNat +
              (r.spool.filter (fun x => decide (x.entered < h.clock))).length)) ∧
            RegsKept h t (fun a => busReg b a || a == Reg.PB_CNT_ABORT b || a == Reg.PB_CMDSTAT b) ∧ MemKept h t)) ∧
        (r.sending = true →
          Completes (.pbAbort req b expect) ⟨q, h⟩ (fun t =>
            CmdEnds t (.bus b) 6 .done ∧ t.bus b = { r with abortWaits := true } ∧
            RegsKept h t (fun a => busReg b a || a == Reg.PB_CMDSTAT b) ∧ MemKept h t) ∧
          Completes (.pbFlush req b expect) ⟨q, h⟩ (fun t =>
            CmdEnds t (.bus b) 7 .done ∧ t.bus b = { r with
              spool := e :: rest.filter (fun x => decide (h.clock ≤ x.entered)), abortWaits := r.abortWaits || decide (e.entered < h.clock) } ∧
            t.rd (Reg.PB_CNT_ABORT b) = BitVec.ofNat 32 (min 0xFFFFFFFF ((h.rd (Reg.PB_CNT_ABORT b)).toNat +
              (rest.filter (fun x => decide (x.entered < h.clock))).length)) ∧
            RegsKept h t (fun a => busReg b a || a == Reg.PB_CNT_ABORT b || a == Reg.PB_CMDSTAT b) ∧ MemKept h t)))) ∧
    (r.st = .integrate → Completes (.pbIntegrateDone b) ⟨q, h⟩ (fun t =>
      BusIn t b .run ∧ (t.bus b).spool = r.spool ∧ RegsKept h t (busReg b) ∧ MemKept h t)) ∧
    (r.st = .recover → Completes (.pbRecoveryDone b) ⟨q, h⟩ (fun t =>
      BusIn t b .run ∧ t.rd (Reg.PB_ERRCNT b) = 0#32 ∧ t.is (Fld.PB_EVT_RECOVERED b) = true ∧ (t.bus b).spool = r.spool ∧
      RegsKept h t (fun a => busReg b a || a == Reg.PB_ERRCNT b || a == Reg.PB_EVT b) ∧ MemKept h t)) ∧
    (r.st = .run → r.sleepWaits = true → r.sending = false → Completes (.pbSleepEnter b) ⟨q, h⟩ (fun t =>
      BusIn t b .sleep ∧ (t.bus b).sleepWaits = false ∧ (t.bus b).spool = r.spool ∧ RegsKept h t (busReg b) ∧ MemKept h t)) ∧
    (∀ held, r.st = .sleep → h.is (Fld.PB_WAKECFG_WAKEMODE b) = false →
      (us (max 1 (h.get (Fld.PB_WAKECFG_WAKEFILT b))) ≤ held → Completes (.pbWakeEdge ⟨b, held⟩) ⟨q, h⟩ (fun t =>
        BusIn t b .integrate ∧ t.is (Fld.PB_EVT_WAKE b) = true ∧ t.rd (Reg.PB_CNT_WAKELOST b) = bump (h.rd (Reg.PB_CNT_WAKELOST b)) ∧
        RegsKept h t (fun a => busReg b a || a == Reg.PB_EVT b || a == Reg.PB_CNT_WAKELOST b || testReg a) ∧ MemKept h t)) ∧
      (held < us (max 1 (h.get (Fld.PB_WAKECFG_WAKEFILT b))) → Completes (.pbWakeEdge ⟨b, held⟩) ⟨q, h⟩ (fun t => t = h))) ∧
    (∀ (kind phase : Fin 8) (dominant : Bool) (more n : Nat), r.st = .run → h.busMonitors b = false → h.get (Fld.PB_ERRCNT_TEC b) ≤ 255 →
      n = h.get (Fld.PB_ERRCNT_REC b) + 1 + (if dominant then 8 else 0) + 8 * more →
      Completes (.pbRxError b kind phase ⟨dominant, more⟩) ⟨q, h⟩ (fun t =>
        t.get (Fld.PB_ERRCNT_REC b) = min 255 n ∧ t.get (Fld.PB_ERRCNT_TEC b) = h.get (Fld.PB_ERRCNT_TEC b) ∧
        t.get (Fld.PB_ERRCNT_ESTATE b) = (if 127 < h.get (Fld.PB_ERRCNT_TEC b) ∨ 127 < n then 1 else 0) ∧
        (h.get (Fld.PB_ERRCNT_ESTATE b) = 0 → 127 < n → t.is (Fld.PB_EVT_PASSIVE b) = true ∧ Raised h t Flt.PBPASSIVE 23) ∧
        t.get (Fld.PB_LASTERR_KIND b) = kind ∧ t.get (Fld.PB_LASTERR_PHASE b) = phase ∧ t.is (Fld.PB_LASTERR_TXDIR b) = false ∧
        t.rd (Reg.PB_CNT_ERRF b) = bump (h.rd (Reg.PB_CNT_ERRF b)) ∧ t.bus b = r ∧ RegsKept h t (busErrReg b) ∧ MemKept h t)) ∧
    (h.is (Fld.PB_CFG_PXHD b) = true → r.st = .run → Completes (.pbProtocolException b) ⟨q, h⟩ (fun t =>
      BusIn t b .integrate ∧ (t.bus b).spool = r.spool ∧ RegsKept h t (busReg b) ∧ MemKept h t)) ∧
    (h.is (Fld.PB_CFG_PXHD b) = false → r.st = .run → h.busMonitors b = false → Completes (.pbProtocolException b) ⟨q, h⟩ (fun t =>
      t.rd (Reg.PB_CNT_ERRF b) = bump (h.rd (Reg.PB_CNT_ERRF b)) ∧ t.get (Fld.PB_LASTERR_KIND b) = 4 ∧ RegsKept h t (busErrReg b) ∧ MemKept h t)) ∧
    (∀ (a : Act) (rest : List Act) (i : Nat), i = (a.frame.hdr.arg.extractLsb' 0 16).toNat →
      (h.takes 19 (fun x => x.hdr.typ == 10 && (fun i => !(i / 16 == 0x20) && !(i / 16 == 0x30)) (x.hdr.arg.extractLsb' 0 16).toNat) a rest →
        (i = 0x100 + b → r.st = .sleep → Completes .wirePbWakeRx ⟨q, h⟩ (fun t =>
          BusIn t b .integrate ∧ t.acts = rest ∧ t.is (Fld.PB_EVT_WAKE b) = true ∧
          RegsKept h t (fun x => busReg b x || x == Reg.PB_EVT b || testReg x) ∧ MemKept h t)) ∧
        (i / 16 ≠ 0x10 → Completes .wirePbWakeRx ⟨q, h⟩ (fun t =>
          t.rd (Reg.PB_CNT_WIREBAD 0) = bump (h.rd (Reg.PB_CNT_WIREBAD 0)) ∧ t.acts = rest ∧ RegsKept h t (· == Reg.PB_CNT_WIREBAD 0) ∧ MemKept h t))) ∧
      (h.takes 19 (fun x => x.hdr.typ == 10 && (x.hdr.arg.extractLsb' 0 16).toNat / 16 == 0x20) a rest → i = 0x200 + b → r.st = .run →
        Completes .wirePbSleepRx ⟨q, h⟩ (fun t =>
          t.bus b = { r with sleepWaits := true } ∧ t.acts = rest ∧ RegsKept h t (busReg b) ∧ MemKept h t)) ∧
      (h.takes 19 (fun x => x.hdr.typ == 10 && (x.hdr.arg.extractLsb' 0 16).toNat / 16 == 0x30) a rest → i = 0x300 + b → r.sending = true →
        r.spool ≠ [] →
        Completes .wirePbAbortRx ⟨q, h⟩ (fun t =>
          t.bus b = { r with abortWaits := true } ∧ t.acts = rest ∧ RegsKept h t (busReg b) ∧ MemKept h t))) ∧
    (∀ f0 e rest, r.fencedAt = some f0 → r.spool = e :: rest → r.sending = false →
      max f0 e.entered + ms (max 1 (h.get (Fld.PB_SHCFG_FOLAGE b))) ≤ h.clock →
      Completes (.pbFolageExpiry b) ⟨q, h⟩ (fun t =>
        t.bus b = { r with spool := rest } ∧ t.rd (Reg.PB_CNT_FOLAGE b) = bump (h.rd (Reg.PB_CNT_FOLAGE b)) ∧ t.is (Fld.PB_EVT_FOLAGE b) = true ∧
        RegsKept h t (fun a => busReg b a || a == Reg.PB_EVT b || a == Reg.PB_CNT_FOLAGE b) ∧ MemKept h t))

/-- R275 to R281 and R283 to R287: how frames come to a spool and leave it: tunnels, staged frames now and at T, the start of an attempt and
its end with what it counts, the error counters and bus-off; and what a received frame does by its filter. -/
def Obligations.BusTraffic : Prop :=
  ∀ (h : Hub) (q : List Instr) (req : Req) (b : Fin 16) (idle : Bool) (r : BusRec), r = h.bus b →
    let noTunnel : Prop := ∀ a ∈ h.acts, a.port = 19 → a.frame.hdr.typ = 9#4 → h.actDue a = false
    let noTimed (l : List (Stamp × BusEntry)) : Prop := ∀ x ∈ l.head?, h.now < x.1
    (∀ a rest f, h.takes 19 (fun f => f.hdr.typ == 9) a rest → a.frame.farPort 18 = b → f = tunnelBusFrame a.frame →
      (h.busBad b f = true ∨ tunnelWide a.frame = true → Completes (.pbTunnelEntry idle) ⟨q, h⟩ (fun t =>
        t.bus b = r ∧ t.rd (Reg.PB_CNT_TUNREJ b) = bump (h.rd (Reg.PB_CNT_TUNREJ b)) ∧ t.is (Fld.PB_EVT_TUNREJ b) = true ∧ t.acts = rest ∧
        RegsKept h t (fun x => x == Reg.PB_CNT_TUNREJ b || x == Reg.PB_EVT b) ∧ MemKept h t)) ∧
      (h.busBad b f = false → tunnelWide a.frame = false → 32 ≤ r.spool.length → Completes (.pbTunnelEntry idle) ⟨q, h⟩ (fun t =>
        t.bus b = r ∧ t.rd (Reg.PB_CNT_SPOOLFULL b) = bump (h.rd (Reg.PB_CNT_SPOOLFULL b)) ∧ t.is (Fld.PB_EVT_SPOOLFULL b) = true ∧
        Raised h t Flt.PBSPOOL 23 ∧ t.acts = rest ∧
        RegsKept h t (fun x => x == Reg.PB_CNT_SPOOLFULL b || x == Reg.PB_EVT b || satReg x) ∧ MemKept h t)) ∧
      (h.busBad b f = false → tunnelWide a.frame = false → r.spool.length < 32 → r.st ≠ .sleep → Completes (.pbTunnelEntry idle) ⟨q, h⟩ (fun t =>
        Spooled h t b r f false (some a.due) (idle && !a.late) ∧ t.acts = rest ∧
        (r.spool ≠ [] → t.rd (Reg.PB_CNT_TTLATE b) = bump (h.rd (Reg.PB_CNT_TTLATE b)) ∧ t.is (Fld.PB_EVT_TTLATE b) = true) ∧
        RegsKept h t (fun x => busReg b x || x == Reg.PB_CNT_TTLATE b || x == Reg.PB_EVT b) ∧ MemKept h t))) ∧
    (∀ f, h.allows req (Reg.PB_TXGO b) = true → f = h.busStage b →
      (h.busBad b f = true → noTunnel → noTimed r.timed →
        Completes (.pbTxgoNow req b) ⟨q, h⟩ (fun t =>
          t.get (Fld.PB_TXSTAT_RESULT b) = 3 ∧ t.bus b = r ∧ RegsKept h t (· == Reg.PB_TXSTAT b) ∧ MemKept h t)) ∧
      (h.busBad b f = true →
        Completes (.pbTxgoTimed req b) ⟨q, h⟩ (fun t =>
          t.get (Fld.PB_TXSTAT_RESULT b) = 3 ∧ t.bus b = r ∧ RegsKept h t (· == Reg.PB_TXSTAT b) ∧ MemKept h t)) ∧
      (h.busBad b f = false → noTunnel → noTimed r.timed → 32 ≤ r.spool.length → Completes (.pbTxgoNow req b) ⟨q, h⟩ (fun t =>
        t.get (Fld.PB_TXSTAT_RESULT b) = 2 ∧ t.bus b = r ∧ RegsKept h t (· == Reg.PB_TXSTAT b) ∧ MemKept h t)) ∧
      (h.busBad b f = false → noTunnel → noTimed r.timed → r.spool.length < 32 → r.st ≠ .sleep → Completes (.pbTxgoNow req b) ⟨q, h⟩ (fun t =>
        t.get (Fld.PB_TXSTAT_RESULT b) = 1 ∧ Spooled h t b r f (h.is (Fld.PB_TXCTL_ONESHOT b)) none true ∧
        RegsKept h t (fun x => busReg b x || x == Reg.PB_TXSTAT b) ∧ MemKept h t)) ∧
      (∀ T e m, h.busBad b f = false → noTunnel → r.timed = (T, e) :: m → T ≤ h.now → noTimed m → r.spool.length + 2 ≤ 32 → r.st ≠ .sleep →
        Completes (.pbTxgoNow req b) ⟨q, h⟩ (fun t =>
          t.get (Fld.PB_TXSTAT_RESULT b) = 1 ∧ (t.bus b).timed = m ∧
          (t.bus b).spool.map (·.frame) = r.spool.map (·.frame) ++ [e.frame, f] ∧
          RegsKept h t (fun x => busReg b x || [Reg.PB_TXSTAT b, Reg.PB_CNT_TTLATE b, Reg.PB_EVT b].contains x) ∧ MemKept h t)) ∧
      (∀ T, h.busBad b f = false →
        T = Stamp.mk (h.get (Fld.PB_TXAT_HI_SEC_HI b) * 0x100000000 + (h.rd (Reg.PB_TXAT_SEC b)).toNat) (h.rd (Reg.PB_TXAT_NS b)).toNat 0 →
        (T < h.now + nsec 2000 → Completes (.pbTxgoTimed req b) ⟨q, h⟩ (fun t =>
          t.get (Fld.PB_TXSTAT_RESULT b) = 4 ∧ t.bus b = r ∧ RegsKept h t (· == Reg.PB_TXSTAT b) ∧ MemKept h t)) ∧
        (h.now + nsec 2000 ≤ T → 8 ≤ r.timed.length → Completes (.pbTxgoTimed req b) ⟨q, h⟩ (fun t =>
          t.get (Fld.PB_TXSTAT_RESULT b) = 5 ∧ t.bus b = r ∧ RegsKept h t (· == Reg.PB_TXSTAT b) ∧ MemKept h t)) ∧
        (h.now + nsec 2000 ≤ T → r.timed.length < 8 → Completes (.pbTxgoTimed req b) ⟨q, h⟩ (fun t =>
          t.get (Fld.PB_TXSTAT_RESULT b) = 1 ∧ (t.bus b).spool = r.spool ∧
          (∃ l m, r.timed = l ++ m ∧ (t.bus b).timed = l ++ [(T, ⟨r.nextId, f, h.is (Fld.PB_TXCTL_ONESHOT b), some T, h.clock⟩)] ++ m ∧
            (∀ x ∈ l, x.1 ≤ T) ∧ (∀ x ∈ m.head?, T < x.1)) ∧
          RegsKept h t (fun x => busReg b x || x == Reg.PB_TXSTAT b) ∧ MemKept h t)))) ∧
    (∀ T e rest, r.timed = (T, e) :: rest → T ≤ h.now → noTunnel → r.spool.length < 32 → r.st ≠ .sleep →
      Completes (.pbTimedEntry b idle) ⟨q, h⟩ (fun t =>
        Spooled h t b { r with timed := rest } e.frame e.oneShot (some T) idle ∧
        RegsKept h t (fun x => busReg b x || x == Reg.PB_CNT_TTLATE b || x == Reg.PB_EVT b) ∧ MemKept h t)) ∧
    (∀ e rest, r.st = .run → r.sleepWaits = false → r.sending = false → r.spool = e :: rest → h.busFenced b = false →
      let wire : BusFrame := { e.frame with
        esi := e.frame.fdf && decide (h.get (Fld.PB_ERRCNT_ESTATE b) = 1), brs := e.frame.fdf && e.frame.brs }
      (e.at_ = none →
        Completes (.pbTxStart b) ⟨q, h⟩ (fun t =>
          t.bus b = { r with sending := true } ∧ t.out = .busStart b wire none :: h.out ∧ RegsKept h t (busReg b) ∧ MemKept h t)) ∧
      (∀ T, e.at_ = some T → h.clock ≤ e.entered + 12500 →
        Completes (.pbTxStart b) ⟨q, h⟩ (fun t =>
          t.bus b = { r with sending := true } ∧ t.out = .busStart b wire (some (T - nsec (h.get (Fld.PB_XCVR_TX_DLY b)))) :: h.out ∧
          RegsKept h t (busReg b) ∧ MemKept h t)) ∧
      (∀ T, e.at_ = some T → e.entered + 12500 < h.clock →
        Completes (.pbTxStart b) ⟨q, h⟩ (fun t =>
          t.bus b = { r with spool := { e with at_ := none } :: rest, sending := true } ∧ t.out = .busStart b wire none :: h.out ∧
          t.rd (Reg.PB_CNT_TTLATE b) = bump (h.rd (Reg.PB_CNT_TTLATE b)) ∧ t.is (Fld.PB_EVT_TTLATE b) = true ∧
          RegsKept h t (fun x => busReg b x || x == Reg.PB_CNT_TTLATE b || x == Reg.PB_EVT b) ∧ MemKept h t))) ∧
    (∀ x rest tec, r.spool = x :: rest → r.sending = true → tec = h.get (Fld.PB_ERRCNT_TEC b) → tec ≤ 255 → h.get (Fld.PB_ERRCNT_ESTATE b) ≠ 2 →
      Completes (.pbTxEnd b .sent) ⟨q, h⟩ (fun t =>
        t.bus b = { r with spool := rest, sending := false, abortWaits := false, alone := 0 } ∧ t.get (Fld.PB_ERRCNT_TEC b) = tec - 1 ∧
        t.rd (Reg.PB_CNT_TXF b) = bump (h.rd (Reg.PB_CNT_TXF b)) ∧
        RegsKept h t (fun a => busErrReg b a || a == Reg.PB_CNT_TXF b) ∧ MemKept h t) ∧
      (r.abortWaits = true → Completes (.pbTxEnd b .lost) ⟨q, h⟩ (fun t =>
        (t.bus b).spool = rest ∧ t.rd (Reg.PB_CNT_ABORT b) = bump (h.rd (Reg.PB_CNT_ABORT b)))) ∧
      (r.abortWaits = false → x.oneShot = true ∨ h.is (Fld.PB_CFG_ONESHOT b) = true → Completes (.pbTxEnd b .lost) ⟨q, h⟩ (fun t =>
        (t.bus b).spool = rest ∧ t.rd (Reg.PB_CNT_OSDROP b) = bump (h.rd (Reg.PB_CNT_OSDROP b)))) ∧
      (r.abortWaits = false → x.oneShot = false → h.is (Fld.PB_CFG_ONESHOT b) = false →
        Completes (.pbTxEnd b .lost) ⟨q, h⟩ (fun t =>
          t.bus b = { r with spool := { x with at_ := none } :: rest, sending := false, alone := 0 } ∧
          (x.at_.isSome = true → t.rd (Reg.PB_CNT_TTLATE b) = bump (h.rd (Reg.PB_CNT_TTLATE b))) ∧
          RegsKept h t (fun a => busReg b a || a == Reg.PB_CNT_TTLATE b || a == Reg.PB_EVT b) ∧ MemKept h t) ∧
        (∀ kind phase : Fin 8, ∀ (dominant : Bool) (more : Nat), kind.val ≠ 5 → kind.val ≠ 2 →
          (tec + 8 * (1 + more) ≤ 255 → Completes (.pbTxEnd b (.error kind phase dominant more)) ⟨q, h⟩ (fun t =>
            t.get (Fld.PB_ERRCNT_TEC b) = tec + 8 * (1 + more) ∧ (t.bus b).spool = { x with at_ := none } :: rest ∧ (t.bus b).sending = false ∧
            (t.bus b).alone = 0 ∧ t.get (Fld.PB_LASTERR_KIND b) = kind ∧ t.is (Fld.PB_LASTERR_TXDIR b) = true ∧
            t.rd (Reg.PB_CNT_ERRF b) = bump (h.rd (Reg.PB_CNT_ERRF b)) ∧
            RegsKept h t (fun a => busErrReg b a || a == Reg.PB_CNT_TTLATE b) ∧ MemKept h t)) ∧
          (255 < tec + 8 * (1 + more) → Completes (.pbTxEnd b (.error kind phase dominant more)) ⟨q, h⟩ (fun t =>
            BusIn t b .busoff ∧ t.get (Fld.PB_ERRCNT_ESTATE b) = 2 ∧ t.is (Fld.PB_EVT_BUSOFF b) = true ∧ Raised h t Flt.PBBUSOFF 23 ∧
            t.rd (Reg.PB_CNT_BUSOFF b) = bump (h.rd (Reg.PB_CNT_BUSOFF b)) ∧ (t.bus b).spool = { x with at_ := none } :: rest ∧
            RegsKept h t (fun a => busErrReg b a || a == Reg.PB_CNT_TTLATE b) ∧ MemKept h t))) ∧
        (∀ phase : Fin 8, ∀ dominant : Bool, (h.get (Fld.PB_ERRCNT_ESTATE b) = 1 → dominant = true) → tec + 8 ≤ 255 →
          r.alone + 1 ≠ max 1 (h.get (Fld.PB_CFG_ALONECNT b)) →
          Completes (.pbTxEnd b (.error 5 phase dominant 0)) ⟨q, h⟩ (fun t =>
            t.get (Fld.PB_ERRCNT_TEC b) = tec + 8 ∧ (t.bus b).alone = r.alone + 1 ∧
            t.rd (Reg.PB_CNT_ACKERR b) = bump (h.rd (Reg.PB_CNT_ACKERR b)) ∧
            RegsKept h t (fun a => busErrReg b a || a == Reg.PB_CNT_TTLATE b || a == Reg.PB_CNT_ACKERR b) ∧ MemKept h t)) ∧
        (∀ phase : Fin 8, h.get (Fld.PB_ERRCNT_ESTATE b) = 1 → r.alone + 1 = max 1 (h.get (Fld.PB_CFG_ALONECNT b)) →
          Completes (.pbTxEnd b (.error 5 phase false 0)) ⟨q, h⟩ (fun t =>
            t.get (Fld.PB_ERRCNT_TEC b) = tec ∧ t.is (Fld.PB_EVT_ALONE b) = true ∧ Raised h t Flt.PBALONE 23 ∧
            (h.is (Fld.PB_CFG_ALONEDROP b) = true → (t.bus b).spool = rest ∧ (t.bus b).alone = 0 ∧
              t.rd (Reg.PB_CNT_ALONEDROP b) = bump (h.rd (Reg.PB_CNT_ALONEDROP b))) ∧
            RegsKept h t (fun a => busErrReg b a || [Reg.PB_CNT_TTLATE b, Reg.PB_CNT_ACKERR b, Reg.PB_CNT_ALONEDROP b].contains a) ∧ MemKept h t)))) ∧
    (∀ (f : BusFrame) (self : Bool) (sof eof : Sample), r.st = .run → (f.fdf = true → h.is (Fld.PB_CFG_FD b) = true) →
      h.busFenced b = false → h.get (Fld.PB_ERRCNT_TEC b) ≤ 255 →
      Completes (.pbFrameRx b f self sof eof) ⟨q, h⟩ (fun t =>
        t.rd (Reg.PB_CNT_RXF b) = bump (h.rd (Reg.PB_CNT_RXF b)) ∧ t.bus b = { r with alone := 0 } ∧
        (self = true → t.rd (Reg.PB_ERRCNT b) = h.rd (Reg.PB_ERRCNT b)) ∧
        (self = false → h.get (Fld.PB_ERRCNT_REC b) ≤ 127 → t.get (Fld.PB_ERRCNT_REC b) = h.get (Fld.PB_ERRCNT_REC b) - 1) ∧
        (self = false → 127 < h.get (Fld.PB_ERRCNT_REC b) → 119 ≤ t.get (Fld.PB_ERRCNT_REC b) ∧ t.get (Fld.PB_ERRCNT_REC b) ≤ 127) ∧
        (h.filterOf b f self = none → t.rd (Reg.PB_CNT_NOFILT b) = bump (h.rd (Reg.PB_CNT_NOFILT b))) ∧
        (∀ k, h.filterOf b f self = some k →
          t.rd (Reg.PB_CNT_NOFILT b) = h.rd (Reg.PB_CNT_NOFILT b) ∧
          (h.get (Fld.PB_FLT_ROUTE_ACTION b k) = 0 → t.sw = h.sw) ∧
          (2 ≤ h.get (Fld.PB_FLT_ROUTE_ACTION b k) → 2 < h.get (Fld.PB_FLT_ROUTE_VER b k) →
            t.sw.offered = h.sw.offered ∧ t.rd Reg.XB_CNT_TUNVER = bump (h.rd Reg.XB_CNT_TUNVER) ∧ Raised h t Flt.TUNVER 14) ∧
          (2 ≤ h.get (Fld.PB_FLT_ROUTE_ACTION b k) → h.get (Fld.PB_FLT_ROUTE_VER b k) ≤ 2 →
            Offers h t (fun x => x.inp = 19 ∧ x.outs = [if h.get (Fld.PB_FLT_ROUTE_ACTION b k) = 2 then 9 else 10] ∧ x.frame.hdr.typ = 9#4 ∧
              x.frame.hdr.stream = BitVec.ofNat 12 (h.get (Fld.PB_FLT_ROUTE_STREAM b k)) ∧
              x.frame.hdr.stamp = Stamp.toFrame (h.sampled eof - nsec (h.get (Fld.PB_XCVR_RX_DLY b))) ∧
              x.frame.payload.drop 24 = f.data ∧
              x.frame.payload.extract 8 18 = beBytes 10 (Stamp.toFrame (h.sampled sof - nsec (h.get (Fld.PB_XCVR_RX_DLY b)))).toNat))) ∧
        RegsKept h t (fun a => busErrReg b a || [Reg.PB_CNT_RXF b, Reg.PB_CNT_NOFILT b, Reg.MBR_CNT_EARLY, Reg.XB_CNT_TUNVER, Reg.XB_EVT].contains a) ∧ MemKept h t))

/-! ### Crossings and group resets (chapter 11) -/

/-- R299 to R304: a timeout stops an OPEN crossing, raises FLT_XSTOP and shows it in ISL_XLAST; live toggles take a STOPPED one
through RESYNC to OPEN, where the units behind it push their words; a valid order resets the crossings and units of a group for 2 us and keeps
every RW and RWS field; a release takes the crossings to RESYNC, and once they are OPEN the units of a sealed hub start. A write that
waited for a crossing reaches its register when it opens. -/
def Obligations.CrossingsAndGroupResets : Prop :=
  ∀ (h : Hub) (q : List Instr) (req : Req) (x : Crossing) (side : Bool) (v : Word) (g : Fin 24) (vio : Fin 3),
    (h.xOpen x = false ∨ x ∉ allCrossings → Completes (.crossingTimeout x side) ⟨q, h⟩ (fun t => t = h)) ∧
    (h.xOpen x = true → x ∈ allCrossings → Completes (.crossingTimeout x side) ⟨q, h⟩ (fun t =>
      t.xStopped x = true ∧ (∀ y, y ≠ x → Assoc.get t.xings y = Assoc.get h.xings y) ∧
      Raised h t Flt.XSTOP (if side then x.dst.val else x.src.val) ∧ t.rd Reg.ISL_CNT_XSTOP = bump (h.rd Reg.ISL_CNT_XSTOP) ∧
      t.is Fld.ISL_EVT_XSTOP = true ∧ t.get Fld.ISL_XLAST_FROM = x.src ∧ t.get Fld.ISL_XLAST_TO = x.dst ∧
      t.get Fld.ISL_XLAST_KIND = x.kind.code ∧ t.get Fld.ISL_XLAST_SIDE = (if side then 1 else 0) ∧ t.get Fld.ISL_XLAST_INDEX = x.index.toNat ∧
      (∀ l : Fin 5, x.src.val = 4 + l → x.dst = 2 → x.kind = .queue →
        (t.lane l).rx = none ∧ (∀ o ∈ t.sw.offered, o.rx ≠ some l.val) ∧
          (∀ c ∈ t.sw.copies, c.rx = some l.val → c.whole = true ∨ c.sending = true)) ∧
      (∀ o < 22, (outCrossings o).contains x = true →
        (t.sched o).sending = none ∧ ∀ e, (h.sched o).sending = some e → ∀ c ∈ t.sw.copies, c.id ≠ e.1) ∧
      (x.src.val < 4 ∨ 8 < x.src.val ∨ x.dst ≠ 2 ∨ x.kind ≠ .queue → (∀ o < 22, (outCrossings o).contains x = true → (h.sched o).sending = none) →
        t.sw = h.sw ∧ t.lanes = h.lanes) ∧
      RegsKept h t (fun a => [Reg.ISL_XSTAT, Reg.ISL_CNT_XSTOP, Reg.ISL_XLAST, Reg.ISL_CNT_XDROP, Reg.SW_VATFREE, Reg.SW_VATMIN, Reg.SW_EVT].contains a ||
        (List.range 5).any (fun k => a == Reg.RING_CNT_STOMP k) || (List.range 9).any (fun k => a == Reg.SW_HQ_LVL k) || satReg a) ∧ MemKept h t)) ∧
    (h.xStopped x = true → Completes (.crossingLiveReturn x) ⟨q, h⟩ (fun t =>
      Assoc.get t.xings x = some .resync ∧ (∀ y, y ≠ x → Assoc.get t.xings y = Assoc.get h.xings y) ∧ RegsKept h t (· == Reg.ISL_XSTAT) ∧
      MemKept h t)) ∧
    (h.xStopped x = false → Completes (.crossingLiveReturn x) ⟨q, h⟩ (fun t => t = h)) ∧
    (Assoc.get h.xings x = some .resync → h.starts = [] → (x = cmdCrossing x.dst.val → ∀ e ∈ h.xwaits, e.1 ≠ x.dst.val) →
      Completes (.crossingResyncDone x) ⟨q, h⟩ (fun t =>
      t.xOpen x = true ∧ (∀ y, y ≠ x → Assoc.get t.xings y = Assoc.get h.xings y) ∧
      (∀ u : UnitId, x = pushCrossing u.island → t.rd u.shadow &&& 0xFFFFFF0F#32 = u.word (h.unit u) &&& 0xFFFFFF0F#32) ∧
      ((h.rd Reg.ISL_GRPSTAT).getLsbD g = true → h.armed (.groupReset g) = false →
        ((∃ e ∈ t.xings, e.1.touches g = true ∧ e.2 ≠ .stopped) → (t.rd Reg.ISL_GRPSTAT).getLsbD g = true) ∧
        ((∀ e ∈ t.xings, e.1.touches g = true → e.2 = .stopped) → (t.rd Reg.ISL_GRPSTAT).getLsbD g = false ∧ t.is Fld.ISL_EVT_GRPDONE = true)) ∧
      RegsKept h t (fun a => [Reg.ISL_XSTAT, Reg.ISL_GRPSTAT, Reg.ISL_EVT].contains a || allUnits.any (fun u => a == u.shadow)) ∧ MemKept h t)) ∧
    (h.xings = [(x, .resync)] → h.starts = [(g.val, vio.val)] → h.xwaits = [] → h.sealed_ = true → (h.rd Reg.ISL_GRPSTAT).getLsbD g = true →
      h.armed (.groupReset g) = false → 3 ≤ g.val → g.val ≠ 8 →
      Completes (.crossingResyncDone x) ⟨q, h⟩ (fun t =>
        t.xOpen x = true ∧ t.starts = [] ∧ (t.rd Reg.ISL_GRPSTAT).getLsbD g = false ∧ t.is Fld.ISL_EVT_GRPDONE = true ∧
        (∀ u ∈ allUnits, islandGroup u.island = g → (t.unit u).state ≠ .reset))) ∧
    (∀ a : Nat, Assoc.get h.xings x = some .resync → x = cmdCrossing x.dst.val → h.starts = [] → h.xwaits = [(x.dst.val, req, .write a v)] →
      regIsland a = x.dst.val → (regRow a).isSome = true → ownWrite a = false → h.sealed_ = false →
      Completes (.crossingResyncDone x) ⟨q, h⟩ (fun t =>
        t.xOpen x = true ∧ t.xwaits = [] ∧
        (∀ k < 32, (rwBits a ||| rwsBits a).getLsbD k = true → (t.rd a).getLsbD k = v.getLsbD k) ∧
        RegsKept h t (fun b => b == a || [Reg.ISL_XSTAT, Reg.ISL_GRPSTAT, Reg.ISL_EVT].contains b || allUnits.any (fun u => b == u.shadow)) ∧ MemKept h t)) ∧
    (Assoc.get h.xings x ≠ some .resync → Completes (.crossingResyncDone x) ⟨q, h⟩ (fun t => t = h)) ∧
    (h.allows req Reg.ISL_GRESET = true →
      (v.extractLsb' 8 8 = 0x5A#8 → (v.extractLsb' 0 5).toNat = g → 3 ≤ g.val → h.rd Reg.ISL_GRPSTAT = 0#32 →
        Completes (.groupResetOrder req v) ⟨q, h⟩ (fun t =>
          (∀ y ∈ allCrossings, y.touches g = true → Assoc.get t.xings y = some .reset) ∧
          (∀ u ∈ allUnits, islandGroup u.island = g → t.unit u = UnitRec.reset) ∧ (t.rd Reg.ISL_GRPSTAT).getLsbD g = true ∧
          t.timerAt (.groupReset g) (h.clock + us 2) ∧ t.rd Reg.ISL_CNT_GRESET = bump (h.rd Reg.ISL_CNT_GRESET) ∧
          (∀ src i, islandGroup i = g → t.faults src i = 0) ∧
          (∀ a, t.rd a &&& (rwBits a ||| rwsBits a) = h.rd a &&& (rwBits a ||| rwsBits a)) ∧ MemKept h t)) ∧
      (v.extractLsb' 8 8 ≠ 0x5A#8 ∨ (v.extractLsb' 0 5).toNat < 3 ∨ 23 < (v.extractLsb' 0 5).toNat ∨ h.rd Reg.ISL_GRPSTAT ≠ 0#32 →
        Completes (.groupResetOrder req v) ⟨q, h⟩ (fun t =>
          t.is Fld.ISL_EVT_RSTREF = true ∧ t.xings = h.xings ∧ t.units = h.units ∧ RegsKept h t (· == Reg.ISL_EVT) ∧ MemKept h t))) ∧
    (h.due (.groupReset g) = true → Completes (.groupResetRelease g vio) ⟨q, h⟩ (fun t =>
      t.armed (.groupReset g) = false ∧
      (∀ y ∈ allCrossings, y.touches g = true →
        Assoc.get t.xings y = if ∃ j : Fin 24, j ≠ g ∧ y.touches j = true ∧ h.armed (.groupReset j) = true then Assoc.get h.xings y else some .resync) ∧
      (h.starts = [] → (∀ j : Fin 24, j ≠ g → h.armed (.groupReset j) = false) →
        t.starts = [(g.val, vio.val)] ∧ t.units = h.units ∧ (t.rd Reg.ISL_GRPSTAT).getLsbD g = (h.rd Reg.ISL_GRPSTAT).getLsbD g ∧
        RegsKept h t (fun a => [Reg.ISL_XSTAT, Reg.ISL_GRPSTAT, Reg.ISL_EVT].contains a)) ∧ MemKept h t)) ∧
    (h.due (.groupReset g) = false → Completes (.groupResetRelease g vio) ⟨q, h⟩ (fun t => t = h))

/-! ### The ream and startup (chapter 12) -/

/-- R316 to R320, R325, R326, R331, R360, R368, R419, R428 to R432, R93: the release of chip reset samples the straps and records the
reset; Ploia takes the valid slot of the higher generation, or enters bypass forwarding; the sheets of the slot taken end in seal, and no unit
stays in reset; a ream write checks, erases and writes the other slot, never in format 1.x; a reset is asked for in recovery. -/
def Obligations.StartupAndReams : Prop :=
  ∀ (h : Hub) (q : List Instr) (req : Req) (slot : BitVec 4) (testmode reset ok : Bool) (vio : List (Fin 3)) (image : List Byte),
    (h.releasable = false → Completes (.chipResetRelease slot testmode) ⟨q, h⟩ (fun t => t = h)) ∧
    (h.releasable = true → h.aon.kind < 8 → Completes (.chipResetRelease slot testmode) ⟨q, h⟩ (fun t =>
      t.aon = { h.aon with held := false } ∧ t.born = h.clock ∧ t.get Fld.CHIP_STRAP_SLOT = slot.toNat ∧
      t.is Fld.CHIP_STRAP_SLOTVALID = decide (slot ≠ 15#4) ∧ t.is Fld.CHIP_STRAP_TESTMODE = testmode ∧
      t.get Fld.PWR_RSTCAUSE_KIND = h.aon.kind ∧ Counted h t (128 + h.aon.kind) ∧ t.timerAt .tagsBoot (h.clock + h.cto + ms 1) ∧
      (h.aon.kind ≠ 6 → Journals h t 1 h.aon.kind 0 ∧ MemKept h t) ∧ (h.aon.kind = 2 → Raised h t Flt.RAILRST 0) ∧
      (h.aon.kind = 6 → t.is Fld.LOG_STATUS_UNCLEAN = true ∧ Counted h t 142) ∧
      (testmode = true → h.flash.intact = true → t.is Fld.FLT_STATUS_TESTMODE = true) ∧
      (testmode = true → h.flash.intact = false → Raised h t Flt.TESTSTRAP 3) ∧
      (h.keys.pufA.valid = true ∨ h.keys.pufB.valid = true → t.keys.root = some Config.pufRoot) ∧
      (h.keys.pufA.valid = false → h.keys.pufB.valid = false →
        t.keys.root = none ∧ t.is Fld.KEY_STATUS_NOROOT = true ∧ Raised h t Flt.PUF 2) ∧
      RegsKept h t (fun a => [Reg.CHIP_STRAP, Reg.PWR_RSTCAUSE, Reg.FLT_STATUS, Reg.KEY_STATUS].contains a || logReg a || satReg a))) ∧
    (h.ploia = false ∨ h.aon.held = true ∨ h.sealed_ = true ∨ h.get Fld.REAM_CHK0_CODE ≠ 15 →
      Completes .reamSlotCheck ⟨q, h⟩ (fun t => t = h)) ∧
    (h.ploia = true → h.aon.held = false → h.sealed_ = false → h.get Fld.REAM_CHK0_CODE = 15 →
      Completes .reamSlotCheck ⟨q, h⟩ (fun t =>
        (h.slotReam 0 ≠ none → t.get Fld.REAM_CHK0_CODE = 0) ∧ (h.slotReam 1 ≠ none → t.get Fld.REAM_CHK1_CODE = 0) ∧
        (h.aon.grave = none →
          (∀ r, h.slotReam 0 = some r → (∀ r', h.slotReam 1 = some r' → r'.gen ≤ r.gen) → TakesReam h t 0 r) ∧
          (∀ r, h.slotReam 1 = some r → (∀ r', h.slotReam 0 = some r' → r'.gen < r.gen) → TakesReam h t 1 r)) ∧
        (h.aon.grave ≠ none ∨ (h.slotReam 0 = none ∧ h.slotReam 1 = none) →
          t.is Fld.REAM_STATUS_BYPASS = true ∧ t.is Fld.MBR_STATUS_BYPASS = true ∧ t.get Fld.REAM_STATUS_SLOT = 3 ∧ Raised h t Flt.NOREAM 3 ∧
          (∀ l : Fin 5, l.val < 4 → LaneIn t l .train ∧ (t.lane l).kr = true ∧ t.timerAt (.kr l) (h.clock + ms 500)) ∧
          t.is Fld.HP_LINK_UP = false ∧ t.armed .flushInterval = true) ∧
        (h.is Fld.HP_LINK_UP = false → RegsKept h t (fun a => !(a == Reg.HP_LINK || a == Reg.HP_EVT || a == Reg.HP_STATE))) ∧
        t.sealed_ = false ∧
        RegsKept h t (fun a => reamReg a || a == Reg.REAM_STATUS || a == Reg.MBR_STATUS || (List.range 12).any (fun k => a == Reg.KEY_MEASR k) ||
          (List.range 4).any (fun l => laneReg l a) || a == Reg.HP_LINK || a == Reg.HP_EVT || a == Reg.HP_STATE || satReg a) ∧ MemKept h t)) ∧
    (h.ploia = false ∨ h.aon.held = true ∨ h.sealed_ = true ∨ 1 < h.get Fld.REAM_STATUS_SLOT ∨
        h.slotReam (h.get Fld.REAM_STATUS_SLOT) = none → Completes (.sheetsApply vio) ⟨q, h⟩ (fun t => t = h)) ∧
    (∀ r, h.ploia = true → h.aon.held = false → h.sealed_ = false → h.get Fld.REAM_STATUS_SLOT ≤ 1 →
      h.slotReam (h.get Fld.REAM_STATUS_SLOT) = some r → Completes (.sheetsApply vio) ⟨q, h⟩ (fun t =>
        t.sealed_ = true ∧ t.rd Reg.REAM_GEN = BitVec.ofNat 32 r.gen ∧ t.get Fld.REAM_STATUS_FMT_MAJ = r.major % 16 ∧
        t.get Fld.REAM_STATUS_NSHEET = r.sheets.length % 256 ∧ t.time.ppsOut = some false ∧ t.armed .flushInterval = true ∧
        (∀ u ∈ allUnits, (t.unit u).state ≠ .reset))) ∧
    (h.ploia = false ∨ (h.sealed_ = false ∧ h.is Fld.REAM_STATUS_BYPASS = false) ∨ h.flash.write ≠ none →
      Completes (.reamWriteRequest req image reset) ⟨q, h⟩ (fun t => t = h)) ∧
    (h.ploia = true → h.sealed_ = true ∨ h.is Fld.REAM_STATUS_BYPASS = true → h.flash.write = none →
      (req.secure = false → h.is Fld.REAM_STATUS_BYPASS = false → Completes (.reamWriteRequest req image reset) ⟨q, h⟩ (fun t =>
        Raised h t Flt.WORLD 3 ∧ t.flash = h.flash ∧ RegsKept h t satReg ∧ MemKept h t)) ∧
      (req.secure = true ∨ h.is Fld.REAM_STATUS_BYPASS = true →
        (h.is Fld.PWR_SUPSTAT_DEFER = true → Completes (.reamWriteRequest req image reset) ⟨q, h⟩ (fun t =>
          t.flash = { h.flash with waits := h.flash.waits ++ [(.ream image reset, req, h.clock)] } ∧ RegsKept h t (fun _ => false) ∧
          MemKept h t)) ∧
        (h.is Fld.PWR_SUPSTAT_DEFER = false →
          (∀ e : ReamBad, h.reamCheck image = .error e → e.code < 16 →
            Completes (.reamWriteRequest req image reset) ⟨q, h⟩ (fun t =>
              ReamFails h t (if image.getD 4 0#8 = 1#8 ∧ 3 < e.code then 3 else e.code) h.writeSlot ∧ t.flash.write = none)) ∧
          (∀ r : Ream, h.reamCheck image = .ok r → image.getD 4 0#8 = 1#8 →
            Completes (.reamWriteRequest req image reset) ⟨q, h⟩ (fun t => ReamFails h t 3 h.writeSlot ∧ t.flash.write = none)) ∧
          (∀ r : Ream, h.reamCheck image = .ok r → image.getD 4 0#8 ≠ 1#8 → Completes (.reamWriteRequest req image reset) ⟨q, h⟩ (fun t =>
            t.flash.write = some (image, h.writeSlot, reset) ∧ FlashErased h t (reamSlot h.writeSlot) 0x100000 ∧
            RegsKept h t (fun _ => false) ∧ t.sw.vat = h.sw.vat ∧ t.log = h.log))))) ∧
    (h.flash.write = none → Completes (.reamWriteDone ok) ⟨q, h⟩ (fun t => t = h)) ∧
    (∀ n : Fin 2, h.flash.write = some (image, n.val, reset) → Completes (.reamWriteDone ok) ⟨q, h⟩ (fun t =>
      t.flash.write = none ∧ (ok = false → ReamFails h t 14 n) ∧
      (ok = true → FlashHolds h t (reamSlot n) image ∧ t.is Fld.REAM_EVT_STAGED = true ∧ t.get Fld.REAM_WRCHK_CODE = 0 ∧
        t.get Fld.REAM_WRCHK_SLOT = n ∧ RegsKept h t reamReg ∧ t.sw.vat = h.sw.vat ∧ t.log = h.log ∧
        (reset = true → h.is Fld.REAM_STATUS_BYPASS = true → t.timerAt .stagedReset (h.clock + ms 10))))) ∧
    ((h.ploia = true ∧ h.is Fld.REAM_STATUS_BYPASS = true) ∨ (h.inRecovery = true ∧ req.origin = .service) →
      Completes (.recoveryResetRequest req) ⟨q, h⟩ (fun t => ResetOrdered h t 4)) ∧
    ((h.ploia = false ∨ h.is Fld.REAM_STATUS_BYPASS = false) → (h.inRecovery = false ∨ req.origin ≠ .service) →
      Completes (.recoveryResetRequest req) ⟨q, h⟩ (fun t => t = h)) ∧
    (h.due .stagedReset = true → Completes .stagedReset ⟨q, h⟩ (fun t => ResetOrdered (h.disarm .stagedReset) t 4)) ∧
    (h.due .stagedReset = false → Completes .stagedReset ⟨q, h⟩ (fun t => t = h))

/-! ### Keys (chapter 13) -/

/-- R336 to R345: APPLY of an entry refuses by the table's order and else fills an EMPTY slot with the key that the KDF gives under the root
or a VALID parent that grants the use, a counted parent giving one use; DESTROY kills a slot with its descendants, or the root with every
slot; a tag that fails in the scrub kills its slot; KEY_RSELr takes only what R343 allows; the OTK is sealed into both copies and the
owner's fuses blow once. -/
def Obligations.KeyOperations : Prop :=
  ∀ (h : Hub) (q : List Instr) (req : Req),
    (h.allows req Reg.KEY_OP = true → ∀ e : List Byte, e = h.stage →
      (h.keys.root = none →
        Completes (.keyApply req) ⟨q, h⟩ (fun t =>
          t.rd Reg.KEY_OPSTAT = BitVec.ofNat 32 (256 * ((e.getD 1 0#8).toNat % 128) + 2) ∧ t.keys = h.keys ∧
          RegsKept h t (· == Reg.KEY_OPSTAT) ∧ MemKept h t)) ∧
      (∀ (root : BitVec 256) (n : Fin 64) (p : Nat), h.keys.root = some root → e.getD 0 0#8 = 0#8 → (e.getD 1 0#8).toNat = n →
        (e.getD 2 0#8).toNat = p → (slice e 24 40).all (· = 0#8) = true →
        (h.slotState n ≠ .empty →
          Completes (.keyApply req) ⟨q, h⟩ (fun t =>
            t.rd Reg.KEY_OPSTAT = BitVec.ofNat 32 (256 * n + 4) ∧ t.keys = h.keys ∧ RegsKept h t (· == Reg.KEY_OPSTAT) ∧ MemKept h t)) ∧
        (h.slotState n = .empty →
          (p = 0x7F →
            Completes (.keyApply req) ⟨q, h⟩ (fun t =>
              t.rd Reg.KEY_OPSTAT = BitVec.ofNat 32 (256 * n + 1) ∧ t.slotState n = .valid ∧ t.tagOk n = true ∧ t.rd (Reg.KEY_SLOT_META n) = slotMeta e ∧
              t.rd (Reg.KEY_SLOT_USES n) = BitVec.ofNat 32 (ofLe (slice e 4 4)) ∧
              Assoc.get t.keys.keys n = some (kdf root (slice e 8 16) (h.mixDig ((e.getD 3 0#8).toNat / 16 % 8) ++ h.serialLe)) ∧
              RegsKept h t (fun a => [Reg.KEY_OPSTAT, Reg.KEY_STATUS, Reg.KEY_SLOT_META n, Reg.KEY_SLOT_USES n].contains a) ∧ MemKept h t)) ∧
          (p ≠ 0x7F → n ≤ p ∨ h.slotState p ≠ .valid →
            Completes (.keyApply req) ⟨q, h⟩ (fun t =>
              t.rd Reg.KEY_OPSTAT = BitVec.ofNat 32 (256 * n + 5) ∧ t.keys = h.keys ∧ RegsKept h t (· == Reg.KEY_OPSTAT) ∧ MemKept h t)) ∧
          (p < n → h.slotState p = .valid → h.grants p .derive = false →
            Completes (.keyApply req) ⟨q, h⟩ (fun t =>
              t.rd Reg.KEY_OPSTAT = BitVec.ofNat 32 (256 * n + 6) ∧ t.keys = h.keys ∧ RegsKept h t (· == Reg.KEY_OPSTAT) ∧ MemKept h t)) ∧
          (p < n → h.slotState p = .valid → h.grants p .derive = true → h.tagOk p = false →
            Completes (.keyApply req) ⟨q, h⟩ (fun t =>
              t.rd Reg.KEY_OPSTAT = BitVec.ofNat 32 (256 * n + 6) ∧ t.slotState p = .dead ∧ t.slotState n = .empty ∧ Assoc.get t.keys.keys p = none ∧
              Raised h t Flt.KEYTAG 2 ∧ MemKept h t)) ∧
          (∀ kp, p < n → h.slotState p = .valid → h.grants p .derive = true → h.tagOk p = true → Assoc.get h.keys.keys p = some kp →
            Completes (.keyApply req) ⟨q, h⟩ (fun t =>
              t.rd Reg.KEY_OPSTAT = BitVec.ofNat 32 (256 * n + 1) ∧ t.slotState n = .valid ∧
              Assoc.get t.keys.keys n = some (kdf kp (slice e 8 16) (h.mixDig ((e.getD 3 0#8).toNat / 16 % 8) ++ h.serialLe)) ∧
              (h.is (Fld.KEY_SLOT_META_COUNTED p) = false → t.rd (Reg.KEY_SLOT_META p) = h.rd (Reg.KEY_SLOT_META p)) ∧
              (h.is (Fld.KEY_SLOT_META_COUNTED p) = true →
                (t.rd (Reg.KEY_SLOT_USES p)).toNat = (h.rd (Reg.KEY_SLOT_USES p)).toNat - 1 ∧
                t.slotState p = (if (h.rd (Reg.KEY_SLOT_USES p)).toNat ≤ 1 then .spent else .valid)) ∧
              RegsKept h t (fun a => [Reg.KEY_OPSTAT, Reg.KEY_STATUS, Reg.KEY_SLOT_META n, Reg.KEY_SLOT_USES n, Reg.KEY_SLOT_META p,
                Reg.KEY_SLOT_USES p].contains a) ∧ MemKept h t))))) ∧
    (∀ slot : BitVec 7, h.allows req Reg.KEY_OP = true →
      (slot.toNat < 64 →
        Completes (.keyDestroy req slot) ⟨q, h⟩ (fun t =>
          t.rd Reg.KEY_OPSTAT = BitVec.ofNat 32 (256 * slot.toNat + 1) ∧ t.slotState slot.toNat = .dead ∧ Assoc.get t.keys.keys slot.toNat = none ∧
          (∀ k : Fin 64, slot.toNat < k.val → h.slotState k ≠ .empty → h.get (Fld.KEY_SLOT_META_PARENT k) = slot.toNat → t.slotState k = .dead) ∧
          (∀ k : Fin 64, (h.descendants slot.toNat).contains k.val = false →
            t.slotState k = h.slotState k ∧ Assoc.get t.keys.keys k = Assoc.get h.keys.keys k) ∧ t.keys.root = h.keys.root ∧
          RegsKept h t (fun a => a == Reg.KEY_OPSTAT || a == Reg.KEY_STATUS || (List.range 64).any (fun k => a == Reg.KEY_SLOT_META k)) ∧
          MemKept h t)) ∧
      (slot = 0x7F#7 →
        Completes (.keyDestroy req slot) ⟨q, h⟩ (fun t =>
          t.keys.root = none ∧ (∀ k : Fin 64, t.slotState k = .dead ∧ Assoc.get t.keys.keys k = none) ∧ t.is Fld.KEY_STATUS_ROOTDEAD = true ∧
          RegsKept h t (fun a => a == Reg.KEY_OPSTAT || a == Reg.KEY_STATUS || (List.range 64).any (fun k => a == Reg.KEY_SLOT_META k)) ∧
          MemKept h t)) ∧
      (64 ≤ slot.toNat → slot ≠ 0x7F#7 →
        Completes (.keyDestroy req slot) ⟨q, h⟩ (fun t =>
          t.get Fld.KEY_OPSTAT_RESULT = 4 ∧ t.keys = h.keys ∧ RegsKept h t (· == Reg.KEY_OPSTAT) ∧ MemKept h t))) ∧
    (h.ready .keyScrub = true →
      let whole (k : Nat) : Prop := h.slotState k = .empty ∨ h.slotState k = .dead ∨ h.tagOk k = true
      ((∀ k : Fin 64, whole k) →
        Completes (.keyScrub []) ⟨q, h⟩ (fun t =>
          t.timerAt .keyScrub (h.dueAt .keyScrub + ms 100) ∧ t.keys = h.keys ∧ RegsKept h t (fun _ => false) ∧ MemKept h t)) ∧
      (∀ n : Fin 64, h.slotState n = .valid ∨ h.slotState n = .spent → h.tagOk n = false → (∀ k : Fin 64, k ≠ n → whole k) →
        Completes (.keyScrub []) ⟨q, h⟩ (fun t =>
          t.slotState n = .dead ∧ Assoc.get t.keys.keys n = none ∧ t.rd Reg.KEY_CNT_TAGFAIL = bump (h.rd Reg.KEY_CNT_TAGFAIL) ∧
          t.is Fld.KEY_EVT_TAGFAIL = true ∧ Raised h t Flt.KEYTAG 2 ∧
          RegsKept h t (fun a => [Reg.KEY_STATUS, Reg.KEY_CNT_TAGFAIL, Reg.KEY_EVT, Reg.FLT_HTEST 2, Reg.FLT_HEALTH].contains a ||
            (List.range 64).any (fun k => a == Reg.KEY_SLOT_META k) || satReg a) ∧ MemKept h t)) ∧
      (∀ upsets : List (Fin 64 × BitVec 256),
        Completes (.keyScrub upsets) ⟨q, h⟩ (fun t =>
          t.timerAt .keyScrub (h.dueAt .keyScrub + ms 100) ∧ t.keys.root = h.keys.root ∧
          (∀ n : Fin 64, h.slotState n = .valid ∨ h.slotState n = .spent → t.slotState n = h.slotState n ∨ t.slotState n = .dead) ∧ MemKept h t))) ∧
    (∀ (r : Fin 16) (v : Word), h.allows req (Reg.KEY_RSEL r) = true →
      (h.rselOk v = true → Completes (.keyRselWrite req r v) ⟨q, h⟩ (fun t =>
        t.rd (Reg.KEY_RSEL r) = v &&& 0xBFBFBFBF#32 ∧ RegsKept h t (· == Reg.KEY_RSEL r) ∧ MemKept h t)) ∧
      (h.rselOk v = false → Completes (.keyRselWrite req r v) ⟨q, h⟩ (fun t =>
        t.is Fld.KEY_EVT_RSELREF = true ∧ RegsKept h t (· == Reg.KEY_EVT) ∧ MemKept h t))) ∧
    (∀ (a : Act) (rest : List Act) (hdr : Header) (e : List Byte), hdr = a.frame.hdr →
      h.takes 10 (fun f => f.loadOf hdr.sring hdr.shub hdr.stream hdr.cls) a rest → e = slice a.frame.payload 0 64 →
      (hdr.world = false ∨ hdr.auth = false →
        Completes (.keyLoadFrameRx hdr.sring hdr.shub hdr.stream hdr.cls) ⟨q, h⟩ (fun t =>
          t.acts = rest ∧ t.keys = h.keys ∧ t.sw = h.sw ∧ RegsKept h t (fun _ => false) ∧ MemKept h t)) ∧
      (∀ l gs, h.routeLane hdr.sring.toNat hdr.shub.toNat = some (l, gs) → hdr.world = true → hdr.auth = true →
        (h.keys.root = none →
          Completes (.keyLoadFrameRx hdr.sring hdr.shub hdr.stream hdr.cls) ⟨q, h⟩ (fun t =>
            Offers h t (fun x => x.inp = 10 ∧ x.outs = [l] ∧ x.frame.hdr.typ = 13#4 ∧ x.frame.hdr.sub = 1#6 ∧ x.frame.hdr.dhub = hdr.shub ∧
              x.frame.payload = [2#8]) ∧ t.acts = rest ∧ t.keys = h.keys ∧
            RegsKept h t (fun a => [Reg.KEY_OPSTAT, Reg.XB_CNT_GUESS, Reg.XB_EVT].contains a) ∧ MemKept h t)) ∧
        (∀ (root : BitVec 256) (n : Fin 64), h.keys.root = some root → e.getD 0 0#8 = 0#8 →
          (e.getD 1 0#8).toNat = n → e.getD 2 0#8 = 0x7F#8 → (slice e 24 40).all (· = 0#8) = true → h.slotState n = .empty →
          Completes (.keyLoadFrameRx hdr.sring hdr.shub hdr.stream hdr.cls) ⟨q, h⟩ (fun t =>
            t.slotState n = .valid ∧ t.acts = rest ∧
            Assoc.get t.keys.keys n = some (kdf root (slice e 8 16) (h.mixDig ((e.getD 3 0#8).toNat / 16 % 8) ++ h.serialLe)) ∧
            Offers h t (fun x => x.outs = [l] ∧ x.frame.hdr.dhub = hdr.shub ∧ x.frame.payload = [1#8]) ∧
            RegsKept h t (fun a => [Reg.KEY_OPSTAT, Reg.KEY_STATUS, Reg.KEY_SLOT_META n, Reg.KEY_SLOT_USES n, Reg.XB_CNT_GUESS, Reg.XB_EVT].contains a) ∧
            MemKept h t)))) ∧
    (∀ (a : Act) (rest : List Act), h.takes 10 (fun f => f.keyFrom 1 a.frame.hdr.sring a.frame.hdr.shub) a rest →
      Completes (.keyResultRx a.frame.hdr.sring a.frame.hdr.shub) ⟨q, h⟩ (fun t =>
        t.out = .note 13 [a.frame.hdr.sring.toNat, a.frame.hdr.shub.toNat, a.frame.hdr.seq.toNat, (a.frame.payload.getD 0 0#8).toNat] :: h.out ∧
        t.acts = rest ∧ t.keys = h.keys ∧ RegsKept h t (fun _ => false) ∧ MemKept h t)) ∧
    (req.secure = true → req.origin = .service →
      (h.is Fld.PWR_SUPSTAT_DEFER = true → ∀ key a b set d,
        Completes (.otkProvision req key a b) ⟨q, h⟩ (fun t =>
          t.flash.waits = h.flash.waits ++ [(.otk key a b, req, h.clock)] ∧ t.keys = h.keys ∧ RegsKept h t (fun _ => false) ∧ MemKept h t) ∧
        Completes (.ownerFuseBlow req set d) ⟨q, h⟩ (fun t =>
          t.flash.waits = h.flash.waits ++ [(.fuse set.val d, req, h.clock)] ∧ t.keys = h.keys ∧ RegsKept h t (fun _ => false) ∧ MemKept h t)) ∧
      (h.is Fld.PWR_SUPSTAT_DEFER = false →
        (∀ root key g, h.keys.root = some root → g = (if h.keys.useB then h.keys.pufB.gen else h.keys.pufA.gen) + 1 →
          Completes (.otkProvision req key true true) ⟨q, h⟩ (fun t =>
            t.keys = { h.keys with pufA := ⟨true, g, some (h.sealOtk root key)⟩, pufB := ⟨true, g, some (h.sealOtk root key)⟩ } ∧
            RegsKept h t (fun _ => false) ∧ MemKept h t) ∧
          (∀ ok, Completes (.otkProvision req key false ok) ⟨q, h⟩ (fun t =>
            (h.keys.useB = true → t.keys = { h.keys with pufA := ⟨false, g, none⟩ }) ∧
            (h.keys.useB = false → t.keys = { h.keys with pufB := ⟨false, g, none⟩ }) ∧ RegsKept h t (fun _ => false) ∧ MemKept h t))) ∧
        (∀ (set : Fin 4) d,
          Completes (.ownerFuseBlow req set d) ⟨q, h⟩ (fun t =>
            t.keys.fuses[set.val]? = (h.keys.fuses[set.val]?).map (fun f => f.blow d) ∧
            (∀ k, k ≠ set.val → t.keys.fuses[k]? = h.keys.fuses[k]?) ∧ t.keys.keys = h.keys.keys ∧ t.keys.root = h.keys.root ∧
            RegsKept h t (fun _ => false) ∧ MemKept h t))))

/-! ### Faults, ALIVE, ERR_N, self-tests (chapter 14) -/

/-- R348 to R351, R354 to R359: one transfer of events from an island: the count, the class that rises at N events of a window towards
CEIL, the record, the pending bit, and the reactions of the source and its class; a class above BASE falls after W; the grave class sets its
latch and takes every guarded channel to OFF; a fault reset enters once its flush is in or 2 ms have passed. The identity copy of
FLT_RESETLOOP is left out here. -/
def Obligations.FaultEvents : Prop :=
  ∀ (h : Hub) (q : List Instr) (src : Fin 128) (island : Fin 26),
    (∀ (x : FaultXfer) (cur N ceil w cls : Nat) (r : FltSrc) (act : Word), Assoc.get h.faultsIn (src.val, island.val) = some x → src.val < 78 →
      src.val ≠ Flt.RESETLOOP → r = h.fltSrc src → cur = h.get (Fld.FLT_SRC_STAT_CUR src) → N = h.get (Fld.FLT_SRC_CFG_N src) →
      ceil = min 4 (h.get (Fld.FLT_SRC_CFG_CEIL src)) →
      w = x.count + (match r.wstart with | some t0 => if h.fltW src ≤ h.clock - t0 then 0 else r.wcount | none => 0) →
      ((N = 0 ∨ ceil ≤ cur ∨ w < N) ∧ cls = cur) ∨ (0 < N ∧ cur < ceil ∧ N ≤ w ∧ (w < 2 * N ∨ cur + 1 = ceil) ∧ cls = cur + 1) →
      act = (h.rd (Reg.FLT_SRC_CFG src) ||| h.rd (Reg.FLT_CLASSCFG cls)) →
      (island.val ≠ 3 → h.xOpen (eventCrossing island.val) = false → Completes (.faultEvent src island) ⟨q, h⟩ (fun t => t = h)) ∧
      (island.val = 3 ∨ h.xOpen (eventCrossing island.val) = true →
        (act.getLsbD 1 = false → act.getLsbD 2 = false → act.getLsbD 3 = false → cls ≠ 4 → h.flt.records.length < 64 →
          Completes (.faultEvent src island) ⟨q, h⟩ (fun t =>
            t.faults src island = 0 ∧ t.get (Fld.FLT_SRC_STAT_CUR src) = cls ∧
            t.rd (Reg.FLT_SRC_CNT src) = BitVec.ofNat 32 (min 0xFFFFFFFF ((h.rd (Reg.FLT_SRC_CNT src)).toNat + x.count)) ∧
            t.flt.records = h.flt.records ++ [⟨src, cls, x.count, x.first, x.last, x.inj, x.info, false⟩] ∧ t.fltPending src = true ∧
            t.is Fld.FLT_STATUS_ANYPEND = true ∧ (t.fltSrc src).int = act.getLsbD 0 ∧
            (t.fltSrc src).last = h.clock ∧ (act.getLsbD 0 = true → .ploiaInt false ∈ t.out) ∧
            (act.getLsbD 4 = true → t.is Fld.FLT_ERRN_LOW = true ∧ t.timerAt .errn (h.clock + ms (max 2 (h.get Fld.FLT_ERRN_ERRMIN)))) ∧
            (act.getLsbD 4 = false → t.rd Reg.FLT_ERRN = h.rd Reg.FLT_ERRN) ∧
            RegsKept h t (fun a => [Reg.FLT_SRC_CNT src, Reg.FLT_SRC_STAT src, Reg.FLT_PEND (src / 32), Reg.FLT_STATUS, Reg.FLT_ERRN,
              Reg.FLT_ALIVE].contains a) ∧ MemKept h t)) ∧
        Completes (.faultEvent src island) ⟨q, h⟩ (fun t =>
          (act.getLsbD 1 = true → .ploiaInt true ∈ t.out) ∧ (act.getLsbD 3 = true → t.aon.order.isSome = true) ∧
          (act.getLsbD 2 = true → 3 ≤ islandGroup island → h.armed (.groupReset (islandGroup island)) = false →
            t.timerAt (.groupReset (islandGroup island)) (h.clock + us 2)) ∧
          (cls = 4 → t.aon.grave.isSome = true ∧ ∀ n : Fin 16, t.grdState n = .off)))) ∧
    (∀ cur : Nat, src.val < 78 → cur = h.get (Fld.FLT_SRC_STAT_CUR src) →
      (h.get (Fld.FLT_SRC_CFG_BASE src) < cur → cur ≠ 4 → h.fltW src ≤ h.clock - (h.fltSrc src).last →
        Completes (.classFall src) ⟨q, h⟩ (fun t =>
          t.get (Fld.FLT_SRC_STAT_CUR src) = cur - 1 ∧ (t.fltSrc src).last = (h.fltSrc src).last + h.fltW src ∧
          RegsKept h t (fun a => [Reg.FLT_SRC_STAT src, Reg.FLT_STATUS, Reg.LOG_EVT].contains a || satReg a) ∧ MemKept h t)) ∧
      (cur ≤ h.get (Fld.FLT_SRC_CFG_BASE src) ∨ cur = 4 ∨ h.clock - (h.fltSrc src).last < h.fltW src →
        Completes (.classFall src) ⟨q, h⟩ (fun t => t = h))) ∧
    (h.aon.order = some 5 →
      (h.aon.flushed = true ∨ h.due .reset = true → h.aon.held = false → Completes .faultResetEntry ⟨q, h⟩ (fun t => InChipReset h t 5)) ∧
      (h.aon.flushed = false → h.due .reset = false → Completes .faultResetEntry ⟨q, h⟩ (fun t => t = h)))

/-- R350, R357, R358, R361 to R364: pending bits are cleared by writing 1; a pop shows the oldest record and latches its stamps; CUR follows
a new BASE or CEIL (codes above 4 taken as F4, log 161); ALIVE toggles at its instants while it runs, starts once when every condition holds and again only by REARM; ERR_N
rises when ERRMIN has run out, unless HOLD or the grave latch keeps it low. -/
def Obligations.FaultRegistersAndPins : Prop :=
  ∀ (h : Hub) (q : List Instr) (req : Req) (v : Word) (b : Bool),
    (∀ m : Fin 4, h.allows req (Reg.FLT_PEND m) = true →
      Completes (.faultPendClear req m v) ⟨q, h⟩ (fun t =>
        t.rd (Reg.FLT_PEND m) = h.rd (Reg.FLT_PEND m) &&& ~~~(v &&& ~~~h.kept (Reg.FLT_PEND m)) ∧ RegsKept h t (fun a => a == Reg.FLT_PEND m || a == Reg.FLT_STATUS) ∧ MemKept h t)) ∧
    (h.allows req Reg.FLT_RECPOP = true →
      (h.flt.records = [] → Completes (.faultRecordPop req) ⟨q, h⟩ (fun t =>
        t.out = .reply req Reg.FLT_RECPOP 0#32 :: h.out ∧ RegsKept h t (fun _ => false) ∧ MemKept h t)) ∧
      (∀ (r : FltRecord) (l : List FltRecord), h.flt.records = r :: l → r.src < 128 → r.cls < 8 → r.count < 65536 →
        Completes (.faultRecordPop req) ⟨q, h⟩ (fun t =>
          t.out = .reply req Reg.FLT_RECPOP (BitVec.ofNat 32 (0x80000000 + (if r.inj then 0x40000000 else 0) + 0x4000000 * min 15 h.flt.lost +
            0x80000 * r.src + 0x10000 * r.cls + r.count)) :: h.out ∧
          t.flt.records = l ∧ t.flt.lost = 0 ∧ t.rd Reg.FLT_RECFIRST_NS = BitVec.ofNat 32 (Stamp.ns r.first) ∧
          t.rd Reg.FLT_RECFIRST_SEC = BitVec.ofNat 32 (Stamp.sec r.first) ∧ t.rd Reg.FLT_RECLAST_NS = BitVec.ofNat 32 (Stamp.ns r.last) ∧
          t.rd Reg.FLT_RECLAST_SEC = BitVec.ofNat 32 (Stamp.sec r.last) ∧
          RegsKept h t (fun a => [Reg.FLT_RECFIRST_NS, Reg.FLT_RECFIRST_SEC, Reg.FLT_RECLAST_NS, Reg.FLT_RECLAST_SEC].contains a ||
            (List.range 4).any (fun k => a == Reg.FLT_RECDET k)) ∧ MemKept h t))) ∧
    (∀ (n : Fin 78) (new : Word) (base ceil : Nat), h.allows req (Reg.FLT_SRC_CFG n) = true →
      new = (h.fieldWrite (Reg.FLT_SRC_CFG n) v 0xFFFFFFFF#32).rd (Reg.FLT_SRC_CFG n) → base = (Fld.FLT_SRC_CFG_BASE n).of new →
      ceil = (Fld.FLT_SRC_CFG_CEIL n).of new → n.val ≠ Flt.RESETLOOP →
      Completes (.faultSrcCfgWrite req n v) ⟨q, h⟩ (fun t =>
        t.rd (Reg.FLT_SRC_CFG n) = new ∧
        (base = h.get (Fld.FLT_SRC_CFG_BASE n) → ceil = h.get (Fld.FLT_SRC_CFG_CEIL n) → t.rd (Reg.FLT_SRC_STAT n) = h.rd (Reg.FLT_SRC_STAT n)) ∧
        (base ≠ h.get (Fld.FLT_SRC_CFG_BASE n) ∨ ceil ≠ h.get (Fld.FLT_SRC_CFG_CEIL n) →
          t.get (Fld.FLT_SRC_STAT_CUR n) = max (min 4 base) (min (h.get (Fld.FLT_SRC_STAT_CUR n)) (min 4 ceil))) ∧
        RegsKept h t (fun a => [Reg.FLT_SRC_CFG n, Reg.FLT_SRC_STAT n, Reg.FLT_STATUS, Reg.FLT_ALIVE].contains a || satReg a) ∧ MemKept h t)) ∧
    (h.aliveInstant = false ∨ h.flt.toggled = some h.clock → Completes .aliveToggle ⟨q, h⟩ (fun t => t = h)) ∧
    (h.aliveInstant = true → h.flt.toggled ≠ some h.clock →
      (h.is Fld.FLT_ALIVE_RUNNING = true → Completes .aliveToggle ⟨q, h⟩ (fun t =>
        t.is Fld.FLT_ALIVE_LEVEL = !h.is Fld.FLT_ALIVE_LEVEL ∧ t.is Fld.FLT_ALIVE_RUNNING = true ∧ RegsKept h t (· == Reg.FLT_ALIVE) ∧ MemKept h t)) ∧
      (h.is Fld.FLT_ALIVE_RUNNING = false → h.get Fld.FLT_ALIVE_CAUSE = 0 →
        (h.aliveCause = none → Completes .aliveToggle ⟨q, h⟩ (fun t =>
          t.is Fld.FLT_ALIVE_LEVEL = !h.is Fld.FLT_ALIVE_LEVEL ∧ t.is Fld.FLT_ALIVE_RUNNING = true ∧ RegsKept h t (· == Reg.FLT_ALIVE) ∧ MemKept h t)) ∧
        (h.aliveCause ≠ none → Completes .aliveToggle ⟨q, h⟩ (fun t => t = h))) ∧
      (h.is Fld.FLT_ALIVE_RUNNING = false → h.get Fld.FLT_ALIVE_CAUSE ≠ 0 → us 20 ≤ h.clock - h.flt.failAt →
        Completes .aliveToggle ⟨q, h⟩ (fun t => t = h))) ∧
    (h.allows req Reg.FLT_ALIVE = true →
      (h.aliveCause = none → Completes (.aliveRearm req) ⟨q, h⟩ (fun t =>
        t.is Fld.FLT_ALIVE_RUNNING = true ∧ t.is Fld.FLT_ALIVE_LEVEL = h.is Fld.FLT_ALIVE_LEVEL ∧ RegsKept h t (· == Reg.FLT_ALIVE) ∧ MemKept h t)) ∧
      (h.aliveCause ≠ none → Completes (.aliveRearm req) ⟨q, h⟩ (fun t =>
        t.is Fld.FLT_EVT_REARMREF = true ∧ RegsKept h t (· == Reg.FLT_EVT) ∧ MemKept h t))) ∧
    (h.due .errn = true → Completes .errnRelease ⟨q, h⟩ (fun t =>
      (h.is Fld.FLT_ERRN_HOLD = false → h.aon.grave = none → t.is Fld.FLT_ERRN_LOW = false) ∧
      (h.is Fld.FLT_ERRN_HOLD = true ∨ h.aon.grave ≠ none → t.is Fld.FLT_ERRN_LOW = h.is Fld.FLT_ERRN_LOW) ∧ t.armed .errn = false ∧
      RegsKept h t (· == Reg.FLT_ERRN) ∧ MemKept h t)) ∧
    (h.allows req Reg.FLT_ERRN = true → Completes (.errnHoldWrite req b) ⟨q, h⟩ (fun t =>
      t.is Fld.FLT_ERRN_HOLD = b ∧
      (b = true ∨ h.armed .errn = true ∨ h.aon.grave ≠ none → t.is Fld.FLT_ERRN_LOW = h.is Fld.FLT_ERRN_LOW) ∧
      (b = false → h.armed .errn = false → h.aon.grave = none → t.is Fld.FLT_ERRN_LOW = false) ∧
      RegsKept h t (· == Reg.FLT_ERRN) ∧ MemKept h t))

/-- R365, R366, R368, R465 and Table 14.4: a request of a self-test is taken, deferred, refused or counted as busy; a step that ends a pass
counts it and ends the request; a failure raises FLT_BIST and marks FLT_HEALTH; a WINDOW test runs while its unit is in its window. Injected
events reach their source only in factory test mode. The die sensor raises FLT_DIETEMP at 120 C, again only after a fall below 115 C. -/
def Obligations.SelfTestsAndSensors : Prop :=
  ∀ (h : Hub) (q : List Instr) (req : Req) (k : Fin 11) (n u wh : Nat),
    (∀ v : Word, h.allows req Reg.FLT_STREQ = true → v.getLsbD 31 = true → (v.extractLsb' 24 4).toNat = k → (v.extractLsb' 0 16).toNat = n →
      (h.get Fld.FLT_STRES_RESULT = 1 ∨ h.get Fld.FLT_STRES_RESULT = 2 → Completes (.selftestRequest req v) ⟨q, h⟩ (fun t =>
        t.is Fld.FLT_STRES_BUSYHIT = true ∧ t.get Fld.FLT_STRES_RESULT = h.get Fld.FLT_STRES_RESULT ∧ t.test = h.test ∧
        RegsKept h t (· == Reg.FLT_STRES) ∧ MemKept h t)) ∧
      (h.get Fld.FLT_STRES_RESULT ≠ 1 → h.get Fld.FLT_STRES_RESULT ≠ 2 →
        (testUnits k ≤ n → Completes (.selftestRequest req v) ⟨q, h⟩ (fun t =>
          t.get Fld.FLT_STRES_RESULT = 6 ∧ t.is Fld.FLT_EVT_STDONE = true ∧ t.test = h.test ∧ RegsKept h t testReg ∧ MemKept h t)) ∧
        (n < testUnits k → testWindow k = false → Completes (.selftestRequest req v) ⟨q, h⟩ (fun t =>
          t.get Fld.FLT_STRES_RESULT = 1 ∧ t.get Fld.FLT_STRES_TEST = k ∧ t.get Fld.FLT_STRES_UNIT = n ∧ t.test = h.test ∧
          RegsKept h t testReg ∧ MemKept h t)) ∧
        (n < testUnits k → testWindow k = true → h.test.running = none →
          (h.inWindow k n = true → Completes (.selftestRequest req v) ⟨q, h⟩ (fun t =>
            t.get Fld.FLT_STRES_RESULT = 1 ∧ t.test.running = some (k.val, testUnitNo k n, true) ∧ t.timerAt .stEnd (h.clock + testTime k) ∧
            RegsKept h t testReg ∧ MemKept h t)) ∧
          (h.inWindow k n = false → Completes (.selftestRequest req v) ⟨q, h⟩ (fun t =>
            t.get Fld.FLT_STRES_RESULT = 2 ∧ t.test.deferred = some (k.val, n) ∧
            t.timerAt .stDefer (h.clock + ms (1000 * max 60 (h.get Fld.FLT_STCFG_STDEFER))) ∧ RegsKept h t testReg ∧ MemKept h t))))) ∧
    (testWindow k = false → n < testUnits k →
      (h.test.bad.contains (k.val, n) = false → Completes (.selftestShadowStep k n wh true true) ⟨q, h⟩ (fun t =>
        t.get (Fld.FLT_HTEST_PASSES k) = min (2 ^ (Fld.FLT_HTEST_PASSES k).width - 1) (h.get (Fld.FLT_HTEST_PASSES k) + 1) ∧
        (h.get Fld.FLT_STRES_RESULT = 1 → h.get Fld.FLT_STRES_TEST = k → h.get Fld.FLT_STRES_UNIT = n →
          t.get Fld.FLT_STRES_RESULT = 3 ∧ t.is Fld.FLT_EVT_STDONE = true) ∧
        RegsKept h t (fun a => a == Reg.FLT_HTEST k || testReg a) ∧ MemKept h t)) ∧
      (k.val ≠ 2 → Completes (.selftestShadowStep k n wh false false) ⟨q, h⟩ (fun t =>
        Raised h t Flt.BIST 3 ∧ t.is ⟨Reg.FLT_HEALTH, k, 1⟩ = true ∧ t.test.bad.contains (k.val, n) = true ∧
        (k.val ≤ 1 → h.sw.retired.length < 256 → wh < 65536 → h.sw.used.contains wh = false → t.sw.retired.contains wh = true) ∧
        (2 ≤ k.val → t.sw = h.sw) ∧
        RegsKept h t (fun a => [Reg.FLT_HTEST k, Reg.FLT_HEALTH, Reg.SW_VATFREE, Reg.SW_VATMIN, Reg.SW_EVT].contains a || satReg a) ∧ MemKept h t)) ∧
      (Completes (.selftestShadowStep k n wh true false) ⟨q, h⟩ (fun t => t = h))) ∧
    (h.test.running = none → testWindow k = true → n < testUnits k →
      (h.test.deferred = some (k.val, n) → h.inWindow k n = true → Completes (.selftestWindowStart k n) ⟨q, h⟩ (fun t =>
        t.test.running = some (k.val, testUnitNo k n, true) ∧ t.test.deferred = none ∧ t.get Fld.FLT_STRES_RESULT = 1 ∧
        t.timerAt .stEnd (h.clock + testTime k) ∧ t.armed .stDefer = false ∧ RegsKept h t testReg ∧ MemKept h t)) ∧
      (h.test.deferred ≠ some (k.val, n) → h.windowOld k n = true → h.testFresh k n = false →
        Completes (.selftestWindowStart k n) ⟨q, h⟩ (fun t =>
          t.test.running = some (k.val, testUnitNo k n, false) ∧ t.timerAt .stEnd (h.clock + testTime k) ∧ RegsKept h t (fun _ => false) ∧ MemKept h t)) ∧
      (h.inWindow k n = false → Completes (.selftestWindowStart k n) ⟨q, h⟩ (fun t => t = h))) ∧
    (∀ asked ok, h.due .stEnd = true → h.test.running = some (k.val, u, asked) →
      Completes (.selftestWindowEnd ok wh) ⟨q, h⟩ (fun t =>
        t.test.running = none ∧ (asked = true → t.get Fld.FLT_STRES_RESULT = (if ok then 3 else 4) ∧ t.is Fld.FLT_EVT_STDONE = true) ∧
        (asked = false → t.rd Reg.FLT_STRES = h.rd Reg.FLT_STRES) ∧
        (ok = true → t.get (Fld.FLT_HTEST_PASSES k) = min (2 ^ (Fld.FLT_HTEST_PASSES k).width - 1) (h.get (Fld.FLT_HTEST_PASSES k) + 1)) ∧
        (ok = false → Raised h t Flt.BIST 3 ∧ t.is ⟨Reg.FLT_HEALTH, k, 1⟩ = true) ∧
        RegsKept h t (fun a => a == Reg.FLT_HTEST k || a == Reg.FLT_HEALTH || testReg a || satReg a) ∧ MemKept h t)) ∧
    (h.due .stDefer = true → h.test.deferred ≠ none → Completes .selftestDeferExpiry ⟨q, h⟩ (fun t =>
      t.test.deferred = none ∧ t.get Fld.FLT_STRES_RESULT = 5 ∧ t.is Fld.FLT_EVT_STDONE = true ∧ RegsKept h t testReg ∧ MemKept h t)) ∧
    (∀ v : Word, h.allows req Reg.FLT_INJ = true → v.getLsbD 31 = true → (v.extractLsb' 16 7).toNat = n → (v.extractLsb' 0 16).toNat = u →
      (h.is Fld.FLT_STATUS_TESTMODE = true → n < 78 → 0 < u → Completes (.faultInject req v) ⟨q, h⟩ (fun t =>
        t.faults n (faultIsland n) = min 65535 (h.faults n (faultIsland n) + u) ∧ RegsKept h t satReg ∧ MemKept h t)) ∧
      (h.is Fld.FLT_STATUS_TESTMODE = false ∨ 78 ≤ n ∨ u = 0 → Completes (.faultInject req v) ⟨q, h⟩ (fun t => t = h))) ∧
    (∀ T : Int,
      (1200 ≤ T → h.aon.dieHot = false → Completes (.dieTempCross T) ⟨q, h⟩ (fun t =>
        t.aon = { h.aon with dieTemp := T, dieHot := true } ∧ Raised h t Flt.DIETEMP 0 ∧ RegsKept h t satReg ∧ MemKept h t)) ∧
      (T < 1200 ∨ h.aon.dieHot = true → Completes (.dieTempCross T) ⟨q, h⟩ (fun t =>
        t.aon = { h.aon with dieTemp := T, dieHot := h.aon.dieHot && decide (1150 ≤ T) } ∧ t.faultsIn = h.faultsIn ∧
        RegsKept h t (fun _ => false) ∧ MemKept h t)))

/-! ### The watermark log (chapter 15) -/

/-- R372 to R376, R379, R430: the interval, a command or a merged order starts a flush; a trailer that reads back right commits the copy, with
GEN one higher, and starts a roll-up that is owed; the second failure of a trailer raises FLT_LOGWR; a year record that reads back right is
valid. -/
def Obligations.LogFlushes : Prop :=
  ∀ (h : Hub) (q : List Instr) (req : Req) (v : Word) (ok : Bool),
    (h.due .flushInterval = true → Completes .flushInterval ⟨q, h⟩ (fun t =>
      FlushOrdered (h.disarm .flushInterval) t .interval ∧ RegsKept h t logReg ∧ t.sw.vat = h.sw.vat ∧ t.flash = h.flash)) ∧
    (h.due .flushInterval = false → Completes .flushInterval ⟨q, h⟩ (fun t => t = h)) ∧
    (h.allows req Reg.LOG_CTL = true →
      (v.getLsbD 0 = true → Completes (.logFlushCmd req v) ⟨q, h⟩ (fun t =>
        FlushOrdered h t .command ∧ RegsKept h t logReg ∧ t.sw.vat = h.sw.vat ∧ t.flash = h.flash)) ∧
      (v.getLsbD 0 = false → Completes (.logFlushCmd req v) ⟨q, h⟩ (fun t => t = h))) ∧
    (h.due .mergedFlush = true →
      (h.halted = false → h.log.merged ≠ [] → Completes .mergedFlushStart ⟨q, h⟩ (fun t =>
        FlushStarts h t h.log.merged ∧ RegsKept h t logReg ∧ t.sw.vat = h.sw.vat ∧ t.flash = h.flash)) ∧
      (h.halted = true ∨ h.log.merged = [] → Completes .mergedFlushStart ⟨q, h⟩ (fun t => t = h.disarm .mergedFlush))) ∧
    (h.due .mergedFlush = false → Completes .mergedFlushStart ⟨q, h⟩ (fun t => t = h)) ∧
    (h.log.flush = none → Completes (.flushCommit ok) ⟨q, h⟩ (fun t => t = h)) ∧
    (∀ (f : Flush) (base writes gen : Nat), h.log.flush = some f → base = runningBase f.toB →
      writes = ofLe (memRead h.log.mem (base + 0x3FF8) 4) + 1 → gen = h.logGen + 1 →
      Completes (.flushCommit ok) ⟨q, h⟩ (fun t =>
        (∀ a, a < base + 0x3FF0 ∨ base + 0x4000 ≤ a → t.logByte a = h.logByte a) ∧
        (2000000000 ≤ writes → (writes - 2000000000) % 500000000 = 0 → t.is Fld.LOG_EVT_WEAR = true) ∧
        (ok = true →
          (∀ k < 16, t.logByte (base + 0x3FF0 + k) = (logTrailer (runningBody f.totals f.hist) gen writes).getD k 0#8) ∧
          t.log.flush = none ∧ t.rd Reg.LOG_GEN_LO = BitVec.ofNat 32 gen ∧ t.rd Reg.LOG_GEN_HI = BitVec.ofNat 32 (gen / 0x100000000) ∧
          t.is Fld.LOG_STATUS_ACTIVE = f.toB ∧ t.is Fld.LOG_STATUS_BUSY = false ∧ t.is Fld.LOG_EVT_FLUSHED = true ∧
          t.rd Reg.LOG_CNT_FLUSH = bump (h.rd Reg.LOG_CNT_FLUSH) ∧ Counted h t 146 ∧ t.log.commitAt = h.clock ∧ t.log.committed = true ∧
          (f.why.contains .reset = true → h.aon.order ≠ none → t.aon.flushed = true) ∧
          t.log.ident.clean = (if f.why.contains .reset = true ∧ h.aon.order = some 4 then true else h.log.committed && h.log.ident.clean) ∧
          (1 ≤ yearsOf f.totals → yearValid h.log.mem (yearsOf f.totals - 1) = false → f.why.contains .warning = false →
            f.why.contains .reset = false → h.deferred = false → t.log.rollup = some f) ∧
          (yearsOf f.totals = 0 ∨ yearValid h.log.mem (yearsOf f.totals - 1) = true ∨ f.why.contains .warning = true ∨
            f.why.contains .reset = true ∨ h.deferred = true → t.log.rollup = h.log.rollup)) ∧
        (ok = false →
          t.is Fld.LOG_EVT_WRFAIL = true ∧ t.rd Reg.LOG_CNT_RETRY = bump (h.rd Reg.LOG_CNT_RETRY) ∧
          t.rd Reg.LOG_GEN_LO = h.rd Reg.LOG_GEN_LO ∧ t.rd Reg.LOG_GEN_HI = h.rd Reg.LOG_GEN_HI ∧
          (f.again = false → t.log.flush = some { f with again := true } ∧ t.rd Reg.LOG_STATUS = h.rd Reg.LOG_STATUS) ∧
          (f.again = true → t.log.flush = none ∧ Raised h t Flt.LOGWR 0 ∧ t.is Fld.LOG_STATUS_BUSY = false ∧
            t.is Fld.LOG_STATUS_ACTIVE = h.is Fld.LOG_STATUS_ACTIVE)) ∧
        RegsKept h t (fun a => [Reg.LOG_GEN_LO, Reg.LOG_GEN_HI, Reg.LOG_STATUS, Reg.LOG_EVT, Reg.LOG_CNT_FLUSH, Reg.LOG_CNT_RETRY].contains a ||
          satReg a) ∧ t.sw.vat = h.sw.vat ∧ t.flash = h.flash)) ∧
    (h.log.rollup = none → Completes (.rollupDone ok) ⟨q, h⟩ (fun t => t = h)) ∧
    (∀ (f : Flush) (y : Nat), h.log.rollup = some f → y = yearsOf f.totals - 1 → Completes (.rollupDone ok) ⟨q, h⟩ (fun t =>
      t.log.rollup = none ∧ (ok = true → t.is Fld.LOG_EVT_ROLLUP = true ∧ yearValid t.log.mem y = true ∧
        (∀ i < 512, memRead t.log.mem (yearBase y + 64 + 4 * i) 4 = leBytes 4 (Sparse.get zeroNat f.totals i))) ∧
      (∀ a, a < yearBase y ∨ yearBase y + 0x1850 ≤ a → t.logByte a = h.logByte a) ∧
      RegsKept h t (fun a => a == Reg.LOG_EVT || satReg a) ∧ t.sw.vat = h.sw.vat ∧ t.flash = h.flash))

/-- R374, R375, R378, R465 and Tables 15.3 and 15.4: every second the totals of Table 15.2 and the histograms take their samples; a type that
is written directly goes into its slot at once; an identity change that has waited is written into the copy that is not current (the numbers that
waited for it are CensusRounds' clause). -/
def Obligations.LogSamplesAndRecords : Prop :=
  ∀ (h : Hub) (q : List Instr) (die : Int) (vdd vdds vddsh vio33 vddaon vaon33 : BitVec 16) (typ : Fin 11) (arg : BitVec 16) (data : BitVec 48),
    (h.aon.up = false ∨ h.ready .histogram = false → Completes (.histogramSample die vdd vdds vddsh vio33 vddaon vaon33) ⟨q, h⟩ (fun t => t = h)) ∧
    (h.aon.up = true → h.ready .histogram = true → Completes (.histogramSample die vdd vdds vddsh vio33 vddaon vaon33) ⟨q, h⟩ (fun t =>
      t.rd Reg.PWR_RAIL0 = vdds ++ vdd ∧ t.rd Reg.PWR_RAIL1 = vio33 ++ vddsh ∧ t.rd Reg.PWR_RAIL2 = vaon33 ++ vddaon ∧
      t.aon = { h.aon with dieTemp := die } ∧ Counted h t 143 ∧ (h.pgood = true → Counted h t 144) ∧
      (h.pgood = false → t.logTotal 144 = h.logTotal 144) ∧ t.get Fld.LOG_STATUS_YEARS = min 255 (t.logTotal 143 / 31536000) ∧
      (∀ n b, (n, b) ∈ [(0, histBin die (-400) 25), (1, histBin h.tj (-400) 25), (2, histBin (h.get Fld.PWR_MEAS0_FA) 0 100),
          (3, histBin (h.get Fld.PWR_MEAS0_FB) 0 100), (5, histBin vdd.toNat 700 5), (6, histBin vaon33.toNat 2900 10)] →
        Sparse.get zeroNat t.log.hist (64 * n + b) = min 0xFFFFFFFF (Sparse.get zeroNat h.log.hist (64 * n + b) + 1)) ∧
      (h.pgood = true → h.aon.held = false → ∀ n < 8, ∀ b, b = histBin (h.get (Fld.SEN_GREF_V n)) 0 64 →
        Sparse.get zeroNat t.log.hist (64 * (7 + n) + b) = min 0xFFFFFFFF (Sparse.get zeroNat h.log.hist (64 * (7 + n) + b) + 1)) ∧
      t.timerAt .histogram (h.dueAt .histogram + ms 1000) ∧
      RegsKept h t (fun a => [Reg.PWR_RAIL0, Reg.PWR_RAIL1, Reg.PWR_RAIL2, Reg.LOG_STATUS].contains a) ∧ MemKept h t)) ∧
    (h.aon.up = true → typ = 2 ∨ typ = 5 ∨ typ = 6 ∨ typ = 7 ∨ typ = 8 → Completes (.directRecord typ arg data) ⟨q, h⟩ (fun t =>
      JournalsNow h t typ arg.toNat data.toNat ∧ RegsKept h t (fun a => a == Reg.LOG_JSEQ || a == Reg.LOG_CNT_JLOST) ∧
      t.sw.vat = h.sw.vat ∧ t.flash = h.flash)) ∧
    (h.aon.up = false ∨ (typ ≠ 2 ∧ typ ≠ 5 ∧ typ ≠ 6 ∧ typ ≠ 7 ∧ typ ≠ 8) → Completes (.directRecord typ arg data) ⟨q, h⟩ (fun t => t = h)) ∧
    (h.due .identity = false → Completes .identityWriteDeferred ⟨q, h⟩ (fun t => t = h)) ∧
    (h.due .identity = true → h.log.identOwed = false → (∀ b, (h.member b).adopting = none) → Completes .identityWriteDeferred ⟨q, h⟩ (fun t => t = h.disarm .identity)) ∧
    (h.due .identity = true → h.log.identOwed = true → (∀ b, (h.member b).adopting = none) → Completes .identityWriteDeferred ⟨q, h⟩ (fun t =>
      (h.log.idA.2.1 ≤ h.log.idB.2.1 → t.log.idA = (h.log.ident, h.log.idB.2.1 + 1, h.log.idA.2.2 + 1) ∧ t.log.idB = h.log.idB) ∧
      (h.log.idB.2.1 < h.log.idA.2.1 → t.log.idB = (h.log.ident, h.log.idA.2.1 + 1, h.log.idB.2.2 + 1) ∧ t.log.idA = h.log.idA) ∧
      t.log.identOwed = false ∧ t.timerAt .identity (h.clock + ms 100) ∧ RegsKept h t (fun a => a == Reg.LOG_EVT || satReg a) ∧ MemKept h t))

/-! ### The update of Ploia (chapter 16) -/

/-- R385 to R390, R393, R423 and Tables 16.2, 16.3 and 16.5: START, CHUNK, COMMIT, ABORT and CONFIRM end with the RESULT code of their state and
checks; a session erases the chunk table; a chunk is written with its mark; a whole image that passes the checks is staged; CONFIRM blows the
fuses of the new security version and retires the old settings store. -/
def Obligations.UpdateRequests : Prop :=
  ∀ (h : Hub) (q : List Instr) (req : Req) (id : BitVec 64) (len : Nat) (force reset ok : Bool) (index : Nat) (crc : Word) (data : List Byte),
    (∀ c ∈ [Instr.updStart req id len force, .updChunk req id index crc data ok, .updCommit req id reset, .updAbort req, .updConfirm req],
      (h.updServed req = false → Completes c ⟨q, h⟩ (fun t => t = h)) ∧
      (h.updServed req = true → h.updOpen req = false → Completes c ⟨q, h⟩ (fun t =>
        Raised h t Flt.WORLD 3 ∧ t.flash = h.flash ∧ RegsKept h t satReg ∧ MemKept h t))) ∧
    (h.updOpen req = true →
      (2 ≤ h.flash.upd.state → UpdEnds (.updStart req id len force) h q req 3 [] (fun t => t.flash = h.flash)) ∧
      (h.flash.upd.state < 2 →
        (∀ l, h.flash.upd.session = some (id, l) →
          UpdEnds (.updStart req id len force) h q req 1 [h.updTotal - h.updPresent] (fun t => t.flash = h.flash)) ∧
        (∀ p, h.flash.upd.session = some p → p.1 ≠ id → force = false →
          UpdEnds (.updStart req id len force) h q req 2 [] (fun t => t.flash = h.flash)) ∧
        (h.flash.upd.session = none ∨ (∃ p, h.flash.upd.session = some p ∧ p.1 ≠ id ∧ force = true) →
          (len % 512 ≠ 0 ∨ len < 65536 ∨ 4194304 < len →
            UpdEnds (.updStart req id len force) h q req 5 [] (fun t => t.flash = h.flash)) ∧
          (len % 512 = 0 → 65536 ≤ len → len ≤ 4194304 →
            (h.deferred = true → Waits (.updStart req id len force) h q req (.start id len force)) ∧
            (h.deferred = false → UpdEnds (.updStart req id len force) h q req 1 [len / 512] (fun t =>
              t.flash.upd = { h.flash.upd with state := 1, session := some (id, len) } ∧ FlashErased h t chunkTable 0x10000))))) ∧
      (∀ c ∈ [Instr.updChunk req id index crc data ok, .updCommit req id reset],
        (2 ≤ h.flash.upd.state ∨ h.flash.upd.session = none → UpdEnds c h q req 3 [] (fun t => t.flash = h.flash)) ∧
        (h.flash.upd.state < 2 → ∀ p, h.flash.upd.session = some p → p.1 ≠ id → UpdEnds c h q req 2 [] (fun t => t.flash = h.flash))) ∧
      (∀ l, h.flash.upd.state < 2 → h.flash.upd.session = some (id, l) →
        (h.updTotal ≤ index → UpdEnds (.updChunk req id index crc data ok) h q req 5 [] (fun t => t.flash = h.flash)) ∧
        (index < h.updTotal → index < 8192 → data.length = 512 →
          (crc32c data ≠ crc → UpdEnds (.updChunk req id index crc data ok) h q req 4 [] (fun t => t.flash = h.flash)) ∧
          (crc32c data = crc →
            (chunkPresent h.flash.mem index = true → UpdEnds (.updChunk req id index crc data ok) h q req 1 [] (fun t =>
              t.flash = h.flash ∧ t.rd Reg.UPD_CNT_DUP = bump (h.rd Reg.UPD_CNT_DUP))) ∧
            (chunkPresent h.flash.mem index = false → h.deferred = true →
              Waits (.updChunk req id index crc data ok) h q req (.chunk id index crc data ok)) ∧
            (chunkPresent h.flash.mem index = false → h.deferred = false →
              UpdEnds (.updChunk req id index crc data ok) h q req (if ok then 1 else 10) [] (fun t =>
                t.flash.upd = h.flash.upd ∧
                (∀ a, (a < stagingSlot + 512 * index ∨ stagingSlot + 512 * index + 512 ≤ a) →
                  (a < chunkTable + 8 * index ∨ chunkTable + 8 * index + 8 ≤ a) → t.flashByte a = h.flashByte a ∨
                    (t.flashByte a = 0xFF#8 ∧ ∃ k, k / 8 = index / 8 ∧ chunkPresent h.flash.mem k = false ∧
                      stagingSlot + 512 * k ≤ a ∧ a < stagingSlot + 512 * k + 512)) ∧
                (ok = true → t.rd Reg.UPD_CNT_CHUNK = bump (h.rd Reg.UPD_CNT_CHUNK) ∧
                  (∀ k < 512, t.flashByte (stagingSlot + 512 * index + k) = data.getD k 0#8) ∧
                  ((∀ k < 8, h.flashByte (chunkTable + 8 * index + k) = 0xFF#8) → chunkPresent t.flash.mem index = true)))))) ∧
        (h.updPresent < h.updTotal → UpdEnds (.updCommit req id reset) h q req 6 [] (fun t => t.flash = h.flash ∧ Raised h t Flt.UPDFAIL 3)) ∧
        (h.updTotal ≤ h.updPresent →
          (∀ c, CommitFails h c →
            (h.deferred = true → Waits (.updCommit req id reset) h q req (.commit id reset)) ∧
            (h.deferred = false → UpdEnds (.updCommit req id reset) h q req c [] (fun t =>
              Raised h t Flt.UPDFAIL 3 ∧ t.flash = { h.flash with upd := { h.flash.upd with state := 0, session := none } }))) ∧
          (∀ i, imageHead h.flash.mem stagingSlot = some i → i.len = 512 * h.updTotal → imageSigned h.flash.mem stagingSlot i = true →
            h.flash.fused ≤ i.svn → i.svn ≤ 64 →
            (h.deferred = true → Waits (.updCommit req id reset) h q req (.commit id reset)) ∧
            (h.deferred = false → UpdEnds (.updCommit req id reset) h q req 1 [] (fun t =>
              t.flash = { h.flash with upd := { h.flash.upd with
                state := 2, window := max 1 (min 1440 (h.get Fld.UPD_CFG_WINDOW)),
                oldRel := (h.get Fld.UPD_RUNREL_MAJ, h.get Fld.UPD_RUNREL_MIN), newRel := (i.major, i.minor), newSvn := i.svn, step := 0 } } ∧
              t.is Fld.UPD_EVT_STAGED = true ∧ Journals h t 10 1 (updData t.flash.upd h.flash.fused) ∧
              (reset = true → t.timerAt .stagedReset (h.clock + ms 10))))))) ∧
      ((h.flash.upd.state = 1 ∨ h.flash.upd.state = 2) →
        (h.deferred = true → Waits (.updAbort req) h q req .abort) ∧
        (h.deferred = false → UpdEnds (.updAbort req) h q req 1 [] (fun t =>
          t.flash = { h.flash with upd := { h.flash.upd with state := 0, session := none } } ∧ t.armed .stagedReset = false ∧
          Journals h t 10 5 (updData h.flash.upd h.flash.fused)))) ∧
      (h.flash.upd.state ≠ 1 → h.flash.upd.state ≠ 2 → UpdEnds (.updAbort req) h q req 3 [] (fun t => t.flash = h.flash)) ∧
      (h.inRecovery = true → Completes (.updConfirm req) ⟨q, h⟩ (fun t => t = h)) ∧
      (h.inRecovery = false →
        (h.flash.upd.state ≠ 4 → UpdEnds (.updConfirm req) h q req 3 [] (fun t => t.flash = h.flash)) ∧
        (h.flash.upd.state = 4 → h.sealed_ = false → UpdEnds (.updConfirm req) h q req 11 [] (fun t => t.flash = h.flash)) ∧
        (h.flash.upd.state = 4 → h.sealed_ = true →
          (h.deferred = true → Waits (.updConfirm req) h q req .confirm) ∧
          (h.deferred = false → UpdEnds (.updConfirm req) h q req 1 [] (fun t =>
            t.flash.upd = { h.flash.upd with state := 0, session := none } ∧ t.flash.fused = max h.flash.fused h.flash.upd.newSvn ∧
            t.flash.mem = h.flash.mem ∧ t.flash.useB = h.flash.useB ∧
            (h.flash.useB = true → t.flash.storeA = none ∧ t.flash.storeB = h.flash.storeB) ∧
            (h.flash.useB = false → t.flash.storeB = none ∧ t.flash.storeA = h.flash.storeA) ∧ t.is Fld.UPD_EVT_CONFIRMED = true ∧
            (h.flash.fused < h.flash.upd.newSvn → t.is Fld.UPD_EVT_SVNUP = true) ∧ t.armed .trial = false)))))

/-- R306, R384, R390 to R392, R395, R423, R424: the boot ROM verifies the staged image and begins its swap, puts a trial back, goes on with a
swap, or starts the active image, else the staged one, else recovery; a step of a swap copies a sector; the trial window ends in a chip reset of
kind 6; the end of a supply warning lets the waiting requests go on, and one that has waited for 1 s fails. -/
def Obligations.BootAndSwap : Prop :=
  ∀ (h : Hub) (q : List Instr) (sfdp ok : Bool),
    (h.aon.held = true ∨ h.flash.booted = true → Completes (.bootImageVerify sfdp) ⟨q, h⟩ (fun t => t = h)) ∧
    (h.aon.held = false → h.flash.booted = false →
      (sfdp = false → Completes (.bootImageVerify sfdp) ⟨q, h⟩ (fun t => Recovers t ∧ t.flash.refused = true ∧ MemKept h t)) ∧
      (sfdp = true →
        (∀ i, h.flash.upd.state = 2 → h.goodImage stagingSlot = some i → Completes (.bootImageVerify sfdp) ⟨q, h⟩ (fun t =>
          t.flash = { h.flash with upd := { h.flash.upd with state := 3, step := 0, sectors := h.couchSectors } } ∧
          RegsKept h t updReg ∧ MemKept h t)) ∧
        (h.flash.upd.state = 2 → h.goodImage stagingSlot = none → Completes (.bootImageVerify sfdp) ⟨q, h⟩ (fun t =>
          t.flash.upd.state = 0 ∧ t.flash.upd.session = none ∧ Raised h t Flt.UPDFAIL 3 ∧ MemKept h t ∧
          (∀ i, h.goodImage activeSlot = some i → Boots t i false) ∧ (h.goodImage activeSlot = none → Recovers t))) ∧
        (h.flash.upd.state = 4 → Completes (.bootImageVerify sfdp) ⟨q, h⟩ (fun t =>
          t.flash = { h.flash with upd := { h.flash.upd with state := 5, step := 0, sectors := h.couchSectors } } ∧ t.armed .trial = false ∧
          RegsKept h t updReg ∧ MemKept h t)) ∧
        (h.flash.upd.state = 3 ∨ h.flash.upd.state = 5 → Completes (.bootImageVerify sfdp) ⟨q, h⟩ (fun t =>
          t.flash = h.flash ∧ RegsKept h t updReg ∧ MemKept h t)) ∧
        (h.flash.upd.state = 0 ∨ h.flash.upd.state = 1 → Completes (.bootImageVerify sfdp) ⟨q, h⟩ (fun t =>
          MemKept h t ∧ t.flash.upd = h.flash.upd ∧ (∀ i, h.goodImage activeSlot = some i → Boots t i false) ∧
          (∀ i, h.goodImage activeSlot = none → h.goodImage stagingSlot = some i → Boots t i true ∧ Raised h t Flt.UPDFAIL 3) ∧
          (h.goodImage activeSlot = none → h.goodImage stagingSlot = none → Recovers t))))) ∧
    (h.aon.held = true ∨ h.flash.booted = true ∨ (h.flash.upd.state ≠ 3 ∧ h.flash.upd.state ≠ 5) ∨ h.deferred = true ∨ ok = false →
      Completes (.couchStepDone ok) ⟨q, h⟩ (fun t => t = h)) ∧
    (∀ (k off src dst : Nat), h.aon.held = false → h.flash.booted = false → h.flash.upd.state = 3 ∨ h.flash.upd.state = 5 →
      h.deferred = false → k = h.flash.upd.step → off = 0x10000 * (k / 3) →
      (k % 3 = 0 ∧ src = activeSlot + off ∧ dst = 0xA40000) ∨ (k % 3 = 1 ∧ src = stagingSlot + off ∧ dst = activeSlot + off) ∨
        (k % 3 = 2 ∧ src = 0xA40000 ∧ dst = stagingSlot + off) →
      Completes (.couchStepDone true) ⟨q, h⟩ (fun t =>
        FlashHolds h t dst (flashRead h.flash.mem src 0x10000) ∧ t.sw.vat = h.sw.vat ∧ t.log.mem = h.log.mem ∧
        (k + 1 < 3 * h.flash.upd.sectors → t.flash.upd = { h.flash.upd with step := k + 1 } ∧ RegsKept h t updReg) ∧
        (∀ i, 3 * h.flash.upd.sectors ≤ k + 1 → imageHead t.flash.mem activeSlot = some i →
          Boots t i false ∧
          (h.flash.upd.state = 3 → t.flash.upd.state = 4 ∧ t.is Fld.UPD_EVT_TRIAL = true ∧
            t.timerAt .trial (h.clock + ms (60000 * h.flash.upd.window)) ∧ t.flash.useB = !h.flash.useB) ∧
          (h.flash.upd.state = 5 → t.flash.upd.state = 0 ∧ t.flash.upd.session = none ∧ t.is Fld.UPD_EVT_FELLBACK = true ∧
            t.rd Reg.UPD_CNT_FALLBACK = bump (h.rd Reg.UPD_CNT_FALLBACK) ∧ Raised h t Flt.TRIALBACK 3 ∧ t.flash.useB = !h.flash.useB)))) ∧
    (h.due .trial = true →
      (h.flash.upd.state = 4 → h.aon.held = false → Completes .trialExpiry ⟨q, h⟩ (fun t => InChipReset h t 6)) ∧
      (h.flash.upd.state ≠ 4 → Completes .trialExpiry ⟨q, h⟩ (fun t => t = h.disarm .trial))) ∧
    (h.due .trial = false → Completes .trialExpiry ⟨q, h⟩ (fun t => t = h)) ∧
    (h.due .clrHold = false → Completes .supplyWarningEnd ⟨q, h⟩ (fun t => t = h)) ∧
    (h.due .clrHold = true →
      (h.is Fld.PWR_SUPSTAT_SUPWARN = false → Completes .supplyWarningEnd ⟨q, h⟩ (fun t => t = h.disarm .clrHold)) ∧
      (h.is Fld.PWR_SUPSTAT_SUPWARN = true → Completes .supplyWarningEnd ⟨q, h⟩ (fun t =>
        t.is Fld.PWR_SUPSTAT_SUPWARN = false ∧ t.deferred = false ∧ t.flash.waits = [])) ∧
      (h.is Fld.PWR_SUPSTAT_SUPWARN = true → h.flash.waits = [] → h.ploia = false ∨ h.flash.upd.state ≠ 0 →
        Completes .supplyWarningEnd ⟨q, h⟩ (fun t =>
          t.is Fld.PWR_SUPEVT_RECOVER = true ∧ t.rd Reg.PWR_CNT_RECOVER = bump (h.rd Reg.PWR_CNT_RECOVER) ∧ Counted h t 137 ∧
          t.rd Reg.PWR_WARNLAST = BitVec.ofNat 32 (min 0xFFFFFFFF ((h.aon.recross - h.aon.warnFrom) / us 1)) ∧
          Journals h t 4 0 ((h.aon.recross - h.aon.warnFrom) / us 1) ∧ t.flash = h.flash ∧
          RegsKept h t (fun a => [Reg.PWR_SUPSTAT, Reg.PWR_SUPEVT, Reg.PWR_CNT_RECOVER, Reg.PWR_WARNLAST, Reg.LOG_CNT_JLOST].contains a) ∧
          MemKept h t))) ∧
    Completes .deferTimeout ⟨q, h⟩ (fun t =>
      t.flash.waits = h.flash.waits.filter (fun w => !decide (w.2.2 + ms 1000 ≤ h.clock)) ∧
      (∀ w ∈ h.flash.waits, w.2.2 + ms 1000 ≤ h.clock → w.1 = .abort ∨ w.1 = .confirm → .answer w.2.1.origin (.result 10 []) ∈ t.out) ∧
      (∀ w ∈ h.flash.waits, ∀ im b, w.2.2 + ms 1000 ≤ h.clock → w.1 = .ream im b → t.get Fld.REAM_WRCHK_CODE = 14) ∧
      RegsKept h t (fun a => updReg a || reamReg a) ∧ t.sw.vat = h.sw.vat ∧ t.log.mem = h.log.mem)

/-! ### The power entry (chapter 17) -/

/-- R399 to R405, R414, R415 and Table 17.3: an ADC sample shows the feeds and the bus and judges the window with the ream's thresholds; a
comparator change judges it too; a feed's gate is turned off on reverse and driven again on forward voltage; pin values are derived each
second; the insertion delay ends; REARM takes a LATCHED entry to OFF. -/
def Obligations.FeedsAndWindow : Prop :=
  ∀ (h : Hub) (q : List Instr) (req : Req) (v : Word) (fa fb fbus vout : Nat) (b uvOk ovOk : Bool) (p : PinSense),
    (h.aon.up = false ∨ h.ready .adc = false → Completes (.peAdcSample fa fb fbus vout) ⟨q, h⟩ (fun t => t = h)) ∧
    (h.aon.up = true → h.ready .adc = true → Completes (.peAdcSample fa fb fbus vout) ⟨q, h⟩ (fun t =>
      t.get Fld.PWR_MEAS0_FA = min 65535 (fa / 10) ∧ t.get Fld.PWR_MEAS0_FB = min 65535 (fb / 10) ∧
      t.get Fld.PWR_MEAS1_VBUS = min 65535 (fbus / 10) ∧ t.get Fld.PWR_MEAS1_VOUT = min 65535 (vout / 10) ∧
      t.is (feedBit 0) = decide (8000 ≤ fa) ∧ t.is (feedBit 1) = decide (8000 ≤ fb) ∧
      (h.is (feedBit 0) = true → fa < 8000 → 8000 ≤ fb → t.is Fld.PWR_EVT_FEED = true ∧ 0 < t.faults Flt.PWRFEED 0) ∧
      (h.is (feedBit 1) = true → fb < 8000 → 8000 ≤ fa → t.is Fld.PWR_EVT_FEED = true ∧ 0 < t.faults Flt.PWRFEED 0) ∧
      (h.due (.rev b) = true → t.is Fld.PWR_EVT_FEED = true ∧ 0 < t.faults Flt.PWRFEED 0) ∧
      t.entry.uvR = (if 100 * h.pwr Fld.PWR_WIN_UV_R ≤ fbus then true
        else if h.entry.uvR = true ∧ fbus + 1000 < 100 * h.pwr Fld.PWR_WIN_UV_R then decide (h.entry.uvLow + 1 < 2) else h.entry.uvR) ∧
      t.entry.ovR = (if 100 * h.pwr Fld.PWR_WIN_OV_R < fbus then true
        else if fbus + 1000 < 100 * h.pwr Fld.PWR_WIN_OV_R then false else h.entry.ovR) ∧
      WindowJudged h t ∧ t.timerAt .adc (h.dueAt .adc + us 10) ∧ RegsKept h t entryReg ∧ CoreKept h t)) ∧
    (h.aon.up = true → Completes (.uvovWindowChange uvOk ovOk) ⟨q, h⟩ (fun t =>
      t.entry.uvOk = uvOk ∧ t.entry.ovOk = ovOk ∧ t.entry.uvR = h.entry.uvR ∧ t.entry.ovR = h.entry.ovR ∧ WindowJudged h t ∧
      RegsKept h t entryReg ∧ CoreKept h t)) ∧
    (h.aon.up = false → Completes (.uvovWindowChange uvOk ovOk) ⟨q, h⟩ (fun t => t = h)) ∧
    (h.aon.up = true → (if b then h.entry.gateB else h.entry.gateA) = true → Completes (.feedReverse b) ⟨q, h⟩ (fun t =>
      t.entry = (if b then { h.entry with gateB := false } else { h.entry with gateA := false }) ∧
      t.is (feedBit (if b then 3 else 2)) = false ∧
      t.rd (if b then Reg.PWR_CNT_REVB else Reg.PWR_CNT_REVA) = bump (h.rd (if b then Reg.PWR_CNT_REVB else Reg.PWR_CNT_REVA)) ∧
      t.timerAt (.rev b) (h.clock + (ms 1 + 1)) ∧
      RegsKept h t (fun a => a == Reg.PWR_STATUS || a == (if b then Reg.PWR_CNT_REVB else Reg.PWR_CNT_REVA)) ∧ MemKept h t)) ∧
    (h.aon.up = false ∨ (if b then h.entry.gateB else h.entry.gateA) = false → Completes (.feedReverse b) ⟨q, h⟩ (fun t => t = h)) ∧
    (h.aon.up = true → Completes (.feedForwardResume b) ⟨q, h⟩ (fun t =>
      t.entry = (if b then { h.entry with gateB := true } else { h.entry with gateA := true }) ∧
      t.is (feedBit (if b then 3 else 2)) = true ∧ t.armed (.rev b) = false ∧ RegsKept h t (· == Reg.PWR_STATUS) ∧ MemKept h t)) ∧
    (h.aon.up = false → Completes (.feedForwardResume b) ⟨q, h⟩ (fun t => t = h)) ∧
    (h.aon.up = false ∨ h.ready .pins = false → Completes (.pinDerive p) ⟨q, h⟩ (fun t => t = h)) ∧
    (h.aon.up = true → h.ready .pins = true → Completes (.pinDerive p) ⟨q, h⟩ (fun t =>
      t.get Fld.PWR_PIN0_UV_P = pinWindow p.fbus p.uv ∧ t.get Fld.PWR_PIN0_OV_P = pinWindow p.fbus p.ov ∧
      (4000 ≤ p.ilim → p.ilim ≤ 40000 → 2500 ≤ p.plim → p.plim ≤ 50000 →
        t.get Fld.PWR_PIN1_VLIM_P = p.ilim / 400 ∧ t.get Fld.PWR_PIN1_PLIM_P = p.plim / 100 ∧ t.is Fld.PWR_PIN1_PINERR = false) ∧
      (p.ilim < 4000 ∨ 40000 < p.ilim ∨ p.plim < 2500 ∨ 50000 < p.plim →
        t.get Fld.PWR_PIN1_VLIM_P = h.get Fld.PWR_PIN1_VLIM_P ∧ t.get Fld.PWR_PIN1_PLIM_P = h.get Fld.PWR_PIN1_PLIM_P ∧
        t.is Fld.PWR_PIN1_PINERR = true ∧ (h.is Fld.PWR_PIN1_PINERR = false → Raised h t Flt.PWRUVOV 0 ∧ t.is Fld.PWR_EVT_UVOV = true)) ∧
      GoesOn h t ∧ t.timerAt .pins (h.dueAt .pins + ms 1000) ∧ RegsKept h t (fun a => onPages [0x24] a || satReg a) ∧ MemKept h t)) ∧
    (h.due .insertion = true → Completes .insertionDelayEnd ⟨q, h⟩ (fun t =>
      GoesOn h t ∧ RegsKept h t (onPages [0x24]) ∧ MemKept h t)) ∧
    (h.due .insertion = false → Completes .insertionDelayEnd ⟨q, h⟩ (fun t => t = h)) ∧
    (h.allows req Reg.PWR_CTL = true →
      (v.extractLsb' 8 8 = 0x3C#8 → v.getLsbD 0 = true → h.pst = .latched → Completes (.pwrRearm req v) ⟨q, h⟩ (fun t =>
        t.get Fld.PWR_STATUS_RETRIES = 0 ∧ (h.windowOpen = false → t.pst = .off) ∧
        (h.windowOpen = true → t.pst = .qualify ∧ t.timerAt .insertion (h.clock + h.insertionDelay)) ∧
        RegsKept h t (· == Reg.PWR_STATUS) ∧ MemKept h t)) ∧
      (v.extractLsb' 8 8 ≠ 0x3C#8 ∨ v.getLsbD 0 = false ∨ h.pst ≠ .latched → Completes (.pwrRearm req v) ⟨q, h⟩ (fun t => t = h)))

/-- R405 to R413, R415 and Table 17.3: RAMP completes into ON with entry good, or times out; regulation starts and ends the fault timer; a fast
trip, the fault timer and the junction model turn the FET off into COOL; the model follows R409 each microsecond; the off-time, the
retry count and the fold-back latch end. -/
def Obligations.HotSwap : Prop :=
  ∀ (h : Hub) (q : List Instr) (vsns vds temp : Nat),
    (h.pst = .ramp → h.is Fld.PWR_STATUS_REG = false → h.ready .rampOn = true → Completes .rampComplete ⟨q, h⟩ (fun t =>
      t.pst = .on ∧ t.is Fld.PWR_STATUS_EGOOD = true ∧ t.timerAt .retryReset (h.clock + ms 10000) ∧ t.armed .ramp = false ∧
      t.armed .rampOn = false ∧ t.armed .egrst = false ∧ SeqStarts h t true ∧ RegsKept h t (onPages [0x24, 0x25]) ∧ MemKept h t)) ∧
    (h.pst ≠ .ramp ∨ h.is Fld.PWR_STATUS_REG = true ∨ h.ready .rampOn = false → Completes .rampComplete ⟨q, h⟩ (fun t => t = h)) ∧
    (h.due .ramp = true →
      (h.pst = .ramp → Completes .rampTimeout ⟨q, h⟩ (fun t =>
        Cools h t 4 ∧ Raised h t Flt.PWRTIMER 0 ∧ t.rd Reg.PWR_CNT_TIMER = bump (h.rd Reg.PWR_CNT_TIMER) ∧ t.is Fld.PWR_EVT_TIMER = true ∧
        RegsKept h t entryReg ∧ CoreKept h t)) ∧
      (h.pst ≠ .ramp → Completes .rampTimeout ⟨q, h⟩ (fun t => t = h.disarm .ramp))) ∧
    (h.due .ramp = false → Completes .rampTimeout ⟨q, h⟩ (fun t => t = h)) ∧
    (h.fetOn = true → h.is Fld.PWR_STATUS_REG = false → h.vlimf vds ≤ vsns → Completes (.regulationEntry vsns vds) ⟨q, h⟩ (fun t =>
      t.is Fld.PWR_STATUS_REG = true ∧ Raised h t Flt.PWRLIMIT 0 ∧ t.rd Reg.PWR_CNT_LIMIT = bump (h.rd Reg.PWR_CNT_LIMIT) ∧ Counted h t 139 ∧
      t.timerAt .tflt (h.clock + ms (max 1 (h.pwr Fld.PWR_CFG_TFLT))) ∧ t.armed .rampOn = false ∧ t.pst = h.pst ∧
      (h.atBound vds = true → t.entry.foldHeld = true ∧ (h.entry.foldHeld = true → t.armed .foldsat = false) ∧
        (h.entry.foldHeld = false → Raised h t Flt.FOLDSAT 0 ∧ t.is Fld.PWR_EVT_FOLDSAT = true)) ∧
      (h.atBound vds = false → t.entry = h.entry ∧
        (h.entry.foldHeld = true → h.armed .foldsat = false → t.timerAt .foldsat (h.clock + ms 1000))) ∧
      RegsKept h t (fun a => [Reg.PWR_STATUS, Reg.PWR_CNT_LIMIT, Reg.PWR_EVT].contains a || satReg a) ∧ MemKept h t)) ∧
    (h.fetOn = false ∨ h.is Fld.PWR_STATUS_REG = true ∨ vsns < h.vlimf vds → Completes (.regulationEntry vsns vds) ⟨q, h⟩ (fun t => t = h)) ∧
    (h.is Fld.PWR_STATUS_REG = true → Completes .regulationEnd ⟨q, h⟩ (fun t =>
      t.is Fld.PWR_STATUS_REG = false ∧ t.armed .tflt = false ∧ t.pst = h.pst ∧ (h.pst = .ramp → t.timerAt .rampOn (h.clock + ms 1)) ∧
      (h.entry.foldHeld = true → h.fetOn = true → h.atBound h.entry.vds = true → t.armed .foldsat = false) ∧
      (h.entry.foldHeld = true → h.fetOn = false ∨ h.atBound h.entry.vds = false → h.armed .foldsat = false →
        t.timerAt .foldsat (h.clock + ms 1000)) ∧
      RegsKept h t (· == Reg.PWR_STATUS) ∧ MemKept h t)) ∧
    (h.is Fld.PWR_STATUS_REG = false → Completes .regulationEnd ⟨q, h⟩ (fun t => t = h)) ∧
    (h.fetOn = true → h.ftrip ≤ vsns → Completes (.fastTrip vsns) ⟨q, h⟩ (fun t =>
      Cools h t 1 ∧ t.entry.peak = max h.entry.peak vsns ∧ Raised h t Flt.PWRTRIP 0 ∧
      t.rd Reg.PWR_CNT_FTRIP = bump (h.rd Reg.PWR_CNT_FTRIP) ∧ t.is Fld.PWR_EVT_FTRIP = true ∧ Counted h t 138 ∧ RegsKept h t entryReg ∧
      CoreKept h t)) ∧
    (h.fetOn = false ∨ vsns < h.ftrip → Completes (.fastTrip vsns) ⟨q, h⟩ (fun t => t = h)) ∧
    (h.due .tflt = true →
      (h.fetOn = true → h.is Fld.PWR_STATUS_REG = true → Completes .faultTimerExpiry ⟨q, h⟩ (fun t =>
        Cools h t 2 ∧ Raised h t Flt.PWRTIMER 0 ∧ t.rd Reg.PWR_CNT_TIMER = bump (h.rd Reg.PWR_CNT_TIMER) ∧ t.is Fld.PWR_EVT_TIMER = true ∧
        RegsKept h t entryReg ∧ CoreKept h t)) ∧
      (h.fetOn = false ∨ h.is Fld.PWR_STATUS_REG = false → Completes .faultTimerExpiry ⟨q, h⟩ (fun t => t = h.disarm .tflt))) ∧
    (h.due .tflt = false → Completes .faultTimerExpiry ⟨q, h⟩ (fun t => t = h)) ∧
    (h.aon.up = false ∨ h.ready .thermal = false → Completes (.thermalModelUpdate vsns vds temp) ⟨q, h⟩ (fun t => t = h)) ∧
    (h.aon.up = true → h.ready .thermal = true → Completes (.thermalModelUpdate vsns vds temp) ⟨q, h⟩ (fun t =>
      t.entry.d1 = pole h.entry.d1 (h.heat vsns vds (h.pwr Fld.PWR_FETM0_RTH1)) (10 * h.pwr Fld.PWR_FETM1_TAU1) ∧
      t.entry.d2 = pole h.entry.d2 (h.heat vsns vds (h.pwr Fld.PWR_FETM0_RTH2)) (1000 * h.pwr Fld.PWR_FETM1_TAU2) ∧
      (1150 < temp → t.entry.tref = h.tamb ∧ t.is Fld.PWR_STATUS_NTC = false) ∧
      (temp ≤ 1150 → t.is Fld.PWR_STATUS_NTC = true) ∧
      t.get Fld.PWR_MEAS2_VSNS = min 65535 (vsns / 10) ∧ t.get Fld.PWR_MEAS2_TJ = (BitVec.ofInt 16 t.tj).toNat ∧
      (h.fetOn = true → h.tmax ≤ t.tj → Cools h t 3 ∧ Raised h t Flt.FETTEMP 0 ∧ t.is Fld.PWR_EVT_FETTEMP = true ∧
        t.rd Reg.PWR_CNT_FETTEMP = bump (h.rd Reg.PWR_CNT_FETTEMP) ∧ t.entry.peak = max h.entry.peak vsns ∧
        t.entry.stress = h.entry.stress + (if 1000 < vds then 1 else 0)) ∧
      (h.fetOn = false ∨ t.tj < h.tmax → GoesOn h t ∧ t.log = { h.log with totals := t.log.totals }) ∧
      t.timerAt .thermal (h.dueAt .thermal + us 1) ∧ RegsKept h t entryReg ∧ CoreKept h t)) ∧
    (h.due .offTime = true → Completes .offTimeEnd ⟨q, h⟩ (fun t =>
      t.log.ident = { h.log.ident with coolMs := 0 } ∧ t.armed .offTime = false ∧ GoesOn h t ∧
      RegsKept h t (fun a => onPages [0x24] a || a == Reg.LOG_EVT || satReg a) ∧ MemKept h t)) ∧
    (h.due .offTime = false → Completes .offTimeEnd ⟨q, h⟩ (fun t => t = h)) ∧
    (h.due .retryReset = true →
      (h.pst = .on → Completes .retryCountReset ⟨q, h⟩ (fun t =>
        t.get Fld.PWR_STATUS_RETRIES = 0 ∧ t.pst = .on ∧ t.armed .retryReset = false ∧ RegsKept h t (· == Reg.PWR_STATUS) ∧ MemKept h t)) ∧
      (h.pst ≠ .on → Completes .retryCountReset ⟨q, h⟩ (fun t => t = h.disarm .retryReset))) ∧
    (h.due .retryReset = false → Completes .retryCountReset ⟨q, h⟩ (fun t => t = h)) ∧
    (h.due .foldsat = true → Completes .foldsatRelease ⟨q, h⟩ (fun t =>
      t.entry = { h.entry with foldHeld := false } ∧ RegsKept h t (fun _ => false) ∧ MemKept h t)) ∧
    (h.due .foldsat = false → Completes .foldsatRelease ⟨q, h⟩ (fun t => t = h))

/-! ### Supplies, supervision and resets (chapter 18) -/

/-- R419 to R424, R427: each rail that is good brings the next enable; after all four power-good rises; a rail that misses its 10 ms is a failed
attempt; the rails drop one by one; a condition of the supervisor begins a supply warning, and CLRHOLD runs while all are clear. -/
def Obligations.SequencingAndWarnings : Prop :=
  ∀ (h : Hub) (q : List Instr) (below above : BitVec 5),
    (h.pgood = false → h.aon.dropping = false →
      (0 < h.aon.rails → h.aon.rails < 4 → Completes .railGoodStep ⟨q, h⟩ (fun t =>
        t.aon = { h.aon with rails := h.aon.rails + 1 } ∧ t.timerAt .railTimeout (h.clock + ms 10) ∧ RegsKept h t (fun _ => false) ∧ MemKept h t)) ∧
      (h.aon.rails = 4 → Completes .railGoodStep ⟨q, h⟩ (fun t => t = h.disarm .railTimeout)) ∧
      (h.aon.rails = 4 → Completes .powerGood ⟨q, h⟩ (fun t =>
        t.pgood = true ∧ t.aon = { h.aon with goodAt := some h.clock } ∧ t.armed .railTimeout = false ∧
        RegsKept h t (· == Reg.PWR_SUPSTAT) ∧ MemKept h t))) ∧
    (h.pgood = true ∨ h.aon.dropping = true →
      Completes .railGoodStep ⟨q, h⟩ (fun t => t = h) ∧ Completes .powerGood ⟨q, h⟩ (fun t => t = h)) ∧
    (h.due .railTimeout = true →
      (h.aon.rails = 0 ∨ h.aon.dropping = true → Completes .railSeqTimeout ⟨q, h⟩ (fun t => t = h.disarm .railTimeout)) ∧
      (0 < h.aon.rails → h.aon.rails ≤ 4 → h.aon.dropping = false → Completes .railSeqTimeout ⟨q, h⟩ (fun t =>
        t.aon.held = true ∧ (h.aon.held = false → t.aon.kind = 2) ∧ t.sealed_ = false ∧ t.get Fld.PWR_RSTCAUSE_RAIL = h.aon.rails - 1 ∧
        t.is Fld.PWR_RSTCAUSE_OV = false ∧ t.is Fld.PWR_SUPEVT_SEQFAIL = true ∧
        t.get Fld.PWR_SUPSTAT_ATTEMPT = min 3 (h.get Fld.PWR_SUPSTAT_ATTEMPT + 1) ∧
        t.is Fld.PWR_SUPSTAT_HALTED = decide (2 ≤ h.get Fld.PWR_SUPSTAT_ATTEMPT) ∧ RailDropped h t ∧
        t.timerAt .seqRetry (h.clock + ms 1000) ∧ t.log.mem = h.log.mem ∧ t.flash.mem = h.flash.mem))) ∧
    (h.due .railTimeout = false → Completes .railSeqTimeout ⟨q, h⟩ (fun t => t = h)) ∧
    (h.due .seqRetry = true → Completes .seqRetry ⟨q, h⟩ (fun t =>
      SeqStarts (h.disarm .seqRetry) t (h.is Fld.PWR_STATUS_EGOOD) ∧ RegsKept h t (fun _ => false) ∧ MemKept h t)) ∧
    (h.due .seqRetry = false → Completes .seqRetry ⟨q, h⟩ (fun t => t = h)) ∧
    (h.due .resequence = true → Completes .railResequence ⟨q, h⟩ (fun t =>
      SeqStarts (h.disarm .resequence) t (h.is Fld.PWR_STATUS_EGOOD) ∧ RegsKept h t (fun _ => false) ∧ MemKept h t)) ∧
    (h.due .resequence = false → Completes .railResequence ⟨q, h⟩ (fun t => t = h)) ∧
    (h.due .powerStep = true →
      (h.aon.dropping = true → Completes .powerDownStep ⟨q, h⟩ (fun t =>
        RailDropped h t ∧ RegsKept h t (· == Reg.PWR_SUPSTAT) ∧ MemKept h t)) ∧
      (h.aon.dropping = false → Completes .powerDownStep ⟨q, h⟩ (fun t => t = h.disarm .powerStep))) ∧
    (h.due .powerStep = false → Completes .powerDownStep ⟨q, h⟩ (fun t => t = h)) ∧
    (h.aon.up = false → Completes (.supplyWarningBegin below above) ⟨q, h⟩ (fun t => t = h)) ∧
    (∀ low : BitVec 5, h.aon.up = true → low = (if h.pgood then below else below &&& 0x10#5) →
      Completes (.supplyWarningBegin below above) ⟨q, h⟩ (fun t =>
      t.get Fld.PWR_SUPSTAT_WARN = low.toNat ∧ t.get Fld.PWR_SUPSTAT_OVER = (if h.pgood then above else above &&& 0x10#5).toNat ∧
      (below ≠ 0 ∨ above.getLsbD 4 = true → h.pgood = true → h.is Fld.PWR_SUPSTAT_SUPWARN = false →
        t.is Fld.PWR_SUPSTAT_SUPWARN = true ∧ t.deferred = true ∧ t.is Fld.PWR_SUPEVT_WARN = true ∧
        t.rd Reg.PWR_CNT_WARN = bump (h.rd Reg.PWR_CNT_WARN) ∧ Counted h t 136 ∧ Raised h t Flt.SUPWARN 0 ∧ t.aon.warnFrom = h.clock ∧
        t.armed .clrHold = false ∧ (h.halted = false → h.flushSoon = false → t.is Fld.LOG_STATUS_BUSY = true) ∧
        RegsKept h t (fun a => onPages [0x24] a || logReg a || satReg a) ∧ CoreKept h t) ∧
      (h.is Fld.PWR_SUPSTAT_SUPWARN = true →
        t.is Fld.PWR_SUPSTAT_SUPWARN = true ∧ RegsKept h t (· == Reg.PWR_SUPSTAT) ∧ MemKept h t ∧
        (low ≠ 0 ∨ above.getLsbD 4 = true ∨ h.is Fld.PWR_STATUS_EGOOD = false → t.armed .clrHold = false ∧ t.aon = h.aon) ∧
        (low = 0 → above.getLsbD 4 = false → h.is Fld.PWR_STATUS_EGOOD = true →
          (h.armed .clrHold = true → t.timers = h.timers ∧ t.aon = h.aon) ∧
          (h.armed .clrHold = false → t.timerAt .clrHold (h.clock + ms (max 1 (h.pwr Fld.PWR_SUPCFG_CLRHOLD))) ∧
            t.aon = { h.aon with recross := h.clock }))) ∧
      (h.is Fld.PWR_SUPSTAT_SUPWARN = false → h.pgood = false ∨ (below = 0 ∧ above.getLsbD 4 = false) →
        t.is Fld.PWR_SUPSTAT_SUPWARN = false ∧ t.aon = h.aon ∧ t.timers = h.timers ∧ RegsKept h t (· == Reg.PWR_SUPSTAT) ∧ MemKept h t)))

/-- R418, R425, R426, R428 to R430, R371, R379, R413, R436: a rail beyond its reset or over-voltage level, entry good that stays away, RESET_N and
an orderly order bring the chip reset of their kind; the loss of VAON33 resets the AON island, which keeps the log memory, the flash and
the fuses, and starts from the current identity copy. -/
def Obligations.ResetKinds : Prop :=
  ∀ (h : Hub) (q : List Instr) (req : Req) (v : Word) (rail : Fin 4) (ov fa fb vbus cc2 : Bool) (p : PinSense),
    (h.pgood = false → Completes (.railReset rail ov) ⟨q, h⟩ (fun t => t = h)) ∧
    (h.pgood = true → Completes (.railReset rail ov) ⟨q, h⟩ (fun t =>
      t.aon.held = true ∧ (h.aon.held = false → t.aon.kind = if h.is Fld.PWR_STATUS_EGOOD then 2 else 1) ∧ t.sealed_ = false ∧ t.aon.grave = none ∧
      t.get Fld.PWR_RSTCAUSE_RAIL = rail ∧ t.is Fld.PWR_RSTCAUSE_OV = ov ∧ t.is Fld.PWR_SUPEVT_RAILRST = true ∧
      t.rd Reg.PWR_CNT_RAILRST = bump (h.rd Reg.PWR_CNT_RAILRST) ∧
      (∀ t0, h.aon.goodAt = some t0 → h.clock - t0 < ms 10000 →
        t.get Fld.PWR_SUPSTAT_ATTEMPT = min 3 (h.get Fld.PWR_SUPSTAT_ATTEMPT + 1) ∧
        t.is Fld.PWR_SUPSTAT_HALTED = decide (2 ≤ h.get Fld.PWR_SUPSTAT_ATTEMPT)) ∧
      (∀ t0, h.aon.goodAt = some t0 → ms 10000 ≤ h.clock - t0 → t.get Fld.PWR_SUPSTAT_ATTEMPT = 0) ∧
      t.is Fld.PWR_SUPSTAT_SUPWARN = false ∧ t.deferred = false ∧ (0 < h.aon.rails → h.aon.dropping = false → RailDropped h t) ∧
      t.timerAt .resequence (h.clock + ms 100) ∧ t.log.mem = h.log.mem ∧ t.flash.mem = h.flash.mem)) ∧
    (h.due .egrst = true →
      (h.is Fld.PWR_STATUS_EGOOD = true → Completes .egrstExpiry ⟨q, h⟩ (fun t => t = h.disarm .egrst)) ∧
      (h.is Fld.PWR_STATUS_EGOOD = false → Completes .egrstExpiry ⟨q, h⟩ (fun t =>
        t.aon.held = true ∧ (h.aon.held = false → t.aon.kind = 1) ∧ t.sealed_ = false ∧
        (0 < h.aon.rails → h.aon.dropping = false → RailDropped h t) ∧ t.log.mem = h.log.mem ∧ t.flash.mem = h.flash.mem))) ∧
    (h.due .egrst = false → Completes .egrstExpiry ⟨q, h⟩ (fun t => t = h)) ∧
    (h.pgood = false → Completes .resetNFall ⟨q, h⟩ (fun t => t = { h with aon := { h.aon with pinLow := true } })) ∧
    (h.pgood = true → h.aon.held = false → Completes .resetNFall ⟨q, h⟩ (fun t => InChipReset h t 3 ∧ t.aon.pinLow = true)) ∧
    Completes .resetNRise ⟨q, h⟩ (fun t => t = { h with aon := { h.aon with pinLow := false } }) ∧
    (h.allows req Reg.PWR_RSTCTL = true →
      (v.extractLsb' 8 8 = 0x96#8 → v.getLsbD 0 = true → Completes (.orderlyResetOrder req v) ⟨q, h⟩ (fun t => ResetOrdered h t 4)) ∧
      (v.extractLsb' 8 8 ≠ 0x96#8 ∨ v.getLsbD 0 = false → Completes (.orderlyResetOrder req v) ⟨q, h⟩ (fun t => t = h))) ∧
    (h.aon.order = some 4 → h.aon.flushed = true ∨ h.due .reset = true → h.aon.held = false →
      Completes .orderlyResetEntry ⟨q, h⟩ (fun t => InChipReset h t 4)) ∧
    (h.aon.order ≠ some 4 ∨ (h.aon.flushed = false ∧ h.due .reset = false) → Completes .orderlyResetEntry ⟨q, h⟩ (fun t => t = h)) ∧
    Completes .aonReset ⟨q, h⟩ (fun t =>
      t.aon = { Aon.reset with pinLow := h.aon.pinLow } ∧ t.units = [] ∧ t.sealed_ = false ∧ t.timers = [] ∧ t.log.mem = h.log.mem ∧
      t.log.idA = h.log.idA ∧ t.log.idB = h.log.idB ∧ t.log.totals = [] ∧ t.flash.mem = h.flash.mem ∧ t.flash.fused = h.flash.fused ∧
      t.keys.fuses = h.keys.fuses ∧ t.keys.root = none ∧ RegsKept h t (fun a => !partReg a) ∧ (∀ a, partReg a = false → t.rd a = regReset a)) ∧
    (h.aon.up = true → Completes (.aonStart fa fb vbus cc2 p) ⟨q, h⟩ (fun t => t = h)) ∧
    (h.aon.up = false → Completes (.aonStart fa fb vbus cc2 p) ⟨q, h⟩ (fun t =>
      t.aon.up = true ∧ t.aon.held = true ∧ t.aon.kind = 0 ∧ t.aon.rails = 0 ∧ t.aon.grave = none ∧ t.pst = .off ∧ t.units = [] ∧
      t.log.ident = h.log.currentIdentity.getD Identity.zero ∧ t.log.idA = h.log.idA ∧ t.log.idB = h.log.idB ∧ t.flash.mem = h.flash.mem ∧
      (runningCurrent h.log.mem = none ∨ h.log.currentIdentity = none ∨ (∃ i, h.log.currentIdentity = some i ∧ i.clean = false) →
        t.is Fld.LOG_STATUS_UNCLEAN = true) ∧
      (∀ i, h.log.currentIdentity = some i → (∀ r ∈ journalValid h.log.mem, r.2 ≠ 5) →
        (i.coolMs ≠ 0 → t.timerAt .offTime (h.clock + ms i.coolMs)) ∧ (i.coolMs = 0 → t.armed .offTime = false) ∧
        (i.coolMs ≠ 0 ∨ i.tripSeq ≠ 0 → t.tj = i.coolTj ∧ t.entry.d1 = 0)) ∧
      (h.log.currentIdentity = none → (∃ r ∈ journalValid h.log.mem, r.2 = 5) →
        t.timerAt .offTime (h.clock + ms 50000) ∧ t.tj = 1500 ∧ t.entry.d1 = 0) ∧
      (vbus = true → t.is Fld.SVC_STATUS_DEADBAT = true ∧ t.is Fld.SVC_STATUS_ATTACHED = true ∧ t.svcSink = true) ∧
      (∀ a, aonPage a = false → partReg a = false → a ≠ Reg.FLT_SRC_STAT Flt.RESETLOOP → satReg a = false → t.rd a = regReset a)))

/-! ### The service port (chapter 19) -/

/-- R435, R437, R440, R443, R444: attachment, detachment and the toggle of roles; Soft_Reset, Hard_Reset, ErrorRecovery and the time-outs that lead
to them; over-voltage and over-current open the switch that they concern. -/
def Obligations.ServicePortStates : Prop :=
  ∀ (h : Hub) (q : List Instr) (cc2 accessory canSource sink : Bool) (rplvl : Fin 3) (mv : Nat),
    (h.is Fld.SVC_STATUS_ATTACHED = true ∨ h.peIs 7 = true ∨ h.aon.up = false →
      Completes (.ccAttach cc2 rplvl accessory canSource) ⟨q, h⟩ (fun t => t = h)) ∧
    (h.is Fld.SVC_STATUS_ATTACHED = false → h.peIs 7 = false → h.aon.up = true →
      (accessory = true → PortMoves (.ccAttach cc2 rplvl accessory canSource) h q (fun t =>
        t.rd Reg.SVC_CNT_ACC = bump (h.rd Reg.SVC_CNT_ACC) ∧ t.svc = h.svc ∧ t.rd Reg.SVC_STATUS = h.rd Reg.SVC_STATUS)) ∧
      (accessory = false →
        sink = (!h.svc.rp || (h.is Fld.SVC_CFG_TRYSNK && h.is Fld.SVC_CFG_SNKOK && canSource)) →
        PortMoves (.ccAttach cc2 rplvl accessory canSource) h q (fun t =>
          t.is Fld.SVC_STATUS_ATTACHED = true ∧ t.get Fld.SVC_STATUS_ROLE = (if sink then 1 else 2) ∧ t.is Fld.SVC_STATUS_CCPOL = cc2 ∧
          t.get Fld.SVC_STATUS_RPLVL = (if sink then rplvl.val else 0) ∧ t.is Fld.SVC_EVT_ATTACH = true ∧ Counted h t 145 ∧
          t.svc.srcen = !sink ∧ t.svc.snken = sink ∧ t.svc.hard = 0 ∧ PortBegins h t sink h.out 2))) ∧
    (h.is Fld.SVC_STATUS_ATTACHED = true → PortMoves .ccDetach h q (Detaches h)) ∧
    (h.is Fld.SVC_STATUS_ATTACHED = false → Completes .ccDetach ⟨q, h⟩ (fun t => t = h)) ∧
    (h.is Fld.SVC_STATUS_ATTACHED = true → h.svcSink = true → h.peIs 5 = false → h.peIs 6 = false → PortMoves .vbusDetach h q (Detaches h)) ∧
    (h.is Fld.SVC_STATUS_ATTACHED = false ∨ h.svcSink = false ∨ h.peIs 5 = true ∨ h.peIs 6 = true →
      Completes .vbusDetach ⟨q, h⟩ (fun t => t = h)) ∧
    (h.due .drp = true →
      (h.peIs 1 = true → h.svcRoles = (true, true) → PortMoves .drpToggle h q (fun t =>
        t.svc = { h.svc with rp := !h.svc.rp } ∧ t.timerAt .drp (h.clock + us 37500) ∧ t.rd Reg.SVC_STATUS = h.rd Reg.SVC_STATUS)) ∧
      (h.peIs 1 = true → h.svcRoles ≠ (true, true) → PortMoves .drpToggle h q (Unattached h)) ∧
      (h.peIs 1 = false → Completes .drpToggle ⟨q, h⟩ (fun t => t = h.disarm .drp))) ∧
    (h.due .drp = false → Completes .drpToggle ⟨q, h⟩ (fun t => t = h)) ∧
    (h.is Fld.SVC_STATUS_ATTACHED = true → PortMoves .pdSoftResetRx h q (fun t =>
      t.rd Reg.SVC_CNT_SOFTRST = bump (h.rd Reg.SVC_CNT_SOFTRST) ∧ t.is Fld.SVC_EVT_SOFTRST = true ∧
      PortBegins h t (!h.svcSource) (.pd .accept :: h.out) 2)) ∧
    (h.is Fld.SVC_STATUS_ATTACHED = false → Completes .pdSoftResetRx ⟨q, h⟩ (fun t => t = h)) ∧
    (h.is Fld.SVC_STATUS_ATTACHED = true → PortMoves .pdHardResetRx h q (fun t => HardResets h t false)) ∧
    (h.is Fld.SVC_STATUS_ATTACHED = false → Completes .pdHardResetRx ⟨q, h⟩ (fun t => t = h)) ∧
    (h.due .sender = true →
      (h.svc.wait = some .soft → PortMoves .senderResponseTimeout h q (fun t => HardResets h t true)) ∧
      (h.svc.wait ≠ some .soft → PortMoves .senderResponseTimeout h q (fun t =>
        t.rd Reg.SVC_CNT_NOREPLY = bump (h.rd Reg.SVC_CNT_NOREPLY) ∧ t.rd Reg.SVC_CNT_SOFTRST = bump (h.rd Reg.SVC_CNT_SOFTRST) ∧
        t.is Fld.SVC_EVT_SOFTRST = true ∧ Raised h t Flt.SVCPD 0 ∧ t.out = .pd .softReset :: h.out ∧ t.svc.wait = some .soft ∧
        t.timerAt .sender (h.clock + ms 27)))) ∧
    (h.due .sender = false → Completes .senderResponseTimeout ⟨q, h⟩ (fun t => t = h)) ∧
    (h.due .capWait = true →
      (h.svcSink = true → PortMoves .sinkWaitCapTimeout h q (fun t => HardResets h t true)) ∧
      (h.svcSink = false → Completes .sinkWaitCapTimeout ⟨q, h⟩ (fun t => t = h.disarm .capWait))) ∧
    (h.due .capWait = false → Completes .sinkWaitCapTimeout ⟨q, h⟩ (fun t => t = h)) ∧
    (h.due .psTransition = true → PortMoves .psTransitionTimeout h q (fun t => HardResets h t true)) ∧
    (h.due .psTransition = false → Completes .psTransitionTimeout ⟨q, h⟩ (fun t => t = h)) ∧
    (h.due .recovery = true →
      (h.peIs 7 = true → PortMoves .errorRecoveryEnd h q (Unattached h)) ∧
      (h.peIs 7 = false → Completes .errorRecoveryEnd ⟨q, h⟩ (fun t => t = h.disarm .recovery))) ∧
    (h.due .recovery = false → Completes .errorRecoveryEnd ⟨q, h⟩ (fun t => t = h)) ∧
    (h.svcSink = true → 11 * h.svcMv < 10 * mv → PortMoves (.vbusOvervoltage mv) h q (fun t =>
      Raised h t Flt.SVCFAULT 0 ∧ t.is Fld.SVC_EVT_VBUSOV = true ∧ t.svc.snken = false ∧ HardResets h t true)) ∧
    (h.svcSink = false ∨ 10 * mv ≤ 11 * h.svcMv → Completes (.vbusOvervoltage mv) ⟨q, h⟩ (fun t => t = h)) ∧
    (h.svcSource = true → PortMoves .sourceOcp h q (fun t =>
      Raised h t Flt.SVCFAULT 0 ∧ t.is Fld.SVC_EVT_SRCOCP = true ∧ ErrorRecovers h t ∧ t.out = h.out)) ∧
    (h.svcSource = false → Completes .sourceOcp ⟨q, h⟩ (fun t => t = h))

/-- R435, R438, R439, R441, R444: the Request that a sink makes of received capabilities, its answers, the transition and its end; the answers of
a source; the messages that the port declines; the three override commands, which wait for the end of an atomic sequence. -/
def Obligations.ServicePortContracts : Prop :=
  ∀ (h : Hub) (q : List Instr) (req : Req) (pdos : List Word) (pdo : Fin 8) (curr : BitVec 10) (r : Nat × Nat × Nat × Bool),
    (h.svcSink = true → PortMoves (.pdSourceCapsRx pdos) h q (fun t =>
      (∀ k < 7, t.rd (Reg.SVC_SRCCAP k) = pdos.getD k 0#32) ∧ t.armed .capWait = false ∧ ∃ r, PortRequests h t r ∧ Chosen t r)) ∧
    (h.svcSink = false → Completes (.pdSourceCapsRx pdos) ⟨q, h⟩ (fun t => t = h)) ∧
    (h.svcSource = true → h.svc.todo = none →
      (pdo = 1 → curr.toNat ≤ 150 → PortMoves (.pdRequestRx pdo curr) h q (fun t =>
        t.out = .pd .psRdy :: .pd .accept :: h.out ∧ t.is Fld.SVC_STATUS_CONTRACT = true ∧ t.peIs 4 = true ∧ t.get Fld.SVC_CONTRACT_VOLT = 100 ∧
        t.get Fld.SVC_CONTRACT_CURR = curr.toNat ∧ t.svc.hard = 0 ∧ t.svc.wait = none ∧ t.armed .sender = false)) ∧
      (pdo ≠ 1 ∨ 150 < curr.toNat → PortMoves (.pdRequestRx pdo curr) h q (fun t =>
        t.out = .pd .reject :: h.out ∧ t.peIs (if h.is Fld.SVC_STATUS_CONTRACT then 4 else 2) = true ∧
        t.rd Reg.SVC_CONTRACT = h.rd Reg.SVC_CONTRACT ∧ t.svc.wait = none))) ∧
    (h.svcSource = false → Completes (.pdRequestRx pdo curr) ⟨q, h⟩ (fun t => t = h)) ∧
    (h.svc.wait = some .answer → PortMoves .pdAcceptRx h q (fun t =>
      t.peIs 5 = true ∧ t.svc = { h.svc with wait := none } ∧ t.timerAt .psTransition (h.clock + ms 500) ∧ t.armed .sender = false ∧ t.out = h.out)) ∧
    (h.svc.wait = some .soft → PortMoves .pdAcceptRx h q (fun t => PortBegins h t (!h.svcSource) h.out 2)) ∧
    (h.svc.wait ≠ some .answer → h.svc.wait ≠ some .soft → Completes .pdAcceptRx ⟨q, h⟩ (fun t => t = h)) ∧
    (h.svc.wait = some .answer →
      (h.svc.todo = none → PortMoves .pdRejectRx h q (fun t =>
        t.peIs (if h.is Fld.SVC_STATUS_CONTRACT then 4 else 2) = true ∧ t.svc = { h.svc with wait := none, request := none } ∧
        t.rd Reg.SVC_CONTRACT = h.rd Reg.SVC_CONTRACT ∧ t.armed .sender = false)) ∧
      (h.svc.todo = some 3 → h.is Fld.SVC_STATUS_ATTACHED = true → PortMoves .pdRejectRx h q (fun t => ErrorRecovers h t ∧ t.svc.todo = none)) ∧
      (h.svc.todo = none → h.is Fld.SVC_CFG_WAITMODE = false → h.svc.waits < max 1 (h.get Fld.SVC_CFG_WAITMAX) →
        PortMoves .pdWaitRx h q (fun t =>
          t.rd Reg.SVC_CNT_WAIT = bump (h.rd Reg.SVC_CNT_WAIT) ∧ t.svc = { h.svc with wait := none, waits := h.svc.waits + 1 } ∧
          t.timerAt .sinkRequest (h.clock + ms 100) ∧ t.armed .sender = false ∧ t.rd Reg.SVC_STATUS = h.rd Reg.SVC_STATUS)) ∧
      (h.svc.todo = none → h.is Fld.SVC_CFG_WAITMODE = true ∨ max 1 (h.get Fld.SVC_CFG_WAITMAX) ≤ h.svc.waits →
        PortMoves .pdWaitRx h q (fun t =>
          t.rd Reg.SVC_CNT_WAIT = bump (h.rd Reg.SVC_CNT_WAIT) ∧ t.is Fld.SVC_EVT_WAITGIVEUP = true ∧
          t.peIs (if h.is Fld.SVC_STATUS_CONTRACT then 4 else 2) = true ∧ t.svc = { h.svc with wait := none, request := none }))) ∧
    (h.svc.wait ≠ some .answer → Completes .pdRejectRx ⟨q, h⟩ (fun t => t = h) ∧ Completes .pdWaitRx ⟨q, h⟩ (fun t => t = h)) ∧
    (h.due .sinkRequest = true →
      (h.svc.request = some r → h.svcSink = true → h.svc.wait = none → PortMoves .waitRetry h q (fun t => PortRequests h t r)) ∧
      (h.svc.request = none ∨ h.svcSink = false ∨ h.svc.wait ≠ none → Completes .waitRetry ⟨q, h⟩ (fun t => t = h.disarm .sinkRequest))) ∧
    (h.due .sinkRequest = false → Completes .waitRetry ⟨q, h⟩ (fun t => t = h)) ∧
    (h.svc.request = some r → h.peIs 5 = true → h.svc.todo = none → r.2.1 < 1024 → r.2.2.1 < 1024 → PortMoves .pdPsRdyRx h q (fun t =>
      t.is Fld.SVC_STATUS_CONTRACT = true ∧ t.get Fld.SVC_CONTRACT_VOLT = r.2.2.1 ∧ t.get Fld.SVC_CONTRACT_CURR = r.2.1 ∧ t.peIs 4 = true ∧
      t.svc = { h.svc with request := none, hard := 0, snken := true } ∧ t.armed .psTransition = false)) ∧
    (h.svc.request = none ∨ h.peIs 5 = false → Completes .pdPsRdyRx ⟨q, h⟩ (fun t => t = h)) ∧
    (∀ c m, (c, m) ∈ [(Instr.pdGetSourceCapRx, PdMsg.sourceCapabilities), (.pdGetSinkCapRx, .sinkCapabilities), (.pdRoleSwapRx, .reject),
        (.pdUnsupportedRx, .notSupported)] →
      (h.is Fld.SVC_STATUS_ATTACHED = true → Completes c ⟨q, h⟩ (fun t =>
        t.out = .pd m :: h.out ∧ t.svc = h.svc ∧ RegsKept h t (fun _ => false) ∧ MemKept h t)) ∧
      (h.is Fld.SVC_STATUS_ATTACHED = false → Completes c ⟨q, h⟩ (fun t => t = h))) ∧
    (∀ (c : Instr) (n : Nat), (c, n) ∈ [(Instr.svcRenegotiate req, 1), (.svcHardreset req, 2), (.svcErrorrecovery req, 3)] → h.preSeal req = false →
      (req.secure = false → Completes c ⟨q, h⟩ (fun t => Raised h t Flt.WORLD 3 ∧ t.svc = h.svc ∧ RegsKept h t satReg ∧ MemKept h t)) ∧
      (req.secure = true → h.svcBusy = true → Completes c ⟨q, h⟩ (fun t =>
        t.svc = { h.svc with todo := some n } ∧ RegsKept h t (fun _ => false) ∧ MemKept h t)) ∧
      (req.secure = true → h.svcBusy = false → h.is Fld.SVC_STATUS_ATTACHED = false → Completes c ⟨q, h⟩ (fun t => t = h))) ∧
    (h.preSeal req = false → req.secure = true → h.svcBusy = false → h.is Fld.SVC_STATUS_ATTACHED = true →
      (h.svcSink = true → (∃ k < 7, h.rd (Reg.SVC_SRCCAP k) ≠ 0#32) →
        PortMoves (.svcRenegotiate req) h q (fun t => ∃ r, PortRequests h t r ∧ Chosen t r)) ∧
      (h.svcSink = false ∨ (∀ k < 7, h.rd (Reg.SVC_SRCCAP k) = 0#32) → Completes (.svcRenegotiate req) ⟨q, h⟩ (fun t => t = h)) ∧
      PortMoves (.svcHardreset req) h q (fun t => HardResets h t true) ∧ PortMoves (.svcErrorrecovery req) h q (fun t => ErrorRecovers h t))

/-- R35, R38, R381, R445 to R447: a request over an attached port is counted and refused while one is held; Ploia answers it, or without Ploia the
port answers IDENT and LOGREAD itself and refuses the rest; a session opens at the lower of the requester's version and 2.3; a halt ends
what Ploia does. -/
def Obligations.ManagementOverThePort : Prop :=
  ∀ (h : Hub) (q : List Instr) (req : Req) (data : List Byte) (off len : Nat) (major minor : BitVec 8),
    (∀ c ∈ [Instr.svcVdmRequest data, .svcIdent, .svcLogread off len],
      (h.is Fld.SVC_STATUS_ATTACHED = false → Completes c ⟨q, h⟩ (fun t => t = h)) ∧
      (h.is Fld.SVC_STATUS_ATTACHED = true → h.svc.busy = true → Completes c ⟨q, h⟩ (fun t =>
        t.rd Reg.SVC_CNT_VDEM = bump (h.rd Reg.SVC_CNT_VDEM) ∧ t.out = .answer .service .refuseBusy :: h.out ∧ t.svc = h.svc ∧
        RegsKept h t (· == Reg.SVC_CNT_VDEM) ∧ MemKept h t)) ∧
      (h.is Fld.SVC_STATUS_ATTACHED = true → h.svc.busy = false → h.ploia = true → Completes c ⟨q, h⟩ (fun t =>
        t.rd Reg.SVC_CNT_VDEM = bump (h.rd Reg.SVC_CNT_VDEM) ∧ t.svc = { h.svc with busy := true } ∧
        (c = .svcVdmRequest data → t.out = .octets 2 [] data :: h.out) ∧ RegsKept h t (· == Reg.SVC_CNT_VDEM) ∧ MemKept h t)) ∧
      (h.is Fld.SVC_STATUS_ATTACHED = true → h.svc.busy = false → h.ploia = false → Completes c ⟨q, h⟩ (fun t =>
        t.rd Reg.SVC_CNT_VDEM = bump (h.rd Reg.SVC_CNT_VDEM) ∧ t.svc = h.svc ∧
        (c = .svcVdmRequest data → t.out = .answer .service .refuseNotReady :: h.out) ∧
        (c = .svcIdent → t.out = .answer .service (.data ([h.rd Reg.CHIP_ID, h.rd Reg.CHIP_REV, h.rd Reg.CHIP_SERIAL_LO, h.rd Reg.CHIP_SERIAL_HI,
          h.aon.reamLatch].flatMap (fun w => leBytes 4 w.toNat))) :: h.out) ∧
        (c = .svcLogread off len →
          (1 ≤ len → len ≤ 256 → off + len ≤ 0x40000 → t.out = .answer .service (.data (h.logOctets off len)) :: h.out) ∧
          (len = 0 ∨ 256 < len ∨ 0x40000 < off + len → t.out = .answer .service .refuseNotReady :: h.out)) ∧
        RegsKept h t (· == Reg.SVC_CNT_VDEM) ∧ MemKept h t))) ∧
    (h.halted = true → Completes (.mgmtSessionOpen req major minor) ⟨q, h⟩ (fun t => t = h) ∧ Completes .mgmtHalt ⟨q, h⟩ (fun t => t = h)) ∧
    (h.halted = false →
      (major.toNat < 2 → Completes (.mgmtSessionOpen req major minor) ⟨q, h⟩ (fun t =>
        t.out = .answer req.origin .refuseVersion :: h.out ∧ t.svc.sessions = h.svc.sessions ∧ RegsKept h t (fun _ => false) ∧ MemKept h t)) ∧
      (∀ v : Nat × Nat, 2 ≤ major.toNat →
        v = (if major.toNat = 2 ∧ minor.toNat < 3 then (2, minor.toNat) else (2, 3)) →
        Completes (.mgmtSessionOpen req major minor) ⟨q, h⟩ (fun t =>
          t.out = .answer req.origin (.version v.1 v.2) :: h.out ∧ Assoc.get t.svc.sessions req.origin = some v ∧
          RegsKept h t (fun _ => false) ∧ MemKept h t)) ∧
      Completes .mgmtHalt ⟨q, h⟩ (fun t =>
        t.halted = true ∧ t.ploia = false ∧ t.svc.sessions = [] ∧ t.log.merged = [] ∧ t.armed .flushInterval = false ∧
        t.armed .mergedFlush = false ∧ Raised h t Flt.MGMTHALT 3 ∧ RegsKept h t (fun a => a == Reg.SVC_STATUS || satReg a) ∧ MemKept h t))
end

