-- ==== Sys2Proof/Laws/Sparse.lean ====
section
/-! SUPPORT. What reading and writing a canonical table does, and that writing keeps the canonical form. -/

namespace Sys2Proof.Machine

set_option linter.unusedSectionVars false
set_option linter.unusedSimpArgs false

variable {α : Type} [DecidableEq α] (d : Nat → α)

@[simp] theorem Sparse.get_nil (k : Nat) : Sparse.get d [] k = d k := rfl

theorem Sparse.get_del_same (m : List (Nat × α)) (k : Nat) : Sparse.get d (Sparse.del m k) k = d k := by
  induction m with
  | nil => rfl
  | cons e t ih =>
    unfold Sparse.del at ih ⊢
    by_cases h : e.1 = k
    · simp [List.filter_cons, h, ih]
    · simp [List.filter_cons, h, Sparse.get, ih]

theorem Sparse.get_del_ne (m : List (Nat × α)) {k j : Nat} (hne : j ≠ k) :
    Sparse.get d (Sparse.del m k) j = Sparse.get d m j := by
  induction m with
  | nil => rfl
  | cons e t ih =>
    unfold Sparse.del at ih ⊢
    by_cases h : e.1 = k
    · have : ¬ e.1 = j := fun h' => hne (h'.symm.trans h)
      simp [List.filter_cons, h, ih, Sparse.get, hne.symm]
    · simp [List.filter_cons, h, Sparse.get, ih]

theorem Sparse.get_ins_same (m : List (Nat × α)) (k : Nat) (v : α) (h : ∀ e ∈ m, e.1 ≠ k) :
    Sparse.get d (Sparse.ins k v m) k = v := by
  induction m with
  | nil => simp [Sparse.ins, Sparse.get]
  | cons e t ih =>
    unfold Sparse.ins
    split
    · simp [Sparse.get]
    · have he : e.1 ≠ k := h e (by simp)
      simp [Sparse.get, he, ih (fun x hx => h x (by simp [hx]))]

theorem Sparse.get_ins_ne (m : List (Nat × α)) {k j : Nat} (v : α) (hne : j ≠ k) :
    Sparse.get d (Sparse.ins k v m) j = Sparse.get d m j := by
  induction m with
  | nil => simp [Sparse.ins, Sparse.get, hne.symm]
  | cons e t ih =>
    unfold Sparse.ins
    split
    · simp [Sparse.get, hne.symm]
    · simp [Sparse.get, ih]

theorem Sparse.del_keys (m : List (Nat × α)) (k : Nat) : ∀ e ∈ Sparse.del m k, e.1 ≠ k := by
  intro e he
  simp [Sparse.del] at he
  exact he.2

/-- A read after a write to the same key gives the value written. -/
@[simp] theorem Sparse.get_put_same (m : List (Nat × α)) (k : Nat) (v : α) :
    Sparse.get d (Sparse.put d m k v) k = v := by
  unfold Sparse.put
  split
  · rename_i h; rw [h, Sparse.get_del_same]
  · exact Sparse.get_ins_same d _ k v (Sparse.del_keys m k)

/-- A write leaves every other key alone. -/
theorem Sparse.get_put_ne (m : List (Nat × α)) {k j : Nat} (v : α) (hne : j ≠ k) :
    Sparse.get d (Sparse.put d m k v) j = Sparse.get d m j := by
  unfold Sparse.put
  split
  · exact Sparse.get_del_ne d m hne
  · rw [Sparse.get_ins_ne d _ v hne, Sparse.get_del_ne d m hne]

theorem Sparse.rising_mono {m : List (Nat × α)} {b c : Nat} (hb : c ≤ b) (h : Sparse.rising b m = true) :
    Sparse.rising c m = true := by
  cases m with
  | nil => rfl
  | cons e t =>
    simp only [Sparse.rising, Bool.and_eq_true, decide_eq_true_eq] at h ⊢
    exact ⟨Nat.le_trans hb h.1, h.2⟩

theorem Sparse.rising_del {m : List (Nat × α)} {b : Nat} (k : Nat) (h : Sparse.rising b m = true) :
    Sparse.rising b (Sparse.del m k) = true := by
  induction m generalizing b with
  | nil => rfl
  | cons e t ih =>
    simp only [Sparse.rising, Bool.and_eq_true, decide_eq_true_eq] at h
    have iht := ih h.2
    unfold Sparse.del at iht ⊢
    by_cases hk : e.1 = k
    · simp only [List.filter_cons, hk, bne_self_eq_false, Bool.false_eq_true, if_false]
      rw [hk] at iht h
      exact Sparse.rising_mono (by omega) iht
    · simp [List.filter_cons, hk, Sparse.rising, h.1, iht]

theorem Sparse.rising_ins {m : List (Nat × α)} {b k : Nat} (v : α) (hk : b ≤ k)
    (h : Sparse.rising b m = true) (hn : ∀ e ∈ m, e.1 ≠ k) :
    Sparse.rising b (Sparse.ins k v m) = true := by
  induction m generalizing b with
  | nil => simp [Sparse.ins, Sparse.rising, hk]
  | cons e t ih =>
    simp only [Sparse.rising, Bool.and_eq_true, decide_eq_true_eq] at h
    have hne : e.1 ≠ k := hn e (by simp)
    unfold Sparse.ins
    split
    · rename_i hlt
      simp [Sparse.rising, hk, h.2]; omega
    · rename_i hlt
      simp only [Sparse.rising, Bool.and_eq_true, decide_eq_true_eq]
      exact ⟨h.1, ih (by omega) h.2 (fun x hx => hn x (by simp [hx]))⟩

theorem Sparse.mem_ins {m : List (Nat × α)} {k : Nat} {v : α} {e : Nat × α} (h : e ∈ Sparse.ins k v m) :
    e = (k, v) ∨ e ∈ m := by
  induction m with
  | nil => simpa [Sparse.ins] using h
  | cons x t ih =>
    unfold Sparse.ins at h
    split at h
    · simpa using h
    · rcases List.mem_cons.mp h with h | h
      · exact Or.inr (by simp [h])
      · rcases ih h with h | h
        · exact Or.inl h
        · exact Or.inr (by simp [h])

/-- Every write keeps the canonical form. -/
theorem Sparse.wf_put {m : List (Nat × α)} (k : Nat) (v : α) (h : Sparse.wf d m = true) :
    Sparse.wf d (Sparse.put d m k v) = true := by
  simp only [Sparse.wf, Bool.and_eq_true, List.all_eq_true, decide_eq_true_eq] at h ⊢
  have hdel : ∀ e ∈ Sparse.del m k, e.2 ≠ d e.1 := fun e he => h.2 e (List.mem_filter.mp he).1
  unfold Sparse.put
  split
  · exact ⟨Sparse.rising_del k h.1, hdel⟩
  · rename_i hv
    refine ⟨Sparse.rising_ins v (Nat.zero_le _) (Sparse.rising_del k h.1) (Sparse.del_keys m k), ?_⟩
    intro e he
    rcases Sparse.mem_ins he with rfl | he
    · exact hv
    · exact hdel e he

@[simp] theorem Sparse.wf_nil : Sparse.wf d ([] : List (Nat × α)) = true := rfl

@[simp] theorem Assoc.get_put_same {κ β : Type} [DecidableEq κ] (m : List (κ × β)) (k : κ) (v : β) :
    Assoc.get (Assoc.put m k v) k = some v := by
  simp [Assoc.put, Assoc.get]

theorem Assoc.get_del_ne {κ β : Type} [DecidableEq κ] (m : List (κ × β)) {k j : κ} (h : j ≠ k) :
    Assoc.get (Assoc.del m k) j = Assoc.get m j := by
  induction m with
  | nil => rfl
  | cons e t ih =>
    unfold Assoc.del at ih ⊢
    by_cases he : e.1 = k
    · have : ¬ e.1 = j := fun h' => h (h'.symm.trans he)
      simp [List.filter_cons, he, ih, Assoc.get, h.symm]
    · simp [List.filter_cons, he, Assoc.get, ih]

@[simp] theorem Assoc.get_del_same {κ β : Type} [DecidableEq κ] (m : List (κ × β)) (k : κ) :
    Assoc.get (Assoc.del m k) k = none := by
  induction m with
  | nil => rfl
  | cons e t ih =>
    unfold Assoc.del at ih ⊢
    by_cases he : e.1 = k
    · simp [List.filter_cons, he, ih]
    · simp [List.filter_cons, he, Assoc.get, ih]

theorem Assoc.get_put_ne {κ β : Type} [DecidableEq κ] (m : List (κ × β)) {k j : κ} (v : β) (h : j ≠ k) :
    Assoc.get (Assoc.put m k v) j = Assoc.get m j := by
  simp [Assoc.put, Assoc.get, h.symm, Assoc.get_del_ne m h]

end Sys2Proof.Machine
end

