-- ==== Sys2Proof/Laws/State.lean ====
section
/-! SUPPORT. What the named updates of the hub leave alone, one lemma for each field and update, and what they do to the field they
change; the shorthands evt, flag, count and countField reduce to set and countBy. -/

namespace Sys2Proof.Machine

variable (h : Hub)

/-! ### The shorthands -/

@[simp] theorem Hub.evt_eq (f : Field) : h.evt f = (h.note f.reg f.mask 0).set f 1 := rfl
@[simp] theorem Hub.flag_eq (f : Field) (b : Bool) : h.flag f b = h.set f (if b then 1 else 0) := rfl
@[simp] theorem Hub.count_eq (a : Nat) : h.count a = h.countBy a 1 := rfl
@[simp] theorem Hub.countField_eq (f : Field) : h.countField f = h.set f (min (2 ^ f.width - 1) (h.get f + 1)) := rfl

/-! ### The field that an update changes -/

@[simp] theorem Hub.wr_regs (a : Nat) (v : Word) : (h.wr a v).regs = Sparse.put regReset h.regs a v := rfl
@[simp] theorem Hub.emit_out (e : Emission) : (h.emit e).out = e :: h.out := rfl
@[simp] theorem Hub.draw_draws : h.draw.draws = h.draws + 1 := rfl
@[simp] theorem Hub.arm_timers (t : Timer) (d : Nat) : (h.arm t d).timers = Assoc.put h.timers t (h.clock + d) := rfl
@[simp] theorem Hub.armAt_timers (t : Timer) (n : Nat) : (h.armAt t n).timers = Assoc.put h.timers t n := rfl
@[simp] theorem Hub.disarm_timers (t : Timer) : (h.disarm t).timers = Assoc.del h.timers t := rfl

/-! ### What note leaves alone -/

@[simp] theorem Hub.note_clock (a : Nat) (m : Word) (k : Nat) : (h.note a m k).clock = h.clock := rfl
@[simp] theorem Hub.note_timers (a : Nat) (m : Word) (k : Nat) : (h.note a m k).timers = h.timers := rfl
@[simp] theorem Hub.note_out (a : Nat) (m : Word) (k : Nat) : (h.note a m k).out = h.out := rfl
@[simp] theorem Hub.note_draws (a : Nat) (m : Word) (k : Nat) : (h.note a m k).draws = h.draws := rfl
@[simp] theorem Hub.note_regs (a : Nat) (m : Word) (k : Nat) : (h.note a m k).regs = h.regs := rfl
@[simp] theorem Hub.note_units (a : Nat) (m : Word) (k : Nat) : (h.note a m k).units = h.units := rfl
@[simp] theorem Hub.note_xings (a : Nat) (m : Word) (k : Nat) : (h.note a m k).xings = h.xings := rfl
@[simp] theorem Hub.note_xwaits (a : Nat) (m : Word) (k : Nat) : (h.note a m k).xwaits = h.xwaits := rfl
@[simp] theorem Hub.note_starts (a : Nat) (m : Word) (k : Nat) : (h.note a m k).starts = h.starts := rfl
@[simp] theorem Hub.note_clocksOff (a : Nat) (m : Word) (k : Nat) : (h.note a m k).clocksOff = h.clocksOff := rfl
@[simp] theorem Hub.note_faultsIn (a : Nat) (m : Word) (k : Nat) : (h.note a m k).faultsIn = h.faultsIn := rfl
@[simp] theorem Hub.note_time (a : Nat) (m : Word) (k : Nat) : (h.note a m k).time = h.time := rfl
@[simp] theorem Hub.note_lanes (a : Nat) (m : Word) (k : Nat) : (h.note a m k).lanes = h.lanes := rfl
@[simp] theorem Hub.note_members (a : Nat) (m : Word) (k : Nat) : (h.note a m k).members = h.members := rfl
@[simp] theorem Hub.note_incarns (a : Nat) (m : Word) (k : Nat) : (h.note a m k).incarns = h.incarns := rfl
@[simp] theorem Hub.note_incarned (a : Nat) (m : Word) (k : Nat) : (h.note a m k).incarned = h.incarned := rfl
@[simp] theorem Hub.note_announced (a : Nat) (m : Word) (k : Nat) : (h.note a m k).announced = h.announced := rfl
@[simp] theorem Hub.note_born (a : Nat) (m : Word) (k : Nat) : (h.note a m k).born = h.born := rfl
@[simp] theorem Hub.note_paths (a : Nat) (m : Word) (k : Nat) : (h.note a m k).paths = h.paths := rfl
@[simp] theorem Hub.note_dd (a : Nat) (m : Word) (k : Nat) : (h.note a m k).dd = h.dd := rfl
@[simp] theorem Hub.note_pair (a : Nat) (m : Word) (k : Nat) : (h.note a m k).pair = h.pair := rfl
@[simp] theorem Hub.note_sw (a : Nat) (m : Word) (k : Nat) : (h.note a m k).sw = h.sw := rfl
@[simp] theorem Hub.note_seqs (a : Nat) (m : Word) (k : Nat) : (h.note a m k).seqs = h.seqs := rfl
@[simp] theorem Hub.note_xact (a : Nat) (m : Word) (k : Nat) : (h.note a m k).xact = h.xact := rfl
@[simp] theorem Hub.note_host (a : Nat) (m : Word) (k : Nat) : (h.note a m k).host = h.host := rfl
@[simp] theorem Hub.note_stations (a : Nat) (m : Word) (k : Nat) : (h.note a m k).stations = h.stations := rfl
@[simp] theorem Hub.note_engines (a : Nat) (m : Word) (k : Nat) : (h.note a m k).engines = h.engines := rfl
@[simp] theorem Hub.note_lines (a : Nat) (m : Word) (k : Nat) : (h.note a m k).lines = h.lines := rfl
@[simp] theorem Hub.note_flagSets (a : Nat) (m : Word) (k : Nat) : (h.note a m k).flagSets = h.flagSets := rfl
@[simp] theorem Hub.note_armedAt (a : Nat) (m : Word) (k : Nat) : (h.note a m k).armedAt = h.armedAt := rfl
@[simp] theorem Hub.note_groups (a : Nat) (m : Word) (k : Nat) : (h.note a m k).groups = h.groups := rfl
@[simp] theorem Hub.note_senses (a : Nat) (m : Word) (k : Nat) : (h.note a m k).senses = h.senses := rfl
@[simp] theorem Hub.note_guards (a : Nat) (m : Word) (k : Nat) : (h.note a m k).guards = h.guards := rfl
@[simp] theorem Hub.note_regsB (a : Nat) (m : Word) (k : Nat) : (h.note a m k).regsB = h.regsB := rfl
@[simp] theorem Hub.note_acts (a : Nat) (m : Word) (k : Nat) : (h.note a m k).acts = h.acts := rfl
@[simp] theorem Hub.note_buses (a : Nat) (m : Word) (k : Nat) : (h.note a m k).buses = h.buses := rfl
@[simp] theorem Hub.note_log (a : Nat) (m : Word) (k : Nat) : (h.note a m k).log = h.log := rfl
@[simp] theorem Hub.note_keys (a : Nat) (m : Word) (k : Nat) : (h.note a m k).keys = h.keys := rfl
@[simp] theorem Hub.note_test (a : Nat) (m : Word) (k : Nat) : (h.note a m k).test = h.test := rfl
@[simp] theorem Hub.note_flt (a : Nat) (m : Word) (k : Nat) : (h.note a m k).flt = h.flt := rfl
@[simp] theorem Hub.note_flash (a : Nat) (m : Word) (k : Nat) : (h.note a m k).flash = h.flash := rfl
@[simp] theorem Hub.note_aon (a : Nat) (m : Word) (k : Nat) : (h.note a m k).aon = h.aon := rfl
@[simp] theorem Hub.note_entry (a : Nat) (m : Word) (k : Nat) : (h.note a m k).entry = h.entry := rfl
@[simp] theorem Hub.note_svc (a : Nat) (m : Word) (k : Nat) : (h.note a m k).svc = h.svc := rfl
@[simp] theorem Hub.note_tap (a : Nat) (m : Word) (k : Nat) : (h.note a m k).tap = h.tap := rfl
@[simp] theorem Hub.note_halted (a : Nat) (m : Word) (k : Nat) : (h.note a m k).halted = h.halted := rfl

/-! ### What wr leaves alone -/

@[simp] theorem Hub.wr_clock (a : Nat) (v : Word) : (h.wr a v).clock = h.clock := rfl
@[simp] theorem Hub.wr_timers (a : Nat) (v : Word) : (h.wr a v).timers = h.timers := rfl
@[simp] theorem Hub.wr_out (a : Nat) (v : Word) : (h.wr a v).out = h.out := rfl
@[simp] theorem Hub.wr_draws (a : Nat) (v : Word) : (h.wr a v).draws = h.draws := rfl
@[simp] theorem Hub.wr_fresh (a : Nat) (v : Word) : (h.wr a v).fresh = h.fresh := rfl
@[simp] theorem Hub.wr_units (a : Nat) (v : Word) : (h.wr a v).units = h.units := rfl
@[simp] theorem Hub.wr_xings (a : Nat) (v : Word) : (h.wr a v).xings = h.xings := rfl
@[simp] theorem Hub.wr_xwaits (a : Nat) (v : Word) : (h.wr a v).xwaits = h.xwaits := rfl
@[simp] theorem Hub.wr_starts (a : Nat) (v : Word) : (h.wr a v).starts = h.starts := rfl
@[simp] theorem Hub.wr_clocksOff (a : Nat) (v : Word) : (h.wr a v).clocksOff = h.clocksOff := rfl
@[simp] theorem Hub.wr_faultsIn (a : Nat) (v : Word) : (h.wr a v).faultsIn = h.faultsIn := rfl
@[simp] theorem Hub.wr_time (a : Nat) (v : Word) : (h.wr a v).time = h.time := rfl
@[simp] theorem Hub.wr_lanes (a : Nat) (v : Word) : (h.wr a v).lanes = h.lanes := rfl
@[simp] theorem Hub.wr_members (a : Nat) (v : Word) : (h.wr a v).members = h.members := rfl
@[simp] theorem Hub.wr_incarns (a : Nat) (v : Word) : (h.wr a v).incarns = h.incarns := rfl
@[simp] theorem Hub.wr_incarned (a : Nat) (v : Word) : (h.wr a v).incarned = h.incarned := rfl
@[simp] theorem Hub.wr_announced (a : Nat) (v : Word) : (h.wr a v).announced = h.announced := rfl
@[simp] theorem Hub.wr_born (a : Nat) (v : Word) : (h.wr a v).born = h.born := rfl
@[simp] theorem Hub.wr_paths (a : Nat) (v : Word) : (h.wr a v).paths = h.paths := rfl
@[simp] theorem Hub.wr_dd (a : Nat) (v : Word) : (h.wr a v).dd = h.dd := rfl
@[simp] theorem Hub.wr_pair (a : Nat) (v : Word) : (h.wr a v).pair = h.pair := rfl
@[simp] theorem Hub.wr_sw (a : Nat) (v : Word) : (h.wr a v).sw = h.sw := rfl
@[simp] theorem Hub.wr_seqs (a : Nat) (v : Word) : (h.wr a v).seqs = h.seqs := rfl
@[simp] theorem Hub.wr_xact (a : Nat) (v : Word) : (h.wr a v).xact = h.xact := rfl
@[simp] theorem Hub.wr_host (a : Nat) (v : Word) : (h.wr a v).host = h.host := rfl
@[simp] theorem Hub.wr_stations (a : Nat) (v : Word) : (h.wr a v).stations = h.stations := rfl
@[simp] theorem Hub.wr_engines (a : Nat) (v : Word) : (h.wr a v).engines = h.engines := rfl
@[simp] theorem Hub.wr_lines (a : Nat) (v : Word) : (h.wr a v).lines = h.lines := rfl
@[simp] theorem Hub.wr_flagSets (a : Nat) (v : Word) : (h.wr a v).flagSets = h.flagSets := rfl
@[simp] theorem Hub.wr_armedAt (a : Nat) (v : Word) : (h.wr a v).armedAt = h.armedAt := rfl
@[simp] theorem Hub.wr_groups (a : Nat) (v : Word) : (h.wr a v).groups = h.groups := rfl
@[simp] theorem Hub.wr_senses (a : Nat) (v : Word) : (h.wr a v).senses = h.senses := rfl
@[simp] theorem Hub.wr_guards (a : Nat) (v : Word) : (h.wr a v).guards = h.guards := rfl
@[simp] theorem Hub.wr_regsB (a : Nat) (v : Word) : (h.wr a v).regsB = h.regsB := rfl
@[simp] theorem Hub.wr_acts (a : Nat) (v : Word) : (h.wr a v).acts = h.acts := rfl
@[simp] theorem Hub.wr_buses (a : Nat) (v : Word) : (h.wr a v).buses = h.buses := rfl
@[simp] theorem Hub.wr_log (a : Nat) (v : Word) : (h.wr a v).log = h.log := rfl
@[simp] theorem Hub.wr_keys (a : Nat) (v : Word) : (h.wr a v).keys = h.keys := rfl
@[simp] theorem Hub.wr_test (a : Nat) (v : Word) : (h.wr a v).test = h.test := rfl
@[simp] theorem Hub.wr_flt (a : Nat) (v : Word) : (h.wr a v).flt = h.flt := rfl
@[simp] theorem Hub.wr_flash (a : Nat) (v : Word) : (h.wr a v).flash = h.flash := rfl
@[simp] theorem Hub.wr_aon (a : Nat) (v : Word) : (h.wr a v).aon = h.aon := rfl
@[simp] theorem Hub.wr_entry (a : Nat) (v : Word) : (h.wr a v).entry = h.entry := rfl
@[simp] theorem Hub.wr_svc (a : Nat) (v : Word) : (h.wr a v).svc = h.svc := rfl
@[simp] theorem Hub.wr_tap (a : Nat) (v : Word) : (h.wr a v).tap = h.tap := rfl
@[simp] theorem Hub.wr_halted (a : Nat) (v : Word) : (h.wr a v).halted = h.halted := rfl

/-! ### What set leaves alone -/

@[simp] theorem Hub.set_clock (f : Field) (v : Nat) : (h.set f v).clock = h.clock := rfl
@[simp] theorem Hub.set_timers (f : Field) (v : Nat) : (h.set f v).timers = h.timers := rfl
@[simp] theorem Hub.set_out (f : Field) (v : Nat) : (h.set f v).out = h.out := rfl
@[simp] theorem Hub.set_draws (f : Field) (v : Nat) : (h.set f v).draws = h.draws := rfl
@[simp] theorem Hub.set_fresh (f : Field) (v : Nat) : (h.set f v).fresh = h.fresh := rfl
@[simp] theorem Hub.set_units (f : Field) (v : Nat) : (h.set f v).units = h.units := rfl
@[simp] theorem Hub.set_xings (f : Field) (v : Nat) : (h.set f v).xings = h.xings := rfl
@[simp] theorem Hub.set_xwaits (f : Field) (v : Nat) : (h.set f v).xwaits = h.xwaits := rfl
@[simp] theorem Hub.set_starts (f : Field) (v : Nat) : (h.set f v).starts = h.starts := rfl
@[simp] theorem Hub.set_clocksOff (f : Field) (v : Nat) : (h.set f v).clocksOff = h.clocksOff := rfl
@[simp] theorem Hub.set_faultsIn (f : Field) (v : Nat) : (h.set f v).faultsIn = h.faultsIn := rfl
@[simp] theorem Hub.set_time (f : Field) (v : Nat) : (h.set f v).time = h.time := rfl
@[simp] theorem Hub.set_lanes (f : Field) (v : Nat) : (h.set f v).lanes = h.lanes := rfl
@[simp] theorem Hub.set_members (f : Field) (v : Nat) : (h.set f v).members = h.members := rfl
@[simp] theorem Hub.set_incarns (f : Field) (v : Nat) : (h.set f v).incarns = h.incarns := rfl
@[simp] theorem Hub.set_incarned (f : Field) (v : Nat) : (h.set f v).incarned = h.incarned := rfl
@[simp] theorem Hub.set_announced (f : Field) (v : Nat) : (h.set f v).announced = h.announced := rfl
@[simp] theorem Hub.set_born (f : Field) (v : Nat) : (h.set f v).born = h.born := rfl
@[simp] theorem Hub.set_paths (f : Field) (v : Nat) : (h.set f v).paths = h.paths := rfl
@[simp] theorem Hub.set_dd (f : Field) (v : Nat) : (h.set f v).dd = h.dd := rfl
@[simp] theorem Hub.set_pair (f : Field) (v : Nat) : (h.set f v).pair = h.pair := rfl
@[simp] theorem Hub.set_sw (f : Field) (v : Nat) : (h.set f v).sw = h.sw := rfl
@[simp] theorem Hub.set_seqs (f : Field) (v : Nat) : (h.set f v).seqs = h.seqs := rfl
@[simp] theorem Hub.set_xact (f : Field) (v : Nat) : (h.set f v).xact = h.xact := rfl
@[simp] theorem Hub.set_host (f : Field) (v : Nat) : (h.set f v).host = h.host := rfl
@[simp] theorem Hub.set_stations (f : Field) (v : Nat) : (h.set f v).stations = h.stations := rfl
@[simp] theorem Hub.set_engines (f : Field) (v : Nat) : (h.set f v).engines = h.engines := rfl
@[simp] theorem Hub.set_lines (f : Field) (v : Nat) : (h.set f v).lines = h.lines := rfl
@[simp] theorem Hub.set_flagSets (f : Field) (v : Nat) : (h.set f v).flagSets = h.flagSets := rfl
@[simp] theorem Hub.set_armedAt (f : Field) (v : Nat) : (h.set f v).armedAt = h.armedAt := rfl
@[simp] theorem Hub.set_groups (f : Field) (v : Nat) : (h.set f v).groups = h.groups := rfl
@[simp] theorem Hub.set_senses (f : Field) (v : Nat) : (h.set f v).senses = h.senses := rfl
@[simp] theorem Hub.set_guards (f : Field) (v : Nat) : (h.set f v).guards = h.guards := rfl
@[simp] theorem Hub.set_regsB (f : Field) (v : Nat) : (h.set f v).regsB = h.regsB := rfl
@[simp] theorem Hub.set_acts (f : Field) (v : Nat) : (h.set f v).acts = h.acts := rfl
@[simp] theorem Hub.set_buses (f : Field) (v : Nat) : (h.set f v).buses = h.buses := rfl
@[simp] theorem Hub.set_log (f : Field) (v : Nat) : (h.set f v).log = h.log := rfl
@[simp] theorem Hub.set_keys (f : Field) (v : Nat) : (h.set f v).keys = h.keys := rfl
@[simp] theorem Hub.set_test (f : Field) (v : Nat) : (h.set f v).test = h.test := rfl
@[simp] theorem Hub.set_flt (f : Field) (v : Nat) : (h.set f v).flt = h.flt := rfl
@[simp] theorem Hub.set_flash (f : Field) (v : Nat) : (h.set f v).flash = h.flash := rfl
@[simp] theorem Hub.set_aon (f : Field) (v : Nat) : (h.set f v).aon = h.aon := rfl
@[simp] theorem Hub.set_entry (f : Field) (v : Nat) : (h.set f v).entry = h.entry := rfl
@[simp] theorem Hub.set_svc (f : Field) (v : Nat) : (h.set f v).svc = h.svc := rfl
@[simp] theorem Hub.set_tap (f : Field) (v : Nat) : (h.set f v).tap = h.tap := rfl
@[simp] theorem Hub.set_halted (f : Field) (v : Nat) : (h.set f v).halted = h.halted := rfl

/-! ### What countBy leaves alone -/

@[simp] theorem Hub.countBy_clock (a k : Nat) : (h.countBy a k).clock = h.clock := rfl
@[simp] theorem Hub.countBy_timers (a k : Nat) : (h.countBy a k).timers = h.timers := rfl
@[simp] theorem Hub.countBy_out (a k : Nat) : (h.countBy a k).out = h.out := rfl
@[simp] theorem Hub.countBy_draws (a k : Nat) : (h.countBy a k).draws = h.draws := rfl
@[simp] theorem Hub.countBy_units (a k : Nat) : (h.countBy a k).units = h.units := rfl
@[simp] theorem Hub.countBy_xings (a k : Nat) : (h.countBy a k).xings = h.xings := rfl
@[simp] theorem Hub.countBy_xwaits (a k : Nat) : (h.countBy a k).xwaits = h.xwaits := rfl
@[simp] theorem Hub.countBy_starts (a k : Nat) : (h.countBy a k).starts = h.starts := rfl
@[simp] theorem Hub.countBy_clocksOff (a k : Nat) : (h.countBy a k).clocksOff = h.clocksOff := rfl
@[simp] theorem Hub.countBy_faultsIn (a k : Nat) : (h.countBy a k).faultsIn = h.faultsIn := rfl
@[simp] theorem Hub.countBy_time (a k : Nat) : (h.countBy a k).time = h.time := rfl
@[simp] theorem Hub.countBy_lanes (a k : Nat) : (h.countBy a k).lanes = h.lanes := rfl
@[simp] theorem Hub.countBy_members (a k : Nat) : (h.countBy a k).members = h.members := rfl
@[simp] theorem Hub.countBy_incarns (a k : Nat) : (h.countBy a k).incarns = h.incarns := rfl
@[simp] theorem Hub.countBy_incarned (a k : Nat) : (h.countBy a k).incarned = h.incarned := rfl
@[simp] theorem Hub.countBy_announced (a k : Nat) : (h.countBy a k).announced = h.announced := rfl
@[simp] theorem Hub.countBy_born (a k : Nat) : (h.countBy a k).born = h.born := rfl
@[simp] theorem Hub.countBy_paths (a k : Nat) : (h.countBy a k).paths = h.paths := rfl
@[simp] theorem Hub.countBy_dd (a k : Nat) : (h.countBy a k).dd = h.dd := rfl
@[simp] theorem Hub.countBy_pair (a k : Nat) : (h.countBy a k).pair = h.pair := rfl
@[simp] theorem Hub.countBy_sw (a k : Nat) : (h.countBy a k).sw = h.sw := rfl
@[simp] theorem Hub.countBy_seqs (a k : Nat) : (h.countBy a k).seqs = h.seqs := rfl
@[simp] theorem Hub.countBy_xact (a k : Nat) : (h.countBy a k).xact = h.xact := rfl
@[simp] theorem Hub.countBy_host (a k : Nat) : (h.countBy a k).host = h.host := rfl
@[simp] theorem Hub.countBy_stations (a k : Nat) : (h.countBy a k).stations = h.stations := rfl
@[simp] theorem Hub.countBy_engines (a k : Nat) : (h.countBy a k).engines = h.engines := rfl
@[simp] theorem Hub.countBy_lines (a k : Nat) : (h.countBy a k).lines = h.lines := rfl
@[simp] theorem Hub.countBy_flagSets (a k : Nat) : (h.countBy a k).flagSets = h.flagSets := rfl
@[simp] theorem Hub.countBy_armedAt (a k : Nat) : (h.countBy a k).armedAt = h.armedAt := rfl
@[simp] theorem Hub.countBy_groups (a k : Nat) : (h.countBy a k).groups = h.groups := rfl
@[simp] theorem Hub.countBy_senses (a k : Nat) : (h.countBy a k).senses = h.senses := rfl
@[simp] theorem Hub.countBy_guards (a k : Nat) : (h.countBy a k).guards = h.guards := rfl
@[simp] theorem Hub.countBy_regsB (a k : Nat) : (h.countBy a k).regsB = h.regsB := rfl
@[simp] theorem Hub.countBy_acts (a k : Nat) : (h.countBy a k).acts = h.acts := rfl
@[simp] theorem Hub.countBy_buses (a k : Nat) : (h.countBy a k).buses = h.buses := rfl
@[simp] theorem Hub.countBy_log (a k : Nat) : (h.countBy a k).log = h.log := rfl
@[simp] theorem Hub.countBy_keys (a k : Nat) : (h.countBy a k).keys = h.keys := rfl
@[simp] theorem Hub.countBy_test (a k : Nat) : (h.countBy a k).test = h.test := rfl
@[simp] theorem Hub.countBy_flt (a k : Nat) : (h.countBy a k).flt = h.flt := rfl
@[simp] theorem Hub.countBy_flash (a k : Nat) : (h.countBy a k).flash = h.flash := rfl
@[simp] theorem Hub.countBy_aon (a k : Nat) : (h.countBy a k).aon = h.aon := rfl
@[simp] theorem Hub.countBy_entry (a k : Nat) : (h.countBy a k).entry = h.entry := rfl
@[simp] theorem Hub.countBy_svc (a k : Nat) : (h.countBy a k).svc = h.svc := rfl
@[simp] theorem Hub.countBy_tap (a k : Nat) : (h.countBy a k).tap = h.tap := rfl
@[simp] theorem Hub.countBy_halted (a k : Nat) : (h.countBy a k).halted = h.halted := rfl

/-! ### What emit leaves alone -/

@[simp] theorem Hub.emit_clock (e : Emission) : (h.emit e).clock = h.clock := rfl
@[simp] theorem Hub.emit_timers (e : Emission) : (h.emit e).timers = h.timers := rfl
@[simp] theorem Hub.emit_draws (e : Emission) : (h.emit e).draws = h.draws := rfl
@[simp] theorem Hub.emit_fresh (e : Emission) : (h.emit e).fresh = h.fresh := rfl
@[simp] theorem Hub.emit_regs (e : Emission) : (h.emit e).regs = h.regs := rfl
@[simp] theorem Hub.emit_units (e : Emission) : (h.emit e).units = h.units := rfl
@[simp] theorem Hub.emit_xings (e : Emission) : (h.emit e).xings = h.xings := rfl
@[simp] theorem Hub.emit_xwaits (e : Emission) : (h.emit e).xwaits = h.xwaits := rfl
@[simp] theorem Hub.emit_starts (e : Emission) : (h.emit e).starts = h.starts := rfl
@[simp] theorem Hub.emit_clocksOff (e : Emission) : (h.emit e).clocksOff = h.clocksOff := rfl
@[simp] theorem Hub.emit_faultsIn (e : Emission) : (h.emit e).faultsIn = h.faultsIn := rfl
@[simp] theorem Hub.emit_time (e : Emission) : (h.emit e).time = h.time := rfl
@[simp] theorem Hub.emit_lanes (e : Emission) : (h.emit e).lanes = h.lanes := rfl
@[simp] theorem Hub.emit_members (e : Emission) : (h.emit e).members = h.members := rfl
@[simp] theorem Hub.emit_incarns (e : Emission) : (h.emit e).incarns = h.incarns := rfl
@[simp] theorem Hub.emit_incarned (e : Emission) : (h.emit e).incarned = h.incarned := rfl
@[simp] theorem Hub.emit_announced (e : Emission) : (h.emit e).announced = h.announced := rfl
@[simp] theorem Hub.emit_born (e : Emission) : (h.emit e).born = h.born := rfl
@[simp] theorem Hub.emit_paths (e : Emission) : (h.emit e).paths = h.paths := rfl
@[simp] theorem Hub.emit_dd (e : Emission) : (h.emit e).dd = h.dd := rfl
@[simp] theorem Hub.emit_pair (e : Emission) : (h.emit e).pair = h.pair := rfl
@[simp] theorem Hub.emit_sw (e : Emission) : (h.emit e).sw = h.sw := rfl
@[simp] theorem Hub.emit_seqs (e : Emission) : (h.emit e).seqs = h.seqs := rfl
@[simp] theorem Hub.emit_xact (e : Emission) : (h.emit e).xact = h.xact := rfl
@[simp] theorem Hub.emit_host (e : Emission) : (h.emit e).host = h.host := rfl
@[simp] theorem Hub.emit_stations (e : Emission) : (h.emit e).stations = h.stations := rfl
@[simp] theorem Hub.emit_engines (e : Emission) : (h.emit e).engines = h.engines := rfl
@[simp] theorem Hub.emit_lines (e : Emission) : (h.emit e).lines = h.lines := rfl
@[simp] theorem Hub.emit_flagSets (e : Emission) : (h.emit e).flagSets = h.flagSets := rfl
@[simp] theorem Hub.emit_armedAt (e : Emission) : (h.emit e).armedAt = h.armedAt := rfl
@[simp] theorem Hub.emit_groups (e : Emission) : (h.emit e).groups = h.groups := rfl
@[simp] theorem Hub.emit_senses (e : Emission) : (h.emit e).senses = h.senses := rfl
@[simp] theorem Hub.emit_guards (e : Emission) : (h.emit e).guards = h.guards := rfl
@[simp] theorem Hub.emit_regsB (e : Emission) : (h.emit e).regsB = h.regsB := rfl
@[simp] theorem Hub.emit_acts (e : Emission) : (h.emit e).acts = h.acts := rfl
@[simp] theorem Hub.emit_buses (e : Emission) : (h.emit e).buses = h.buses := rfl
@[simp] theorem Hub.emit_log (e : Emission) : (h.emit e).log = h.log := rfl
@[simp] theorem Hub.emit_keys (e : Emission) : (h.emit e).keys = h.keys := rfl
@[simp] theorem Hub.emit_test (e : Emission) : (h.emit e).test = h.test := rfl
@[simp] theorem Hub.emit_flt (e : Emission) : (h.emit e).flt = h.flt := rfl
@[simp] theorem Hub.emit_flash (e : Emission) : (h.emit e).flash = h.flash := rfl
@[simp] theorem Hub.emit_aon (e : Emission) : (h.emit e).aon = h.aon := rfl
@[simp] theorem Hub.emit_entry (e : Emission) : (h.emit e).entry = h.entry := rfl
@[simp] theorem Hub.emit_svc (e : Emission) : (h.emit e).svc = h.svc := rfl
@[simp] theorem Hub.emit_tap (e : Emission) : (h.emit e).tap = h.tap := rfl
@[simp] theorem Hub.emit_halted (e : Emission) : (h.emit e).halted = h.halted := rfl

/-! ### What draw leaves alone -/

@[simp] theorem Hub.draw_clock : h.draw.clock = h.clock := rfl
@[simp] theorem Hub.draw_timers : h.draw.timers = h.timers := rfl
@[simp] theorem Hub.draw_out : h.draw.out = h.out := rfl
@[simp] theorem Hub.draw_fresh : h.draw.fresh = h.fresh := rfl
@[simp] theorem Hub.draw_regs : h.draw.regs = h.regs := rfl
@[simp] theorem Hub.draw_units : h.draw.units = h.units := rfl
@[simp] theorem Hub.draw_xings : h.draw.xings = h.xings := rfl
@[simp] theorem Hub.draw_xwaits : h.draw.xwaits = h.xwaits := rfl
@[simp] theorem Hub.draw_starts : h.draw.starts = h.starts := rfl
@[simp] theorem Hub.draw_clocksOff : h.draw.clocksOff = h.clocksOff := rfl
@[simp] theorem Hub.draw_faultsIn : h.draw.faultsIn = h.faultsIn := rfl
@[simp] theorem Hub.draw_time : h.draw.time = h.time := rfl
@[simp] theorem Hub.draw_lanes : h.draw.lanes = h.lanes := rfl
@[simp] theorem Hub.draw_members : h.draw.members = h.members := rfl
@[simp] theorem Hub.draw_incarns : h.draw.incarns = h.incarns := rfl
@[simp] theorem Hub.draw_incarned : h.draw.incarned = h.incarned := rfl
@[simp] theorem Hub.draw_announced : h.draw.announced = h.announced := rfl
@[simp] theorem Hub.draw_born : h.draw.born = h.born := rfl
@[simp] theorem Hub.draw_paths : h.draw.paths = h.paths := rfl
@[simp] theorem Hub.draw_dd : h.draw.dd = h.dd := rfl
@[simp] theorem Hub.draw_pair : h.draw.pair = h.pair := rfl
@[simp] theorem Hub.draw_sw : h.draw.sw = h.sw := rfl
@[simp] theorem Hub.draw_seqs : h.draw.seqs = h.seqs := rfl
@[simp] theorem Hub.draw_xact : h.draw.xact = h.xact := rfl
@[simp] theorem Hub.draw_host : h.draw.host = h.host := rfl
@[simp] theorem Hub.draw_stations : h.draw.stations = h.stations := rfl
@[simp] theorem Hub.draw_engines : h.draw.engines = h.engines := rfl
@[simp] theorem Hub.draw_lines : h.draw.lines = h.lines := rfl
@[simp] theorem Hub.draw_flagSets : h.draw.flagSets = h.flagSets := rfl
@[simp] theorem Hub.draw_armedAt : h.draw.armedAt = h.armedAt := rfl
@[simp] theorem Hub.draw_groups : h.draw.groups = h.groups := rfl
@[simp] theorem Hub.draw_senses : h.draw.senses = h.senses := rfl
@[simp] theorem Hub.draw_guards : h.draw.guards = h.guards := rfl
@[simp] theorem Hub.draw_regsB : h.draw.regsB = h.regsB := rfl
@[simp] theorem Hub.draw_acts : h.draw.acts = h.acts := rfl
@[simp] theorem Hub.draw_buses : h.draw.buses = h.buses := rfl
@[simp] theorem Hub.draw_log : h.draw.log = h.log := rfl
@[simp] theorem Hub.draw_keys : h.draw.keys = h.keys := rfl
@[simp] theorem Hub.draw_test : h.draw.test = h.test := rfl
@[simp] theorem Hub.draw_flt : h.draw.flt = h.flt := rfl
@[simp] theorem Hub.draw_flash : h.draw.flash = h.flash := rfl
@[simp] theorem Hub.draw_aon : h.draw.aon = h.aon := rfl
@[simp] theorem Hub.draw_entry : h.draw.entry = h.entry := rfl
@[simp] theorem Hub.draw_svc : h.draw.svc = h.svc := rfl
@[simp] theorem Hub.draw_tap : h.draw.tap = h.tap := rfl
@[simp] theorem Hub.draw_halted : h.draw.halted = h.halted := rfl

/-! ### What arm leaves alone -/

@[simp] theorem Hub.arm_clock (t : Timer) (d : Nat) : (h.arm t d).clock = h.clock := rfl
@[simp] theorem Hub.arm_out (t : Timer) (d : Nat) : (h.arm t d).out = h.out := rfl
@[simp] theorem Hub.arm_draws (t : Timer) (d : Nat) : (h.arm t d).draws = h.draws := rfl
@[simp] theorem Hub.arm_fresh (t : Timer) (d : Nat) : (h.arm t d).fresh = h.fresh := rfl
@[simp] theorem Hub.arm_regs (t : Timer) (d : Nat) : (h.arm t d).regs = h.regs := rfl
@[simp] theorem Hub.arm_units (t : Timer) (d : Nat) : (h.arm t d).units = h.units := rfl
@[simp] theorem Hub.arm_xings (t : Timer) (d : Nat) : (h.arm t d).xings = h.xings := rfl
@[simp] theorem Hub.arm_xwaits (t : Timer) (d : Nat) : (h.arm t d).xwaits = h.xwaits := rfl
@[simp] theorem Hub.arm_starts (t : Timer) (d : Nat) : (h.arm t d).starts = h.starts := rfl
@[simp] theorem Hub.arm_clocksOff (t : Timer) (d : Nat) : (h.arm t d).clocksOff = h.clocksOff := rfl
@[simp] theorem Hub.arm_faultsIn (t : Timer) (d : Nat) : (h.arm t d).faultsIn = h.faultsIn := rfl
@[simp] theorem Hub.arm_time (t : Timer) (d : Nat) : (h.arm t d).time = h.time := rfl
@[simp] theorem Hub.arm_lanes (t : Timer) (d : Nat) : (h.arm t d).lanes = h.lanes := rfl
@[simp] theorem Hub.arm_members (t : Timer) (d : Nat) : (h.arm t d).members = h.members := rfl
@[simp] theorem Hub.arm_incarns (t : Timer) (d : Nat) : (h.arm t d).incarns = h.incarns := rfl
@[simp] theorem Hub.arm_incarned (t : Timer) (d : Nat) : (h.arm t d).incarned = h.incarned := rfl
@[simp] theorem Hub.arm_announced (t : Timer) (d : Nat) : (h.arm t d).announced = h.announced := rfl
@[simp] theorem Hub.arm_born (t : Timer) (d : Nat) : (h.arm t d).born = h.born := rfl
@[simp] theorem Hub.arm_paths (t : Timer) (d : Nat) : (h.arm t d).paths = h.paths := rfl
@[simp] theorem Hub.arm_dd (t : Timer) (d : Nat) : (h.arm t d).dd = h.dd := rfl
@[simp] theorem Hub.arm_pair (t : Timer) (d : Nat) : (h.arm t d).pair = h.pair := rfl
@[simp] theorem Hub.arm_sw (t : Timer) (d : Nat) : (h.arm t d).sw = h.sw := rfl
@[simp] theorem Hub.arm_seqs (t : Timer) (d : Nat) : (h.arm t d).seqs = h.seqs := rfl
@[simp] theorem Hub.arm_xact (t : Timer) (d : Nat) : (h.arm t d).xact = h.xact := rfl
@[simp] theorem Hub.arm_host (t : Timer) (d : Nat) : (h.arm t d).host = h.host := rfl
@[simp] theorem Hub.arm_stations (t : Timer) (d : Nat) : (h.arm t d).stations = h.stations := rfl
@[simp] theorem Hub.arm_engines (t : Timer) (d : Nat) : (h.arm t d).engines = h.engines := rfl
@[simp] theorem Hub.arm_lines (t : Timer) (d : Nat) : (h.arm t d).lines = h.lines := rfl
@[simp] theorem Hub.arm_flagSets (t : Timer) (d : Nat) : (h.arm t d).flagSets = h.flagSets := rfl
@[simp] theorem Hub.arm_armedAt (t : Timer) (d : Nat) : (h.arm t d).armedAt = h.armedAt := rfl
@[simp] theorem Hub.arm_groups (t : Timer) (d : Nat) : (h.arm t d).groups = h.groups := rfl
@[simp] theorem Hub.arm_senses (t : Timer) (d : Nat) : (h.arm t d).senses = h.senses := rfl
@[simp] theorem Hub.arm_guards (t : Timer) (d : Nat) : (h.arm t d).guards = h.guards := rfl
@[simp] theorem Hub.arm_regsB (t : Timer) (d : Nat) : (h.arm t d).regsB = h.regsB := rfl
@[simp] theorem Hub.arm_acts (t : Timer) (d : Nat) : (h.arm t d).acts = h.acts := rfl
@[simp] theorem Hub.arm_buses (t : Timer) (d : Nat) : (h.arm t d).buses = h.buses := rfl
@[simp] theorem Hub.arm_log (t : Timer) (d : Nat) : (h.arm t d).log = h.log := rfl
@[simp] theorem Hub.arm_keys (t : Timer) (d : Nat) : (h.arm t d).keys = h.keys := rfl
@[simp] theorem Hub.arm_test (t : Timer) (d : Nat) : (h.arm t d).test = h.test := rfl
@[simp] theorem Hub.arm_flt (t : Timer) (d : Nat) : (h.arm t d).flt = h.flt := rfl
@[simp] theorem Hub.arm_flash (t : Timer) (d : Nat) : (h.arm t d).flash = h.flash := rfl
@[simp] theorem Hub.arm_aon (t : Timer) (d : Nat) : (h.arm t d).aon = h.aon := rfl
@[simp] theorem Hub.arm_entry (t : Timer) (d : Nat) : (h.arm t d).entry = h.entry := rfl
@[simp] theorem Hub.arm_svc (t : Timer) (d : Nat) : (h.arm t d).svc = h.svc := rfl
@[simp] theorem Hub.arm_tap (t : Timer) (d : Nat) : (h.arm t d).tap = h.tap := rfl
@[simp] theorem Hub.arm_halted (t : Timer) (d : Nat) : (h.arm t d).halted = h.halted := rfl

/-! ### What armAt leaves alone -/

@[simp] theorem Hub.armAt_clock (t : Timer) (n : Nat) : (h.armAt t n).clock = h.clock := rfl
@[simp] theorem Hub.armAt_out (t : Timer) (n : Nat) : (h.armAt t n).out = h.out := rfl
@[simp] theorem Hub.armAt_draws (t : Timer) (n : Nat) : (h.armAt t n).draws = h.draws := rfl
@[simp] theorem Hub.armAt_fresh (t : Timer) (n : Nat) : (h.armAt t n).fresh = h.fresh := rfl
@[simp] theorem Hub.armAt_regs (t : Timer) (n : Nat) : (h.armAt t n).regs = h.regs := rfl
@[simp] theorem Hub.armAt_units (t : Timer) (n : Nat) : (h.armAt t n).units = h.units := rfl
@[simp] theorem Hub.armAt_xings (t : Timer) (n : Nat) : (h.armAt t n).xings = h.xings := rfl
@[simp] theorem Hub.armAt_xwaits (t : Timer) (n : Nat) : (h.armAt t n).xwaits = h.xwaits := rfl
@[simp] theorem Hub.armAt_starts (t : Timer) (n : Nat) : (h.armAt t n).starts = h.starts := rfl
@[simp] theorem Hub.armAt_clocksOff (t : Timer) (n : Nat) : (h.armAt t n).clocksOff = h.clocksOff := rfl
@[simp] theorem Hub.armAt_faultsIn (t : Timer) (n : Nat) : (h.armAt t n).faultsIn = h.faultsIn := rfl
@[simp] theorem Hub.armAt_time (t : Timer) (n : Nat) : (h.armAt t n).time = h.time := rfl
@[simp] theorem Hub.armAt_lanes (t : Timer) (n : Nat) : (h.armAt t n).lanes = h.lanes := rfl
@[simp] theorem Hub.armAt_members (t : Timer) (n : Nat) : (h.armAt t n).members = h.members := rfl
@[simp] theorem Hub.armAt_incarns (t : Timer) (n : Nat) : (h.armAt t n).incarns = h.incarns := rfl
@[simp] theorem Hub.armAt_incarned (t : Timer) (n : Nat) : (h.armAt t n).incarned = h.incarned := rfl
@[simp] theorem Hub.armAt_announced (t : Timer) (n : Nat) : (h.armAt t n).announced = h.announced := rfl
@[simp] theorem Hub.armAt_born (t : Timer) (n : Nat) : (h.armAt t n).born = h.born := rfl
@[simp] theorem Hub.armAt_paths (t : Timer) (n : Nat) : (h.armAt t n).paths = h.paths := rfl
@[simp] theorem Hub.armAt_dd (t : Timer) (n : Nat) : (h.armAt t n).dd = h.dd := rfl
@[simp] theorem Hub.armAt_pair (t : Timer) (n : Nat) : (h.armAt t n).pair = h.pair := rfl
@[simp] theorem Hub.armAt_sw (t : Timer) (n : Nat) : (h.armAt t n).sw = h.sw := rfl
@[simp] theorem Hub.armAt_seqs (t : Timer) (n : Nat) : (h.armAt t n).seqs = h.seqs := rfl
@[simp] theorem Hub.armAt_xact (t : Timer) (n : Nat) : (h.armAt t n).xact = h.xact := rfl
@[simp] theorem Hub.armAt_host (t : Timer) (n : Nat) : (h.armAt t n).host = h.host := rfl
@[simp] theorem Hub.armAt_stations (t : Timer) (n : Nat) : (h.armAt t n).stations = h.stations := rfl
@[simp] theorem Hub.armAt_engines (t : Timer) (n : Nat) : (h.armAt t n).engines = h.engines := rfl
@[simp] theorem Hub.armAt_lines (t : Timer) (n : Nat) : (h.armAt t n).lines = h.lines := rfl
@[simp] theorem Hub.armAt_flagSets (t : Timer) (n : Nat) : (h.armAt t n).flagSets = h.flagSets := rfl
@[simp] theorem Hub.armAt_armedAt (t : Timer) (n : Nat) : (h.armAt t n).armedAt = h.armedAt := rfl
@[simp] theorem Hub.armAt_groups (t : Timer) (n : Nat) : (h.armAt t n).groups = h.groups := rfl
@[simp] theorem Hub.armAt_senses (t : Timer) (n : Nat) : (h.armAt t n).senses = h.senses := rfl
@[simp] theorem Hub.armAt_guards (t : Timer) (n : Nat) : (h.armAt t n).guards = h.guards := rfl
@[simp] theorem Hub.armAt_regsB (t : Timer) (n : Nat) : (h.armAt t n).regsB = h.regsB := rfl
@[simp] theorem Hub.armAt_acts (t : Timer) (n : Nat) : (h.armAt t n).acts = h.acts := rfl
@[simp] theorem Hub.armAt_buses (t : Timer) (n : Nat) : (h.armAt t n).buses = h.buses := rfl
@[simp] theorem Hub.armAt_log (t : Timer) (n : Nat) : (h.armAt t n).log = h.log := rfl
@[simp] theorem Hub.armAt_keys (t : Timer) (n : Nat) : (h.armAt t n).keys = h.keys := rfl
@[simp] theorem Hub.armAt_test (t : Timer) (n : Nat) : (h.armAt t n).test = h.test := rfl
@[simp] theorem Hub.armAt_flt (t : Timer) (n : Nat) : (h.armAt t n).flt = h.flt := rfl
@[simp] theorem Hub.armAt_flash (t : Timer) (n : Nat) : (h.armAt t n).flash = h.flash := rfl
@[simp] theorem Hub.armAt_aon (t : Timer) (n : Nat) : (h.armAt t n).aon = h.aon := rfl
@[simp] theorem Hub.armAt_entry (t : Timer) (n : Nat) : (h.armAt t n).entry = h.entry := rfl
@[simp] theorem Hub.armAt_svc (t : Timer) (n : Nat) : (h.armAt t n).svc = h.svc := rfl
@[simp] theorem Hub.armAt_tap (t : Timer) (n : Nat) : (h.armAt t n).tap = h.tap := rfl
@[simp] theorem Hub.armAt_halted (t : Timer) (n : Nat) : (h.armAt t n).halted = h.halted := rfl

/-! ### What disarm leaves alone -/

@[simp] theorem Hub.disarm_clock (t : Timer) : (h.disarm t).clock = h.clock := rfl
@[simp] theorem Hub.disarm_out (t : Timer) : (h.disarm t).out = h.out := rfl
@[simp] theorem Hub.disarm_draws (t : Timer) : (h.disarm t).draws = h.draws := rfl
@[simp] theorem Hub.disarm_fresh (t : Timer) : (h.disarm t).fresh = h.fresh := rfl
@[simp] theorem Hub.disarm_regs (t : Timer) : (h.disarm t).regs = h.regs := rfl
@[simp] theorem Hub.disarm_units (t : Timer) : (h.disarm t).units = h.units := rfl
@[simp] theorem Hub.disarm_xings (t : Timer) : (h.disarm t).xings = h.xings := rfl
@[simp] theorem Hub.disarm_xwaits (t : Timer) : (h.disarm t).xwaits = h.xwaits := rfl
@[simp] theorem Hub.disarm_starts (t : Timer) : (h.disarm t).starts = h.starts := rfl
@[simp] theorem Hub.disarm_clocksOff (t : Timer) : (h.disarm t).clocksOff = h.clocksOff := rfl
@[simp] theorem Hub.disarm_faultsIn (t : Timer) : (h.disarm t).faultsIn = h.faultsIn := rfl
@[simp] theorem Hub.disarm_time (t : Timer) : (h.disarm t).time = h.time := rfl
@[simp] theorem Hub.disarm_lanes (t : Timer) : (h.disarm t).lanes = h.lanes := rfl
@[simp] theorem Hub.disarm_members (t : Timer) : (h.disarm t).members = h.members := rfl
@[simp] theorem Hub.disarm_incarns (t : Timer) : (h.disarm t).incarns = h.incarns := rfl
@[simp] theorem Hub.disarm_incarned (t : Timer) : (h.disarm t).incarned = h.incarned := rfl
@[simp] theorem Hub.disarm_announced (t : Timer) : (h.disarm t).announced = h.announced := rfl
@[simp] theorem Hub.disarm_born (t : Timer) : (h.disarm t).born = h.born := rfl
@[simp] theorem Hub.disarm_paths (t : Timer) : (h.disarm t).paths = h.paths := rfl
@[simp] theorem Hub.disarm_dd (t : Timer) : (h.disarm t).dd = h.dd := rfl
@[simp] theorem Hub.disarm_pair (t : Timer) : (h.disarm t).pair = h.pair := rfl
@[simp] theorem Hub.disarm_sw (t : Timer) : (h.disarm t).sw = h.sw := rfl
@[simp] theorem Hub.disarm_seqs (t : Timer) : (h.disarm t).seqs = h.seqs := rfl
@[simp] theorem Hub.disarm_xact (t : Timer) : (h.disarm t).xact = h.xact := rfl
@[simp] theorem Hub.disarm_host (t : Timer) : (h.disarm t).host = h.host := rfl
@[simp] theorem Hub.disarm_stations (t : Timer) : (h.disarm t).stations = h.stations := rfl
@[simp] theorem Hub.disarm_engines (t : Timer) : (h.disarm t).engines = h.engines := rfl
@[simp] theorem Hub.disarm_lines (t : Timer) : (h.disarm t).lines = h.lines := rfl
@[simp] theorem Hub.disarm_flagSets (t : Timer) : (h.disarm t).flagSets = h.flagSets := rfl
@[simp] theorem Hub.disarm_armedAt (t : Timer) : (h.disarm t).armedAt = h.armedAt := rfl
@[simp] theorem Hub.disarm_groups (t : Timer) : (h.disarm t).groups = h.groups := rfl
@[simp] theorem Hub.disarm_senses (t : Timer) : (h.disarm t).senses = h.senses := rfl
@[simp] theorem Hub.disarm_guards (t : Timer) : (h.disarm t).guards = h.guards := rfl
@[simp] theorem Hub.disarm_regsB (t : Timer) : (h.disarm t).regsB = h.regsB := rfl
@[simp] theorem Hub.disarm_acts (t : Timer) : (h.disarm t).acts = h.acts := rfl
@[simp] theorem Hub.disarm_buses (t : Timer) : (h.disarm t).buses = h.buses := rfl
@[simp] theorem Hub.disarm_log (t : Timer) : (h.disarm t).log = h.log := rfl
@[simp] theorem Hub.disarm_keys (t : Timer) : (h.disarm t).keys = h.keys := rfl
@[simp] theorem Hub.disarm_test (t : Timer) : (h.disarm t).test = h.test := rfl
@[simp] theorem Hub.disarm_flt (t : Timer) : (h.disarm t).flt = h.flt := rfl
@[simp] theorem Hub.disarm_flash (t : Timer) : (h.disarm t).flash = h.flash := rfl
@[simp] theorem Hub.disarm_aon (t : Timer) : (h.disarm t).aon = h.aon := rfl
@[simp] theorem Hub.disarm_entry (t : Timer) : (h.disarm t).entry = h.entry := rfl
@[simp] theorem Hub.disarm_svc (t : Timer) : (h.disarm t).svc = h.svc := rfl
@[simp] theorem Hub.disarm_tap (t : Timer) : (h.disarm t).tap = h.tap := rfl
@[simp] theorem Hub.disarm_halted (t : Timer) : (h.disarm t).halted = h.halted := rfl

/-! ### Reads after updates that write no register -/

@[simp] theorem Hub.emit_rd (e : Emission) (a : Nat) : (h.emit e).rd a = h.rd a := rfl
@[simp] theorem Hub.draw_rd (a : Nat) : h.draw.rd a = h.rd a := rfl
@[simp] theorem Hub.arm_rd (t : Timer) (d a : Nat) : (h.arm t d).rd a = h.rd a := rfl
@[simp] theorem Hub.armAt_rd (t : Timer) (n a : Nat) : (h.armAt t n).rd a = h.rd a := rfl
@[simp] theorem Hub.disarm_rd (t : Timer) (a : Nat) : (h.disarm t).rd a = h.rd a := rfl
@[simp] theorem Hub.note_rd (a : Nat) (m : Word) (k b : Nat) : (h.note a m k).rd b = h.rd b := rfl
@[simp] theorem Hub.emit_get (e : Emission) (f : Field) : (h.emit e).get f = h.get f := rfl
@[simp] theorem Hub.arm_get (t : Timer) (d : Nat) (f : Field) : (h.arm t d).get f = h.get f := rfl
@[simp] theorem Hub.armAt_get (t : Timer) (n : Nat) (f : Field) : (h.armAt t n).get f = h.get f := rfl
@[simp] theorem Hub.disarm_get (t : Timer) (f : Field) : (h.disarm t).get f = h.get f := rfl
@[simp] theorem Hub.note_get (a : Nat) (m : Word) (k : Nat) (f : Field) : (h.note a m k).get f = h.get f := rfl
@[simp] theorem Hub.emit_is (e : Emission) (f : Field) : (h.emit e).is f = h.is f := rfl
@[simp] theorem Hub.arm_is (t : Timer) (d : Nat) (f : Field) : (h.arm t d).is f = h.is f := rfl
@[simp] theorem Hub.armAt_is (t : Timer) (n : Nat) (f : Field) : (h.armAt t n).is f = h.is f := rfl
@[simp] theorem Hub.disarm_is (t : Timer) (f : Field) : (h.disarm t).is f = h.is f := rfl
@[simp] theorem Hub.note_is (a : Nat) (m : Word) (k : Nat) (f : Field) : (h.note a m k).is f = h.is f := rfl

/-! ### States -/

@[simp] theorem State.on_eq (s : State) (f : Hub → Hub) : s.on f = .next ⟨s.pending, f s.hub⟩ := rfl

end Sys2Proof.Machine
end

