-- ==== Sys2Proof/Laws/Ops.lean ====
section
/-! SUPPORT. One lemma for each shared operation over registers, timers, fault sources, units and commands: what it can do, and that
every store keeps its canonical form. -/

namespace Sys2Proof.Machine

/-! ### Registers -/

@[simp] theorem Hub.rd_wr_same (h : Hub) (a : Nat) (v : Word) : (h.wr a v).rd a = v := Sparse.get_put_same _ _ _ _

theorem Hub.rd_wr_ne (h : Hub) {a b : Nat} (v : Word) (hne : b ≠ a) : (h.wr a v).rd b = h.rd b := Sparse.get_put_ne _ _ _ hne

theorem Hub.rd_wr (h : Hub) (a b : Nat) (v : Word) : (h.wr a v).rd b = if b = a then v else h.rd b := by
  split
  · rename_i e; rw [e, Hub.rd_wr_same]
  · rename_i e; exact h.rd_wr_ne v e

theorem Hub.rd_set (h : Hub) (f : Field) (v b : Nat) :
    (h.set f v).rd b = if b = f.reg then f.into (h.rd f.reg) v else h.rd b := h.rd_wr _ _ _

theorem Hub.rd_evt (h : Hub) (f : Field) (b : Nat) : (h.evt f).rd b = if b = f.reg then f.into (h.rd f.reg) 1 else h.rd b :=
  Hub.rd_set (h.note f.reg f.mask 0) f 1 b

theorem Hub.rd_set_ne (h : Hub) (f : Field) (v : Nat) {b : Nat} (hne : b ≠ f.reg) : (h.set f v).rd b = h.rd b := h.rd_wr_ne _ hne

theorem Hub.rd_countBy (h : Hub) (a k b : Nat) :
    (h.countBy a k).rd b = if b = a then BitVec.ofNat 32 (min 0xFFFFFFFF ((h.rd a).toNat + k)) else h.rd b :=
  Hub.rd_wr (h.note a 0#32 k) a b _

/-- A bit of the mask of a field. -/
theorem Field.mask_bit (f : Field) (hf : f.lo + f.width ≤ 32) (i : Nat) (hi : i < 32) :
    f.mask.getLsbD i = (decide (f.lo ≤ i) && decide (i < f.lo + f.width)) := by
  unfold Field.mask
  rw [BitVec.getLsbD_shiftLeft, BitVec.getLsbD_ofNat, Nat.testBit_two_pow_sub_one]
  have h1 : i - f.lo < 32 := by omega
  by_cases h2 : f.lo ≤ i
  · simp only [hi, h1, h2, decide_true, Bool.true_and]
    have e : decide (i < f.lo) = false := by simp [h2]
    rw [e]
    simp only [Bool.not_false, Bool.true_and]
    congr 1
    apply propext
    omega
  · have e : decide (i < f.lo) = true := by simp; omega
    simp [e, h2]

/-- A bit of a register word with a field replaced: the field's own bits are the value's, the others stay. -/
theorem Field.into_bit (f : Field) (w : Word) (v : Nat) (hf : f.lo + f.width ≤ 32) (i : Nat) (hi : i < 32) :
    (f.into w v).getLsbD i = if f.lo ≤ i ∧ i < f.lo + f.width then v.testBit (i - f.lo) else w.getLsbD i := by
  unfold Field.into
  rw [BitVec.getLsbD_or, BitVec.getLsbD_and, BitVec.getLsbD_and, BitVec.getLsbD_not, f.mask_bit hf i hi, BitVec.getLsbD_shiftLeft,
    BitVec.getLsbD_ofNat]
  have h1 : i - f.lo < 32 := by omega
  by_cases h2 : f.lo ≤ i <;> by_cases h3 : i < f.lo + f.width <;> simp [hi, h1, h2, h3]

/-- A field reads the value written into it, in its width. -/
theorem Field.of_into (f : Field) (w : Word) (v : Nat) (hf : f.lo + f.width ≤ 32) : f.of (f.into w v) = v % 2 ^ f.width := by
  unfold Field.of
  apply Nat.eq_of_testBit_eq
  intro i
  rw [Nat.testBit_mod_two_pow, ← BitVec.getLsbD, BitVec.getLsbD_extractLsb']
  by_cases hi : i < f.width
  · rw [f.into_bit w v hf (f.lo + i) (by omega)]
    simp [hi]
  · simp [hi]

/-- Another field of the same register, with no bit in common, reads as before. -/
theorem Field.of_into_disjoint (f g : Field) (w : Word) (v : Nat) (hf : f.lo + f.width ≤ 32) (hg : g.lo + g.width ≤ 32)
    (hd : g.lo + g.width ≤ f.lo ∨ f.lo + f.width ≤ g.lo) : g.of (f.into w v) = g.of w := by
  unfold Field.of
  apply Nat.eq_of_testBit_eq
  intro i
  rw [← BitVec.getLsbD, ← BitVec.getLsbD, BitVec.getLsbD_extractLsb', BitVec.getLsbD_extractLsb']
  by_cases hi : i < g.width
  · rw [f.into_bit w v hf (g.lo + i) (by omega)]
    have : ¬(f.lo ≤ g.lo + i ∧ g.lo + i < f.lo + f.width) := by omega
    simp [this]
  · simp [hi]

theorem Hub.get_set_same (h : Hub) (f : Field) (v : Nat) (hf : f.lo + f.width ≤ 32) : (h.set f v).get f = v % 2 ^ f.width := by
  unfold Hub.get
  rw [h.rd_set, if_pos rfl, f.of_into _ _ hf]

theorem Hub.get_set_reg_ne (h : Hub) (f g : Field) (v : Nat) (hr : g.reg ≠ f.reg) : (h.set f v).get g = h.get g := by
  unfold Hub.get
  rw [h.rd_set_ne f v hr]

theorem Hub.get_set_disjoint (h : Hub) (f g : Field) (v : Nat) (hf : f.lo + f.width ≤ 32) (hg : g.lo + g.width ≤ 32)
    (hd : g.lo + g.width ≤ f.lo ∨ f.lo + f.width ≤ g.lo) : (h.set f v).get g = h.get g := by
  unfold Hub.get
  rw [h.rd_set]
  split
  · rename_i hr; rw [hr, f.of_into_disjoint g _ _ hf hg hd]
  · rfl

theorem Hub.get_wr_ne (h : Hub) (a : Nat) (v : Word) (f : Field) (hr : f.reg ≠ a) : (h.wr a v).get f = h.get f := by
  unfold Hub.get
  rw [h.rd_wr_ne v hr]

/-! ### Timers -/

@[simp] theorem Hub.armed_arm_same (h : Hub) (t : Timer) (d : Nat) : (h.arm t d).armed t = true := by simp [Hub.armed]
@[simp] theorem Hub.timerAt_arm_same (h : Hub) (t : Timer) (d : Nat) : (h.arm t d).timerAt t (h.clock + d) := by simp [Hub.timerAt]
@[simp] theorem Hub.timerAt_armAt_same (h : Hub) (t : Timer) (n : Nat) : (h.armAt t n).timerAt t n := by simp [Hub.timerAt]
theorem Hub.timerAt_armAt_ne (h : Hub) {t u : Timer} (k n : Nat) (hne : u ≠ t) : (h.armAt t k).timerAt u n ↔ h.timerAt u n := by
  simp [Hub.timerAt, Assoc.get_put_ne _ _ hne]
@[simp] theorem Hub.armed_disarm_same (h : Hub) (t : Timer) : (h.disarm t).armed t = false := by simp [Hub.armed]
@[simp] theorem Hub.due_disarm_same (h : Hub) (t : Timer) : (h.disarm t).due t = false := by simp [Hub.due]

theorem Hub.timerAt_arm_ne (h : Hub) {t u : Timer} (d n : Nat) (hne : u ≠ t) : (h.arm t d).timerAt u n ↔ h.timerAt u n := by
  simp [Hub.timerAt, Assoc.get_put_ne _ _ hne]
theorem Hub.timerAt_disarm_ne (h : Hub) {t u : Timer} (n : Nat) (hne : u ≠ t) : (h.disarm t).timerAt u n ↔ h.timerAt u n := by
  simp [Hub.timerAt, Assoc.get_del_ne _ hne]
theorem Hub.armed_arm_ne (h : Hub) {t u : Timer} (d : Nat) (hne : u ≠ t) : (h.arm t d).armed u = h.armed u := by
  simp [Hub.armed, Assoc.get_put_ne _ _ hne]
theorem Hub.armed_disarm_ne (h : Hub) {t u : Timer} (hne : u ≠ t) : (h.disarm t).armed u = h.armed u := by
  simp [Hub.armed, Assoc.get_del_ne _ hne]
theorem Hub.due_arm_ne (h : Hub) {t u : Timer} (d : Nat) (hne : u ≠ t) : (h.arm t d).due u = h.due u := by
  unfold Hub.due; rw [Hub.arm_timers, Hub.arm_clock, Assoc.get_put_ne _ _ hne]
theorem Hub.due_disarm_ne (h : Hub) {t u : Timer} (hne : u ≠ t) : (h.disarm t).due u = h.due u := by
  unfold Hub.due; rw [Hub.disarm_timers, Hub.disarm_clock, Assoc.get_del_ne _ hne]

/-- A timer that is due runs. -/
theorem Hub.armed_of_due (h : Hub) (t : Timer) (hd : h.due t = true) : h.armed t = true := by
  unfold Hub.due at hd
  unfold Hub.armed
  split at hd
  · rename_i e; rw [e]; rfl
  · cases hd

theorem Hub.onDue_due (h : Hub) (t : Timer) (f : Hub → Hub) (hd : h.due t = true) : h.onDue t f = f (h.disarm t) := by simp [Hub.onDue, hd]
theorem Hub.onDue_idle (h : Hub) (t : Timer) (f : Hub → Hub) (hd : h.due t = false) : h.onDue t f = h := by simp [Hub.onDue, hd]
theorem Hub.onPeriod_ready (h : Hub) (t : Timer) (d : Nat) (f : Hub → Hub) (hr : h.ready t = true) :
    h.onPeriod t d f = (f h).armAt t (h.dueAt t + d) := by
  unfold Hub.ready at hr
  unfold Hub.onPeriod
  cases ha : h.armed t <;> cases hd : h.due t <;> simp_all
theorem Hub.onPeriod_wait (h : Hub) (t : Timer) (d : Nat) (f : Hub → Hub) (hr : h.ready t = false) : h.onPeriod t d f = h := by
  unfold Hub.ready at hr
  unfold Hub.onPeriod
  cases ha : h.armed t <;> cases hd : h.due t <;> simp_all

/-! ### Commands -/

/-- A meaning that is a function of the hub completes, keeping the queue. -/
theorem completes_on {c : Instr} {q : List Instr} {h : Hub} {P : Hub → Prop} (f : Hub → Hub) (he : exec c ⟨q, h⟩ = State.on ⟨q, h⟩ f)
    (hp : P (f h)) : Completes c ⟨q, h⟩ P := ⟨⟨q, f h⟩, he, rfl, hp⟩

/-- What a step that answers a next state can be: the front command's, or one tick with nothing waiting. -/
theorem step_cases {s t : State} (h : step s = .next t) :
    (∃ c rest, s.pending = c :: rest ∧ exec c { s with pending := rest } = .next t) ∨ (s.pending = [] ∧ t = { s with hub := s.hub.tick }) := by
  unfold step at h
  split at h
  · rename_i c rest e; exact Or.inl ⟨c, rest, e, h⟩
  · rename_i e; exact Or.inr ⟨e, by cases h; rfl⟩

theorem Hub.writing_allowed (h : Hub) (req : Req) (a : Nat) (f : Hub → Hub) (ha : h.allows req a = true) : h.writing req a f = f h := by
  unfold Hub.allows at ha
  unfold Hub.writing
  cases hp : h.preSeal req <;> cases hm : h.mayAccess req a <;> simp_all

theorem Hub.reading_allowed (h : Hub) (req : Req) (a : Nat) (f : Hub → Word × Hub) (ha : h.allows req a = true) :
    h.reading req a f = (f h).2.emit (.reply req a (f h).1) := by
  unfold Hub.allows at ha
  unfold Hub.reading
  cases hp : h.preSeal req <;> cases hm : h.mayAccess req a <;> simp_all

/-- A command that a unit accepts and finds with its EPOCH ends as its body says (R24, R25, Table 01.6). -/
theorem Hub.command_accepted (h : Hub) (u : UnitId) (req : Req) (cmd arg : Nat) (expect : BitVec 8) (body : Hub → CmdResult × Hub) (a : Nat)
    (hu : u.cmdStat = some a) (ha : h.accepts u req expect = true) :
    h.command u req cmd arg expect body = (body h).2.wr a (cmdStatWord ((body h).2.unit u).epoch cmd false (body h).1) := by
  unfold Hub.accepts Hub.cmdPending at ha
  rw [hu] at ha
  simp only [Bool.and_eq_true, Bool.not_eq_true', decide_eq_true_eq, decide_eq_false_iff_not] at ha
  obtain ⟨⟨⟨⟨⟨h1, h2⟩, h3⟩, h4⟩, h5⟩, h6⟩ := ha
  have h7 : h.xStopped (cmdCrossing u.island) = false := by
    unfold Hub.xOpen at h4
    unfold Hub.xStopped
    rw [Option.isNone_iff_eq_none] at h4
    rw [h4]; rfl
  unfold Hub.command
  simp only [hu, h1, h2, h3, h4, h7]
  rw [h6] at h5 ⊢
  simp [h5]

theorem Hub.command_stale (h : Hub) (u : UnitId) (req : Req) (cmd arg : Nat) (expect : BitVec 8) (body : Hub → CmdResult × Hub) (a : Nat)
    (hu : u.cmdStat = some a) (ha : h.accepts u req (h.unit u).epoch = true) (he : expect = 0#8 ∨ expect ≠ (h.unit u).epoch) :
    h.command u req cmd arg expect body = h.wr a (cmdStatWord (h.unit u).epoch cmd false .stale) := by
  unfold Hub.accepts Hub.cmdPending at ha
  rw [hu] at ha
  simp only [Bool.and_eq_true, Bool.not_eq_true', decide_eq_true_eq, decide_eq_false_iff_not] at ha
  obtain ⟨⟨⟨⟨⟨h1, h2⟩, h3⟩, h4⟩, -⟩, -⟩ := ha
  have h7 : h.xStopped (cmdCrossing u.island) = false := by
    unfold Hub.xOpen at h4
    unfold Hub.xStopped
    rw [Option.isNone_iff_eq_none] at h4
    rw [h4]; rfl
  unfold Hub.command
  simp only [hu, h1, h2, h3, h4, h7]
  simp [he]

/-! ### Fault sources -/

/-- One event raised: the count of its source grows by one, and no register but the two of R297 changes. -/
theorem Hub.raise_raised (h : Hub) (src island unit a b : Nat) : Raised h (h.raise src island unit a b) src island := by
  unfold Raised Hub.raise Hub.raiseK Hub.faults
  cases hx : Assoc.get h.faultsIn (src, island) with
  | none => simp
  | some x =>
    by_cases hc : x.count + 1 ≤ 65535
    · simp [hc]
    · simp [hc]

theorem Hub.raise_rd (h : Hub) (src island unit a b : Nat) (r : Nat) (hr : satReg r = false) : (h.raise src island unit a b).rd r = h.rd r := by
  have h1 : r ≠ Reg.ISL_CNT_EVSAT ∧ r ≠ Reg.ISL_EVT := by simpa [satReg] using hr
  unfold Hub.raise Hub.raiseK
  cases hx : Assoc.get h.faultsIn (src, island) with
  | none => rfl
  | some x =>
    simp only
    split
    · rfl
    · rw [Hub.rd_evt, if_neg (show r ≠ Fld.ISL_EVT_EVSAT.reg from h1.2), Hub.rd_countBy, if_neg h1.1]
      rfl

/-- A source other than the one raised keeps its events. -/
theorem Hub.raise_faults_ne (h : Hub) (src island unit a b : Nat) {s i : Nat} (hne : (s, i) ≠ (src, island)) :
    (h.raise src island unit a b).faults s i = h.faults s i := by
  unfold Hub.raise Hub.raiseK Hub.faults
  cases hx : Assoc.get h.faultsIn (src, island) with
  | none => simp [Assoc.get_put_ne _ _ hne]
  | some x =>
    by_cases hc : x.count + 1 ≤ 65535
    · simp [hc, Assoc.get_put_ne _ _ hne]
    · simp [hc, Assoc.get_put_ne _ _ hne]

/-! ### Units -/

/-- A push changes at most the unit's shadow. -/
theorem Hub.push_rd_ne (h : Hub) (u : UnitId) {a : Nat} (ha : a ≠ u.shadow) : (h.push u).rd a = h.rd a := by
  unfold Hub.push
  split
  · exact h.rd_wr_ne _ ha
  · rfl

@[simp] theorem Hub.push_units (h : Hub) (u : UnitId) : (h.push u).units = h.units := by unfold Hub.push; split <;> rfl
@[simp] theorem Hub.push_unit (h : Hub) (u v : UnitId) : (h.push u).unit v = h.unit v := by unfold Hub.unit; rw [Hub.push_units]

theorem nextEpoch_ne_zero (e : BitVec 8) : nextEpoch e ≠ 0#8 := by revert e; decide

/-- A unit that changes takes its STATE and DETAIL with the next EPOCH (R21). -/
theorem Hub.setUnit_same (h : Hub) (u : UnitId) (st : UState) (d : Nat) :
    ((h.setUnit u st d).unit u).state = st ∧ ((h.setUnit u st d).unit u).detail = BitVec.ofNat 12 d := by
  unfold Hub.setUnit
  simp only
  split
  · rename_i e; exact e
  · simp [Hub.unit, Sparse.get_put_same]

/-- Another unit keeps its word. -/
theorem Hub.setUnit_ne (h : Hub) (u v : UnitId) (st : UState) (d : Nat) (hne : v.num ≠ u.num) : (h.setUnit u st d).unit v = h.unit v := by
  unfold Hub.setUnit
  simp only
  split
  · rfl
  · simp [Hub.unit, Sparse.get_put_ne _ _ _ hne]

theorem Hub.setUnit_rd_ne (h : Hub) (u : UnitId) (st : UState) (d : Nat) {a : Nat} (ha : a ≠ u.shadow) : (h.setUnit u st d).rd a = h.rd a := by
  unfold Hub.setUnit
  simp only
  split
  · rfl
  · rw [Hub.push_rd_ne _ _ ha]; rfl

/-- No change of a unit brings EPOCH 0. -/
theorem Hub.setUnit_epoch (h : Hub) (u : UnitId) (st : UState) (d : Nat) (hu : (h.unit u).epoch ≠ 0#8) : ((h.setUnit u st d).unit u).epoch ≠ 0#8 := by
  unfold Hub.setUnit
  simp only
  split
  · exact hu
  · simp [Hub.unit, Sparse.get_put_same, nextEpoch_ne_zero]

/-! ### The canonical form of the stores -/

theorem rising_filter {α : Type} [DecidableEq α] (p : Nat × α → Bool) {m : List (Nat × α)} {b : Nat} (h : Sparse.rising b m = true) :
    Sparse.rising b (m.filter p) = true := by
  induction m generalizing b with
  | nil => rfl
  | cons e t ih =>
    simp only [Sparse.rising, Bool.and_eq_true, decide_eq_true_eq] at h
    rw [List.filter_cons]
    split
    · simp only [Sparse.rising, Bool.and_eq_true, decide_eq_true_eq]; exact ⟨h.1, ih h.2⟩
    · exact Sparse.rising_mono (by omega) (ih h.2)

/-- A table of which entries are left out stays canonical. -/
theorem wf_filter {α : Type} [DecidableEq α] {d : Nat → α} (p : Nat × α → Bool) {m : List (Nat × α)} (h : Sparse.wf d m = true) :
    Sparse.wf d (m.filter p) = true := by
  simp only [Sparse.wf, Bool.and_eq_true, List.all_eq_true, decide_eq_true_eq] at h ⊢
  exact ⟨rising_filter p h.1, fun e he => h.2 e (List.mem_filter.mp he).1⟩

/-- Writing octets keeps the canonical form of a memory. -/
theorem memWrite_wf {m : List Host.Cell} (a : Nat) (l : List Byte) (h : Sparse.wf zeroByte m = true) : Sparse.wf zeroByte (memWrite m a l) = true := by
  induction l generalizing m a with
  | nil => exact h
  | cons b t ih => exact ih _ (Sparse.wf_put _ _ _ h)

/-- An octet outside the written ones reads as before. -/
theorem memWrite_get_ne (m : List Host.Cell) (a : Nat) (l : List Byte) (k : Nat) (hk : k < a ∨ a + l.length ≤ k) :
    Sparse.get zeroByte (memWrite m a l) k = Sparse.get zeroByte m k := by
  induction l generalizing m a with
  | nil => rfl
  | cons b t ih =>
    simp only [List.length_cons] at hk
    rw [memWrite, ih _ _ (by omega), Sparse.get_put_ne _ _ _ (by omega)]

/-- A written octet reads as written. -/
theorem memWrite_get (m : List Host.Cell) (a : Nat) (l : List Byte) (i : Nat) (hi : i < l.length) :
    Sparse.get zeroByte (memWrite m a l) (a + i) = l[i] := by
  induction l generalizing m a i with
  | nil => simp at hi
  | cons b t ih =>
    cases i with
    | zero => rw [memWrite, memWrite_get_ne _ _ _ _ (by omega), Nat.add_zero, Sparse.get_put_same]; rfl
    | succ j =>
      rw [memWrite, show a + (j + 1) = a + 1 + j by omega]
      simpa using ih (Sparse.put zeroByte m a b) (a + 1) j (by simpa using hi)

theorem vatWrite_wf {m : List Host.Cell} (cs : List Nat) (l : List Byte) (h : Sparse.wf zeroByte m = true) : Sparse.wf zeroByte (vatWrite m cs l) = true := by
  induction cs generalizing m l with
  | nil => exact h
  | cons c t ih => exact ih _ (memWrite_wf _ _ h)

theorem flashWrite_wf {m : List Host.Cell} (a : Nat) (l : List Byte) (h : Sparse.wf erased m = true) : Sparse.wf erased (flashWrite m a l) = true := by
  induction l generalizing m a with
  | nil => exact h
  | cons b t ih => exact ih _ (Sparse.wf_put _ _ _ h)

theorem flashErase_wf {m : List Host.Cell} (a n : Nat) (h : Sparse.wf erased m = true) : Sparse.wf erased (flashErase m a n) = true :=
  wf_filter _ h

/-- The canonical form depends on six fields of the hub alone. -/
theorem Hub.wf_of_fields {h t : Hub} (hr : Sparse.wf regReset h.regs = true → Sparse.wf regReset t.regs = true)
    (hb : Sparse.wf regReset h.regsB = true → Sparse.wf regReset t.regsB = true)
    (hu : Sparse.wf (fun _ => UnitRec.reset) h.units = true → Sparse.wf (fun _ => UnitRec.reset) t.units = true)
    (hv : Sparse.wf zeroByte h.sw.vat = true → Sparse.wf zeroByte t.sw.vat = true)
    (hl : Sparse.wf zeroByte h.log.mem = true → Sparse.wf zeroByte t.log.mem = true)
    (hf : Sparse.wf erased h.flash.mem = true → Sparse.wf erased t.flash.mem = true) (hw : h.wf = true) : t.wf = true := by
  simp only [Hub.wf, Bool.and_eq_true] at hw ⊢
  obtain ⟨⟨⟨⟨⟨h1, h2⟩, h3⟩, h4⟩, h5⟩, h6⟩ := hw
  exact ⟨⟨⟨⟨⟨hr h1, hb h2⟩, hu h3⟩, hv h4⟩, hl h5⟩, hf h6⟩

theorem Hub.wr_wf (h : Hub) (a : Nat) (v : Word) (hw : h.wf = true) : (h.wr a v).wf = true :=
  Hub.wf_of_fields (h := h) (t := h.wr a v) (fun k => Sparse.wf_put _ _ _ k) id id id id id hw
theorem Hub.set_wf (h : Hub) (f : Field) (v : Nat) (hw : h.wf = true) : (h.set f v).wf = true := h.wr_wf _ _ hw
theorem Hub.countBy_wf (h : Hub) (a k : Nat) (hw : h.wf = true) : (h.countBy a k).wf = true := Hub.wr_wf (h.note a 0#32 k) _ _ hw
theorem Hub.evt_wf (h : Hub) (f : Field) (hw : h.wf = true) : (h.evt f).wf = true := Hub.set_wf (h.note f.reg f.mask 0) f 1 hw
@[simp] theorem Hub.emit_wf (h : Hub) (e : Emission) : (h.emit e).wf = h.wf := rfl
@[simp] theorem Hub.draw_wf (h : Hub) : h.draw.wf = h.wf := rfl
@[simp] theorem Hub.arm_wf (h : Hub) (t : Timer) (d : Nat) : (h.arm t d).wf = h.wf := rfl
@[simp] theorem Hub.disarm_wf (h : Hub) (t : Timer) : (h.disarm t).wf = h.wf := rfl

theorem Hub.raise_wf (h : Hub) (src island unit a b : Nat) (hw : h.wf = true) : (h.raise src island unit a b).wf = true := by
  unfold Hub.raise Hub.raiseK
  cases hx : Assoc.get h.faultsIn (src, island) with
  | none => exact hw
  | some x =>
    simp only
    split
    · exact hw
    · exact Hub.evt_wf _ _ (Hub.countBy_wf _ _ _ hw)

theorem Hub.push_wf (h : Hub) (u : UnitId) (hw : h.wf = true) : (h.push u).wf = true := by
  unfold Hub.push
  split
  · exact h.wr_wf _ _ hw
  · exact hw

theorem Hub.setUnit_wf (h : Hub) (u : UnitId) (st : UState) (d : Nat) (hw : h.wf = true) : (h.setUnit u st d).wf = true := by
  unfold Hub.setUnit
  simp only
  split
  · exact hw
  · exact Hub.push_wf _ _ (Hub.wf_of_fields (h := h) id id (fun k => Sparse.wf_put _ _ _ k) id id id hw)

theorem Hub.resetUnit_wf (h : Hub) (u : UnitId) (hw : h.wf = true) : (h.resetUnit u).wf = true :=
  Hub.push_wf _ _ (Hub.wf_of_fields (h := h) id id (fun k => Sparse.wf_put (fun _ => UnitRec.reset) u.num UnitRec.reset k) id id id hw)

/-- The memories and registers of the hub after reset are canonical. -/
theorem State.reset_wf : State.reset.hub.wf = true := rfl

end Sys2Proof.Machine
end

