-- ==== Sys2Proof/WellFormed.lean ====
section
/-! DEFINITION. Well-formed commands: what the operands of a command must be for it to tell of something that can happen. The
meanings are total and do not depend on it. -/

namespace Sys2Proof

open Machine

/-- Data lengths that DLC 0 to 15 name on an FD frame (ISO 11898-1). -/
def fdLength (dlc : Nat) : Nat := [0, 1, 2, 3, 4, 5, 6, 7, 8, 12, 16, 20, 24, 32, 48, 64].getD dlc 0

/-- A bus frame whose data has the length that its DLC names: at most 8 octets, and none in a remote frame, unless FDF is set. -/
def busFrameWf (f : BusFrame) : Bool :=
  if f.fdf then decide (f.data.length = fdLength f.dlc.toNat) && !f.rtr
  else if f.rtr then f.data.isEmpty
  else decide (f.data.length = min 8 f.dlc.toNat)

/-- Whether the two islands of a crossing differ. -/
def crossingWf (x : Crossing) : Bool := decide (x.src ≠ x.dst)

/-- The checks of a command's operands; a command that none names is well-formed. -/
def Instr.wf : Instr → Bool
  | .announceSend o => decide (o.tOut.length = 4)
  | .syncSend tOut => decide (tOut.length = 4)
  | .announceRx _ _ f => decide (f.payload.length = f.hdr.len.toNat)
  | .syncRx _ f _ _ _ => decide (f.payload.length = f.hdr.len.toNat)
  | .dreqRx _ f _ _ => decide (f.payload.length = f.hdr.len.toNat)
  | .drespRx _ f _ => decide (f.payload.length = f.hdr.len.toNat)
  | .pingRx _ hdr payload => decide (payload.length = hdr.len.toNat)
  | .echoRx _ hdr payload => decide (payload.length = hdr.len.toNat)
  | .ringFrameEnd _ payload _ _ => decide (payload.length ≤ 2048)
  | .eqAdapt _ signs => decide (signs.length = 6)
  | .stFrameRx _ octets _ _ => decide (14 ≤ octets.length)
  | .pbFrameRx _ f _ _ _ => busFrameWf f
  | .crossingTimeout x _ => crossingWf x
  | .crossingLiveReturn x => crossingWf x
  | .crossingResyncDone x => crossingWf x
  | .presealHostAccess _ req _ => decide (req.origin = .host)
  | .registerWrite _ a _ _ => decide (a.toNat % 4 = 0)
  | .counterRead _ a => decide (a.toNat % 4 = 0)
  | .updChunk _ _ _ _ data _ => decide (data.length = 512)
  | .hostBarWrite _ _ data mask => mask.isNone || decide (data.length = 4)
  | .hostBarRead _ _ len => decide (0 < len)
  | .pdSourceCapsRx pdos => decide (1 ≤ pdos.length ∧ pdos.length ≤ 7)
  | .svcLogread _ len => decide (1 ≤ len ∧ len ≤ 256)
  | .sheetsApply vio => decide (vio.length = 8)
  | .selftestShadowStep _ unit _ _ _ => decide (unit < 2 ^ 12)
  | _ => true

end Sys2Proof
end

