-- ==== Sys2Proof/Tests/Slice0.lean ====
section
/-! SUPPORT. The model's own tests: well-formedness, decoding, the checks of the CRCs, and for every statement a state and operands
that meet the hypotheses of each of its clauses, with what the clause then says of that state. Expected values are those of the spec's
rules and examples. -/

namespace Sys2Proof.Tests

set_option Elab.async false

open Machine

/-- The hub after one command. -/
def run (c : Instr) (h : Hub) : Hub :=
  match exec c ⟨[], h⟩ with
  | .next t => t.hub
  | _ => h

/-- A hub with some registers set. -/
def regs (l : List (Nat × Word)) : Hub := l.foldl (fun h e => h.wr e.1 e.2) Hub.reset

/-- A hub with some fields set. -/
def flds (l : List (Field × Nat)) (h : Hub) : Hub := l.foldl (fun h e => h.set e.1 e.2) h

/-- A request of Ploia. -/
def ploia : Req := ⟨true, .ploia, 10⟩
/-- A non-secure request of the host. -/
def hostNs : Req := ⟨false, .host, 9⟩

/-- A sealed hub. -/
def sealedHub : Hub := flds [(Fld.CHIP_SEAL_SEALED, 1)] Hub.reset

end Sys2Proof.Tests

namespace Sys2Proof.Tests

set_option Elab.async false

open Machine

theorem wit_StepRunsFront : step ⟨[.slewEnd], Hub.reset⟩ = exec .slewEnd ⟨[], Hub.reset⟩ := rfl

theorem wit_IdleStepTicks : Hub.reset.time.slew = none ∧ Hub.reset.time.incNext = none ∧
    step State.reset = .next ⟨[], { Hub.reset with clock := 2500, time := TimeBase.reset.add 0x028000000000 }⟩ :=
  ⟨rfl, rfl, rfl⟩

theorem wit_UnitNop : sealedHub.accepts (.bus 3) ploia 1#8 = true ∧
    (run (.unitNop ploia (.bus 3) 1#8) sealedHub).rd (Reg.PB_CMDSTAT 3) = 0x01000002#32 ∧
    (run (.unitNop ploia (.bus 3) 0#8) sealedHub).rd (Reg.PB_CMDSTAT 3) = 0x01000003#32 ∧
    (let p := sealedHub.wr (Reg.PB_CMDSTAT 3) 0x01000001#32
     p.cmdPending (.bus 3) = true ∧ (run (.unitNop ploia (.bus 3) 1#8) p).rd (Reg.PB_CMDSTAT 3) = 0x01000011#32) ∧
    (sealedHub.preSeal hostNs = false ∧ sealedHub.mayAccess hostNs (Reg.PB_CMDSTAT 3) = false ∧
     (run (.unitNop hostNs (.bus 3) 1#8) sealedHub).rd (Reg.PB_CMDSTAT 3) = 0x01000004#32 ∧
     (run (.unitNop hostNs (.bus 3) 1#8) sealedHub).faults Flt.WORLD 3 = 1) ∧
    (let x : Hub := { sealedHub with xings := [(cmdCrossing (UnitId.bus 3).island, .stopped)] }
     x.allows ploia (Reg.PB_CMDSTAT 3) = true ∧ x.cmdPending (.bus 3) = false ∧ x.xStopped (cmdCrossing (UnitId.bus 3).island) = true ∧
     (run (.unitNop ploia (.bus 3) 1#8) x).rd (Reg.PB_CMDSTAT 3) = 0x01000006#32) ∧
    (let x : Hub := { sealedHub with xings := [(cmdCrossing (UnitId.bus 3).island, .resync)] }
     x.xOpen (cmdCrossing (UnitId.bus 3).island) = false ∧ x.xStopped (cmdCrossing (UnitId.bus 3).island) = false ∧
     (run (.unitNop ploia (.bus 3) 1#8) x).rd (Reg.PB_CMDSTAT 3) = 0x01000001#32 ∧
     (run (.unitNop ploia (.bus 3) 1#8) x).armed (.command 75) = true ∧ (run (.unitNop ploia (.bus 3) 1#8) x).xwaits.length = 1) := by
  decide +kernel

theorem wit_CommandTimeoutAndAudit :
    (let h : Hub := { sealedHub.wr (Reg.PB_CMDSTAT 3) 0x01000001#32 with timers := [(.command 75, 0)] }
     h.due (.command 75) = true ∧ h.cmdPending (.bus 3) = true ∧
     (run (.commandTimeout (.bus 3)) h).rd (Reg.PB_CMDSTAT 3) = 0x01000006#32 ∧ (run (.commandTimeout (.bus 3)) h).faults Flt.XSTOP 3 = 1) ∧
    (let h := sealedHub.wr (Reg.PB_STATE 3) 0x05300001#32
     (run .stateAudit h).rd (Reg.PB_STATE 3) = 0x01300046#32 ∧ (run .stateAudit (run .stateAudit h)).rd (Reg.PB_STATE 3) = 0x01300046#32 ∧
     (run .stateAudit { run .stateAudit h with clock := 10000000000 }).rd (Reg.PB_STATE 3) = 0x01300006#32) ∧
    (let h : Hub := { sealedHub with xings := [(pushCrossing 23, .stopped)] }
     (run .stateAudit h).rd (Reg.PB_STATE 3) = 0x01300086#32) ∧
    (let h := (sealedHub.wr (Reg.PB_CMDSTAT 3) 0x01000001#32).wr (Reg.PB_STATE 3) 0x05300001#32
     (run .stateAudit h).rd (Reg.PB_STATE 3) = 0x05300001#32) := by decide +kernel

theorem wit_RegisterWrites :
    (run (.registerWrite ploia 0x050040#36 0xFFFFFFFF#32 0xF#4) sealedHub).rd Reg.XB_SB_DST = 0xFFFFB700#32 ∧
    sealedHub.mayAccess ploia Reg.XB_SB_DST = true ∧ sealedHub.islandStopped (regIsland Reg.XB_SB_DST) = false ∧
    (run (.registerWrite ploia 0x050040#36 0xFFFFFFFF#32 0x1#4) sealedHub).faults Flt.DECODE 3 = 1 ∧
    sealedHub.mayAccess hostNs Reg.XB_SB_DST = false ∧ sealedHub.preSeal hostNs = false ∧
    (run (.registerWrite hostNs 0x050040#36 0xFFFFFFFF#32 0xF#4) sealedHub).faults Flt.WORLD 3 = 1 ∧
    (sealedHub.allows ploia Reg.XB_SB_DST = true ∧ (regRow Reg.XB_SB_DST).isSome = true ∧ ownWrite Reg.XB_SB_DST = false ∧
     sealedHub.islandWaits (regIsland Reg.XB_SB_DST) = false ∧ unitAt Reg.XB_SB_DST = none ∧
     (pageRows (Reg.XB_SB_DST / 0x10000)).isEmpty = false ∧ regIsland (Reg.SW_QCFG 0 0) = 2) ∧
    (let x : Hub := { sealedHub with xings := [(cmdCrossing 2, .stopped)] }
     let y : Hub := { sealedHub with xings := [(cmdCrossing 2, .reset)] }
     x.islandStopped 2 = true ∧
     (run (.registerWrite ploia (BitVec.ofNat 36 (Reg.SW_QCFG 0 0)) 0xFFFFFFFF#32 0xF#4) x).rd (Reg.SW_QCFG 0 0) = x.rd (Reg.SW_QCFG 0 0) ∧
     y.islandStopped 2 = false ∧ y.islandWaits 2 = true ∧
     (run (.registerWrite ploia (BitVec.ofNat 36 (Reg.SW_QCFG 0 0)) 5#32 0xF#4) y).xwaits = [(2, ploia, .write (Reg.SW_QCFG 0 0) 5#32)]) ∧
    (let h := sealedHub.evt Fld.XB_EVT_TUNVER
     (run (.registerWrite ploia (BitVec.ofNat 36 Reg.XB_EVT) 0xFFFFFFFF#32 0xF#4) h).is Fld.XB_EVT_TUNVER = true ∧
     (run (.registerWrite ploia (BitVec.ofNat 36 Reg.XB_EVT) 0xFFFFFFFF#32 0xF#4) { h with fresh := [] }).is Fld.XB_EVT_TUNVER = false) ∧
    (Hub.reset.preSeal hostNs = true ∧
     (run (.registerWrite hostNs (BitVec.ofNat 36 Reg.XB_SB_DST) 1#32 0xF#4) Hub.reset).rd Reg.CHIP_SEAL = 1#32) := by decide +kernel

theorem wit_CounterReads :
    (let h := sealedHub.wr Reg.XB_CNT_CTO 7#32
     (run (.counterRead ploia (BitVec.ofNat 36 Reg.XB_CNT_CTO)) h).out = [.reply ploia Reg.XB_CNT_CTO 7#32] ∧
     (run (.counterRead ploia (BitVec.ofNat 36 Reg.XB_CNT_CTO)) h).rd Reg.XB_CNT_CTO = 0#32 ∧
     h.allows ploia Reg.XB_CNT_CTO = true ∧ rcBits Reg.XB_CNT_CTO = 0xFFFFFFFF#32 ∧ popReg Reg.XB_CNT_CTO = false ∧
     h.islandStopped (regIsland Reg.XB_CNT_CTO) = false ∧ Assoc.get h.fresh Reg.XB_CNT_CTO = none ∧
     (let g := h.count Reg.XB_CNT_CTO
      Assoc.get g.fresh Reg.XB_CNT_CTO = some ⟨7#32, 0#32, 1⟩ ∧
      (run (.counterRead ploia (BitVec.ofNat 36 Reg.XB_CNT_CTO)) g).out = [.reply ploia Reg.XB_CNT_CTO 7#32] ∧
      (run (.counterRead ploia (BitVec.ofNat 36 Reg.XB_CNT_CTO)) g).rd Reg.XB_CNT_CTO = 1#32) ∧
     (run (.counterRead hostNs (BitVec.ofNat 36 Reg.XB_CNT_CTO)) h).out = [.reply hostNs Reg.XB_CNT_CTO 0xFFFFFFFF#32]) ∧
    Hub.reset.preSeal hostNs = true ∧
    (run (.presealHostAccess true hostNs 0#36) Hub.reset).rd Reg.CHIP_SEAL = 1#32 ∧
    (run (.presealHostAccess true hostNs 0#36) Hub.reset).out = [.reply hostNs 0 0xFFFFFFFF#32] ∧
    (run (.presealHostAccess false hostNs 0#36) (flds [(Fld.CHIP_SEAL_PRESEAL, 65535)] Hub.reset)).rd Reg.CHIP_SEAL = 65535#32 := by
  decide +kernel

theorem wit_QueuePopsAndSideBand :
    (let n : Notice := ⟨1, 0x123456789ABC#48, 5#16, 6#16, true, 9#8, 64#16, 0⟩
     let h : Hub := { sealedHub with xact := { Xact.reset with pfq := [n], doorbells := [9#32] } }
     h.allows ploia Reg.XB_PFQ = true ∧ (run (.noticeQueuePop ploia) h).xact.pfq = [] ∧
     (run (.noticeQueuePop ploia) h).rd Reg.XB_PFQ_ADDR_HI = 0x00061234#32 ∧
     h.allows ploia Reg.XB_DOORBELL = true ∧ (run (.doorbellPop ploia) h).out = [.reply ploia Reg.XB_DOORBELL 9#32]) ∧
    (let h := flds [(Fld.XB_SB_DST_CLASS, 4), (Fld.XB_SB_DST_PORT, 9)] sealedHub
     h.get Fld.XB_SB_DST_HUB = 0 ∧ h.get Fld.XB_SB_DST_KIND = 0 ∧ h.allows ploia Reg.XB_SB_DATA = true ∧
     (run (.sbDataWrite ploia 7#32) h).sw.offered.map (fun x => (x.inp, x.outs, x.frame.hdr.typ, x.frame.hdr.arg.extractLsb' 0 32)) =
       [(9, [9], 10#4, 7#32)]) := by decide +kernel

end Sys2Proof.Tests

namespace Sys2Proof.Tests

set_option Elab.async false

open Machine

/-- A sealed hub whose lanes EA and WA are UP. -/
def ringHub : Hub := flds [(Fld.RING_LINK_LSTATE 0, 5), (Fld.RING_LINK_LSTATE 1, 5)] sealedHub

theorem wit_TimeIncrementAndSteps :
    (sealedHub.allows ploia Reg.TIME_INC_HI = true ∧ sealedHub.isOwner ploia = true ∧
     (run (.timeIncCommit ploia 0x280#32) sealedHub).time.incNext = some 0x028000000000#48 ∧
     (run (.timeIncCommit ploia 0xFFFF#32) sealedHub).time.incNext = some 0x028020C49BA6#48 ∧
     (run (.timeIncCommit ploia 0xFFFF#32) sealedHub).is Fld.TIME_STATUS_INCSAT = true) ∧
    (let h := flds [(Fld.TIME_LOCK_CTL_OWNER, 1)] sealedHub
     h.isOwner ploia = false ∧ (run (.timeIncCommit ploia 0#32) h).is Fld.TIME_STATUS_OWNREJ = true) ∧
    (let h : Hub := { Hub.reset with timers := [(.incsat, 0)], time := { TimeBase.reset with incSatHeld := true } }
     h.due .incsat = true ∧ (run .tincsatRelease h).time.incSatHeld = false) ∧
    (let h : Hub := { flds [(Fld.TIME_STEP_CTL_BUSY, 1)] sealedHub with time := { TimeBase.reset with slew := some 5 } }
     5 ≤ h.time.share ∧ (run .slewEnd h).is Fld.TIME_STEP_CTL_BUSY = false ∧ (run .slewEnd h).time.frac = 0x7FFFFFFFFB#40) ∧
    (let h := sealedHub.wr Reg.TIME_STEP_NS 1000000000#32
     (h.set Fld.TIME_STEP_CTL_FRAC 0).stepRejected = true ∧
     (run (.stepGo ploia 0x80000000#32) h).is Fld.TIME_STATUS_STEPREJ = true) ∧
    (let h := (sealedHub.wr Reg.TIME_STEP_NS 0xFFFFFFFF#32).wr Reg.TIME_STEP_SEC 0#32
     (h.set Fld.TIME_STEP_CTL_FRAC 0).stepValue = -65536 ∧
     (run (.stepGo ploia 0x80000000#32) h).time.slew = some 0x10000000000 ∧
     (run (.stepGo ploia 0x80000000#32) h).is Fld.TIME_STEP_CTL_SLEW = true) ∧
    (let h := (sealedHub.wr Reg.TIME_STEP_NS 100#32).wr Reg.TIME_STEP_SEC 7#32
     (h.set Fld.TIME_STEP_CTL_FRAC 0).stepRejected = false ∧
     (run (.stepGo ploia 0x80000000#32) h).time.sec = 7#48 ∧ (run (.stepGo ploia 0x80000000#32) h).time.ns = 102#32) := by
  decide +kernel

theorem wit_TimeLock :
    (sealedHub.allows ploia Reg.TIME_OFFSET = true ∧ sealedHub.is Fld.TIME_STATUS_OPEN = false ∧
     (∀ g < 8, sealedHub.grpState g ≠ .run) ∧
     (run (.timeOffsetWrite ploia 4000#32) sealedHub).get Fld.TIME_STATUS_LOCK = 1 ∧
     (run (.timeOffsetWrite ploia 4000#32) sealedHub).is Fld.TIME_STATUS_OPEN = true) ∧
    (let h := flds [(Fld.TIME_STATUS_OPEN, 1), (Fld.TIME_STATUS_LOCK, 1)] sealedHub
     (run (.timeOffsetWrite ploia 0xFFFFF060#32) h).get Fld.TIME_STATUS_LOCK = 1 ∧
     (run (.timeOffsetWrite ploia 4001#32) h).get Fld.TIME_STATUS_LOCK = 0 ∧
     (run (.timeOffsetWrite ploia 4001#32) h).faults Flt.TLOCK 1 = 1) ∧
    (let h : Hub := { flds [(Fld.TIME_STATUS_LOCK, 1), (Fld.TIME_LOCK_CTL_HOLD, 9)] sealedHub with timers := [(.fresh, 0)] }
     h.due .fresh = true ∧ (run .offsetFreshnessExpiry h).get Fld.TIME_STATUS_LOCK = 2 ∧
     Assoc.get (run .offsetFreshnessExpiry h).timers .holdover = some 9000000000) ∧
    (let h : Hub := { flds [(Fld.TIME_STATUS_LOCK, 1), (Fld.TIME_LOCK_CTL_HOLD, 0)] sealedHub with timers := [(.fresh, 0)] }
     h.get Fld.TIME_LOCK_CTL_HOLD = 0 ∧ (run .offsetFreshnessExpiry h).is Fld.TIME_STATUS_LOCKLOST = true) ∧
    (let h : Hub := { flds [(Fld.TIME_STATUS_LOCK, 2)] sealedHub with timers := [(.holdover, 0)] }
     h.due .holdover = true ∧ (run .holdoverExpiry h).get Fld.TIME_STATUS_LOCK = 0) ∧
    (let h : Hub := { sealedHub with time := { TimeBase.reset with sec := 0x100000005, ns := 7 } }
     h.allows ploia Reg.TIME_NOW_NS = true ∧ (run (.timeNowRead ploia) h).out = [.reply ploia Reg.TIME_NOW_NS 7#32] ∧
     (run (.timeNowRead ploia) h).rd Reg.TIME_NOW_SEC = 5#32 ∧ (run (.timeNowRead ploia) h).rd Reg.TIME_NOW_HI = 1#32) := by
  decide +kernel

/-- An event of class C1 stamped at a multiple of 1 us. -/
def event (us_ : Nat) : EventRef := ⟨1, us_ * 1000 * 65536, 1, 2, 3, 4, true, 9⟩

theorem wit_HorizonsAndRelease :
    (Hub.reset.allows ploia (Reg.TIME_HORIZON 1) = true ∧ Hub.reset.sealed_ = false ∧
     (run (.timeHorizonWrite ploia 1 0#32) Hub.reset).rd (Reg.TIME_HORIZON 1) = 1000#32) ∧
    (sealedHub.allows ploia (Reg.TIME_HORIZON 1) = true ∧
     (run (.timeHorizonWrite ploia 1 5000#32) sealedHub).is Fld.TIME_HCHG_STAT_PEND = true) ∧
    (let h : Hub := { sealedHub with time := { TimeBase.reset with changes := [(1, [⟨0, 7, 5000, true⟩])] } }
     (run (.horizonSwitch 1) h).rd (Reg.TIME_HORIZON 1) = 5000#32 ∧ (run (.horizonSwitch 1) h).is Fld.TIME_STATUS_HCHGDONE = true ∧
     ((run (.timeHorizonWrite ploia 1 6000#32) h).time.changesOf 1).head? = some ⟨0, 5000, 6000, true⟩) ∧
    ((run (.releaseArrival (event 5)) sealedHub).rd Reg.TIME_PRECNT = 1#32) ∧
    (let h := flds [(Fld.TIME_STATUS_OPEN, 1)] sealedHub
     (run (.releaseArrival (event 5)) h).time.store.length = 1 ∧
     (let l : Hub := { h with time := { h.time with sec := 9 } }
      (run (.releaseArrival (event 5)) l).rd (Reg.TIME_LATECNT 1) = 1#32 ∧ (run (.releaseArrival (event 5)) l).faults Flt.LATE 1 = 1)) ∧
    (let h : Hub := { sealedHub with time := { TimeBase.reset with store := [⟨event 0, 0, false, false⟩] } }
     (run .timedHandover h).time.store = [⟨event 0, 0, true, false⟩] ∧ (run .queueDelivery h).time.store = []) := by decide +kernel

theorem wit_GrandmasterChoice :
    (let h : Hub := { sealedHub with time := { TimeBase.reset with announces := [⟨1, 2, 5, 1, 1, 2, 0⟩, ⟨1, 3, 4, 0, 1, 3, 0⟩] } }
     h.gmChoice = some (5, 1, 2, 1)) := by decide +kernel

/-- What the samplers read at once. -/
def at0 : Sample := ⟨0, 0⟩

theorem wit_TimeFrames :
    (let h := flds [(Fld.TIME_GM_CTL_PRIO, 3), (Fld.MBR_ID_A_VALID, 1), (Fld.MBR_ID_A_HUB, 4), (Fld.TIME_STATUS_GM, 1)] ringHub
     let egress : List Sample := [at0, ⟨5, 0⟩, at0, at0]
     h.get Fld.TIME_GM_CTL_PRIO < 255 ∧ h.ready .announce = true ∧ h.ringLanesUp = [0, 1] ∧
     (run (.announceSend ⟨false, egress⟩) h).sw.offered.map (fun x => (x.outs, x.frame.hdr.sub)) = [([0], 3#6), ([1], 3#6)] ∧
     h.syncDue = true ∧ (run (.syncSend egress) h).sw.offered.map (fun x => (x.outs, x.frame.hdr.sub)) = [([0], 0#6), ([1], 0#6)] ∧
     (run (.syncSend egress) h).time.syncAt = some (nsec 31250000) ∧
     (let g : Hub := { h with time := { h.time with syncAt := some 0 } }
      g.syncDue = true ∧ (0 : Stamp) ≤ g.now ∧ g.now < 0 + nsec 31250000 ∧ (run (.syncSend egress) g).time.syncAt = some (nsec 31250000)) ∧
     (run (.dreqSend 0 at0) h).sw.offered.length = 1 ∧ h.ready (.dreq 0) = true ∧ h.laneUp 0 = true ∧
     (let hd := h.opHeader 0 2 0 3 0 0 0 0 8
      h.ownFrame 0 hd = true ∧ run (.announceRx 0 false ⟨hd, [], 0⟩) h = h)) ∧
    (let hd : Header := { ringHub.opHeader 0 2 0 3 0 0 0 0 8 with shub := 9 }
     let pay : List Byte := [5, 1, 0, 9, 0, 0, 0, 0]
     let an : Announce := announceOf hd pay
     ringHub.ownFrame 0 hd = false ∧ (ringHub.opTag 0 ⟨hd, pay, 0⟩).1 = true ∧ an.prio = 5#8 ∧
     (run (.announceRx 0 false ⟨hd, pay, 0⟩) ringHub).time.announces = [an] ∧
     (run (.announceRx 0 false ⟨hd, pay, 0⟩) ringHub).sw.offered.map (fun x => (x.outs, x.frame.payload)) = [([1], pay)] ∧
     (run (.announceRx 0 false ⟨{ hd with hops := 127 }, pay, 0⟩) ringHub).sw.offered = [] ∧
     (run (.announceRx 0 false ⟨{ hd with hops := 127 }, pay, 0⟩) ringHub).rd (Reg.RING_CNT_HOPS 0) = 1#32 ∧
     (ringHub.opTag 0 ⟨{ hd with auth := true }, pay, 0⟩).1 = false ∧
     (run (.announceRx 0 false ⟨{ hd with auth := true }, pay, 0⟩) ringHub).time.announces = [] ∧
     (run (.announceRx 0 false ⟨{ hd with auth := true }, pay, 0⟩) ringHub).faults Flt.GMAC 4 = 1 ∧
     (let h : Hub := { ringHub with time := { TimeBase.reset with announces := [an] }, timers := [(.announceHeard 0 9, 0)] }
      h.due (.announceHeard 0 9) = true ∧ (run (.announceSourceDrop 0 9 false) h).time.announces = [])) := by decide +kernel

theorem wit_TimeFrames_sync :
    (let hd := ringHub.opHeader 0 2 0 0 0 0 0 0 0
     ringHub.ownFrame 0 hd = false ∧ (ringHub.opTag 0 ⟨hd, [], 0⟩).1 = true ∧ hd.hops.toNat < 127 ∧ ringHub.timeOnward 0 = [1] ∧
     (run (.syncRx 0 ⟨hd, [], 0⟩ ⟨65536000, 0⟩ at0 true) ringHub).out = [.servoOffset 0 65536000] ∧
     (run (.syncRx 0 ⟨hd, [], 0⟩ ⟨65536000, 0⟩ at0 true) ringHub).sw.offered.map (fun x => (x.outs, x.frame.hdr.arg)) = [([1], BitVec.ofInt 48 (-65536000))] ∧
     (run (.syncRx 0 ⟨hd, [], 0⟩ ⟨65536000, 0⟩ at0 false) ringHub).rd (Reg.RING_CNT_STOMP 1) = 1#32 ∧
     (run (.dreqRx 4 ⟨hd, [], 0⟩ ⟨1, 0⟩ ⟨3, 0⟩) ringHub).sw.offered.map (fun x => (x.outs, x.frame.hdr.arg)) = [([4], 2#48)] ∧
     (ringHub.opTag 4 ⟨{ hd with auth := true }, [], 0⟩).1 = false ∧ (run (.dreqRx 4 ⟨{ hd with auth := true }, [], 0⟩ at0 at0) ringHub).sw.offered = [] ∧
     (let h : Hub := { ringHub with time := { TimeBase.reset with dreqSent := [(0, 0)] } }
      hd.stamp = Stamp.toFrame 0 ∧ hd.auth = false ∧ (run (.drespRx 0 ⟨hd, [], 0⟩ ⟨131072, 0⟩) h).rd (Reg.RING_DELAY 0) = 16#32) ∧
     (let h : Hub := { ringHub with time := { TimeBase.reset with dreqSent := [(0, 0)], delays := [(0, [65536000])] } }
      (run (.drespRx 0 ⟨hd, [], 0⟩ ⟨131072, 0⟩) h).rd (Reg.RING_CNT_DLYDISC 0) = 1#32)) ∧
    (let h : Hub := { ringHub with time := { TimeBase.reset with syncHeard := [(0, 1), (1, 2)] }, timers := [(.syncPath, 0)] }
     h.due .syncPath = true ∧ bestPath (Assoc.del h.time.syncHeard (h.get Fld.TIME_GM_STAT_PATH)) = some (1, 2) ∧
     (run .syncPathTimeout h).get Fld.TIME_GM_STAT_PATH = 1) ∧
    (run (.timeFrameReservedRx 4) ringHub).rd (Reg.RING_CNT_DISC 4) = 1#32 := by decide +kernel

/-- R53: while the increment is twice 2.5 ns, a sample's offset from its tick counts twice. -/
theorem test_sampled : ({ Hub.reset with time := { TimeBase.reset with inc := 0x050000000000#48 } } : Hub).sampled ⟨0, 1000⟩ =
    Hub.reset.sampled ⟨0, 2000⟩ := by decide +kernel

theorem wit_PpsPins :
    (let h := flds [(Fld.TIME_PPS_CTL_IN_EN, 1), (Fld.TIME_PPS_CTL_OUT_EN, 1), (Fld.TIME_STATUS_LOCK, 1)] sealedHub
     h.is Fld.TIME_PPS_CTL_IN_EN = true ∧ h.is Fld.TIME_PPS_CTL_IN_POL = false ∧ h.time.ppsEdge = none ∧
     (run (.ppsInEdge ⟨true, 5⟩) h).time.ppsGood = 0 ∧ (run (.ppsInEdge ⟨true, 5⟩) h).time.ppsEdge.isSome = true ∧ run (.ppsInEdge ⟨false, 5⟩) h = h ∧
     h.time.atSecond = true ∧ (run .ppsOutPulse h).time.ppsOut = some true ∧
     Assoc.get (run .ppsOutPulse h).timers .ppsEnd = some 100000000000) ∧
    (let h : Hub := { sealedHub with time := { TimeBase.reset with ppsGood := 3 }, timers := [(.ppsLoss, 0), (.ppsEnd, 0)] }
     h.due .ppsLoss = true ∧ (run .ppsInLoss h).faults Flt.PPS 1 = 1 ∧ h.due .ppsEnd = true ∧
     (run .ppsOutPulseEnd h).time.ppsOut = some false) := by decide +kernel

/-- A second edge 1 s after the first counts; one 2 s after does not: whatever the pad delay is. -/
theorem wit_PpsPins_edges : ∃ h : Hub, ∃ raw late : Stamp, h.is Fld.TIME_PPS_CTL_IN_EN = true ∧ h.time.ppsEdge = some 0 ∧
    nsec 999900000 ≤ raw - Config.ppsPadDelay - 0 ∧ raw - Config.ppsPadDelay - 0 ≤ nsec 1000100000 ∧
    nsec 1000100000 < late - Config.ppsPadDelay - 0 := by
  refine ⟨{ flds [(Fld.TIME_PPS_CTL_IN_EN, 1)] sealedHub with time := { TimeBase.reset with ppsEdge := some 0 } },
    nsec 1000000000 + Config.ppsPadDelay, nsec 2000000000 + Config.ppsPadDelay, by decide +kernel, rfl, ?_⟩
  simp [nsec]

end Sys2Proof.Tests



namespace Sys2Proof.Tests

set_option Elab.async false

open Machine

/-! ### Well-formed commands, decoding -/

/-- A data bus frame. -/
def wfFrame (fdf : Bool) (rtr : Bool) (dlc : BitVec 4) (n : Nat) : BusFrame := ⟨false, fdf, false, false, rtr, dlc, 0x120#29, List.replicate n 0⟩
/-- A header with a length. -/
def hdr_ (n : Nat) : Header := { Header.ofBits 0#240 with len := BitVec.ofNat 16 n }
/-- A crossing of an island with itself. -/
def loopX : Crossing := ⟨3, 3, .queue, 0⟩

/-- A well-formed command of each checked form passes. -/
theorem test_wf_accepts : ∀ c ∈ [Instr.pingRx 0 (hdr_ 2) [1, 2], .echoRx 1 (hdr_ 0) [], .pbFrameRx 0 (wfFrame false false 8 8) false ⟨0, 0⟩ ⟨0, 0⟩,
    .pbFrameRx 0 (wfFrame true false 9 12) false ⟨0, 0⟩ ⟨0, 0⟩, .pbFrameRx 0 (wfFrame false true 8 0) false ⟨0, 0⟩ ⟨0, 0⟩, .crossingTimeout ⟨3, 2, .queue, 0⟩ true,
    .registerWrite ploia 0x14#36 0 0xF, .pdSourceCapsRx [0], .svcLogread 0 256, .slewEnd,
    .announceSend ⟨false, (List.replicate 4 ⟨0, 0⟩)⟩, .announceRx 0 false ⟨(hdr_ 8), (List.replicate 8 0), 0⟩], c.wf = true := by decide +kernel

/-- Each check refuses an ill-formed command. -/
theorem test_wf_refuses : ∀ c ∈ [Instr.pingRx 0 (hdr_ 3) [1, 2], .echoRx 1 (hdr_ 0) [1], .ringFrameEnd 0 (List.replicate 2049 0) 0 true,
    .announceSend ⟨false, []⟩, .syncSend [⟨0, 0⟩], .announceRx 0 false ⟨(hdr_ 8), [1], 0⟩, .eqAdapt 0 [1], .stFrameRx 0 [1] true ⟨0, 0⟩, .pbFrameRx 0 (wfFrame false false 8 7) false ⟨0, 0⟩ ⟨0, 0⟩,
    .pbFrameRx 0 (wfFrame false true 8 8) false ⟨0, 0⟩ ⟨0, 0⟩, .pbFrameRx 0 (wfFrame true false 9 9) false ⟨0, 0⟩ ⟨0, 0⟩,
    .pbFrameRx 0 (wfFrame true true 0 0) false ⟨0, 0⟩ ⟨0, 0⟩, .crossingTimeout loopX true, .crossingLiveReturn loopX, .crossingResyncDone loopX,
    .presealHostAccess true ploia 0, .registerWrite ploia 0x15#36 0 0xF, .counterRead ploia 0x2#36, .updChunk ploia 0 0 0 [] true,
    .hostBarWrite 0 0 [1] (some 1#4), .hostBarRead 0 0 0, .pdSourceCapsRx [], .svcLogread 0 257, .sheetsApply [],
    .selftestShadowStep 0 4096 0 true true], c.wf = false := by decide +kernel

/-- The table gives no row bits: no word spells a command, and nothing is put in front of the queue. -/
theorem test_no_words (n w : Nat) : decodeTableWord n w = none ∧ State.reset.withFetchWord n w = State.reset := ⟨rfl, rfl⟩

/-! ### The spec's check values and worked examples -/

/-- "123456789" in ASCII. -/
def digits : List Byte := [0x31, 0x32, 0x33, 0x34, 0x35, 0x36, 0x37, 0x38, 0x39]

/-- The check values of R108, R109 and R309. -/
theorem test_crcs : crc16 digits = 0x29B1#16 ∧ crc32 digits = 0xCBF43926#32 ∧ crc32c digits = 0xE3069283#32 := by decide +kernel

/-- Chapter 04, one event frame on the wire: header octets 0-29 and the frame's length. -/
theorem test_event_header :
    (let h : Header := ⟨2, 3, 0, true, false, false, 0, 1, 1, 4, 9, 0, 0x2A1, 0x0113, 16, 0x671234560EEE53A00000#80, 0, 1, 0x001148000001#48⟩
     h.octets = [0x23, 0x10, 0x11, 0x04, 0x09, 0x00, 0x02, 0xA1, 0x01, 0x13, 0x00, 0x10, 0x67, 0x12, 0x34, 0x56, 0x0E, 0xEE, 0x53, 0xA0, 0, 0,
       0, 1, 0, 0x11, 0x48, 0, 0, 1] ∧ h.frameLen = 52 ∧ Header.ofBits h.bits = h) := by decide +kernel

/-- Chapter 07, byte lanes: where the octets of the three host accesses stand through the data-invariant window. -/
theorem test_byte_lanes : [0, 1, 2, 3].map (laneMap true) = [3, 2, 1, 0] ∧ [0, 1, 2, 3].map (laneMap false) = [0, 1, 2, 3] := by decide

/-- Chapter 02, H_C1 reduced from 100 us to 40 us at S = 251,000,000. -/
theorem test_horizon_change :
    [250999990, 251000000, 251060000, 251070000].map (fun s => releaseBy 100000 [⟨nsec 251000000, 100000, 40000, false⟩] (nsec s)) =
      [251099990, 251100000, 251100000, 251110000].map nsec := by decide +kernel

/-! ### The machine -/

theorem wit_ResetState : (allUnits.all (fun u => decide (Hub.reset.rd u.shadow = u.word (Hub.reset.unit u)))) = true ∧
    Hub.reset.rd Reg.REAM_CHK0 = 0xF0FF0000#32 ∧ Hub.reset.wf = true ∧ Hub.reset.rd (Reg.GRD_TIME 15) = 0x07D00064#32 ∧
    Hub.reset.rd (Reg.RING_CTL 4) = 0xF00#32 ∧ Hub.reset.rd Reg.SVC_CFG = 0xF0030000#32 := by decide +kernel

theorem wit_StoresKept : State.reset.hub.wf = true ∧ step State.reset = .next ⟨[], Hub.reset.tick⟩ ∧ Hub.reset.tick.wf = true := ⟨rfl, rfl, by decide +kernel⟩

theorem wit_EpochsAndSeal : sealedHub.sealed_ = true ∧ (run .slewEnd sealedHub).sealed_ = true ∧ (run .aonReset sealedHub).sealed_ = false ∧
    (run .aonReset sealedHub).aon.up = false ∧ (sealedHub.unit .host).epoch = 1#8 ∧ nextEpoch 255#8 = 1#8 := by decide +kernel

end Sys2Proof.Tests

namespace Sys2Proof.Tests

set_option Elab.async false

open Machine

/-- A sealed hub whose lane EA stands in a state of Table 04.4. -/
def laneHub (st : LState) : Hub := flds [(Fld.RING_LINK_LSTATE 0, st.code), (Fld.RING_CTL_EN 0, 1)] sealedHub

/-- An offer for version 1.0 to 2.1 with every feature. -/
def offer21 : LinkOffer := ⟨2, 1, 1, 0, 0xF, 0x77, 0xFF, 9, 1, 0⟩

/-- A timer that has run out. -/
def late_ (tm : Timer) (h : Hub) : Hub := { h with timers := [(tm, 0)] }

theorem wit_RingLaneCommands :
    ((laneHub .off).accepts (.lane 0) ploia 1#8 = true ∧ (laneHub .off).is (Fld.RING_CTL_MODE 0) = false ∧
     (run (.ringEnable ploia 0 1#8) (laneHub .off)).lstate 0 = .lock) ∧
    ((laneHub .up).accepts (.lane 0) ploia 1#8 = true ∧ (run (.ringDisable ploia 0 1#8) (laneHub .up)).lstate 0 = .off ∧
     (run (.ringRetrain ploia 0 1#8) (laneHub .up)).lstate 0 = .holddown ∧
     (run (.ringRetrain ploia 0 1#8) (laneHub .up)).faults Flt.LINK 4 = 1 ∧
     (run (.ringDisable ploia 0 1#8) (laneHub .up)).faults Flt.LINK 4 = 0) ∧
    (let h := flds [(Fld.RING_CTL_EN 0, 0)] (laneHub .up)
     h.accepts (.lane 0) ploia 1#8 = true ∧ (run (.ringDisable ploia 0 1#8) h).rd (Reg.RING_CMDSTAT 0) = 0x01000104#32) := by
  decide +kernel

theorem wit_RingBringUp :
    (run (.trainingDone 0) (laneHub .train)).lstate 0 = .lock ∧
    (late_ (.kr 0) (laneHub .train)).due (.kr 0) = true ∧
    (run (.trainingTimeout 0) (late_ (.kr 0) (laneHub .train))).lstate 0 = .holddown ∧
    (run (.blockLockAcquired ⟨0, 3#2⟩) (laneHub .lock)).is (Fld.RING_LINK_MODABS 0) = true ∧
    (run (.blockLockAcquired ⟨0, 1#2⟩) (laneHub .lock)).is (Fld.RING_LINK_BLOCKLOCK 0) = true ∧
    (run (.blockLockHeld 0) (late_ (.blockLock 0) (laneHub .lock))).lstate 0 = .offer ∧
    (run (.tLockExpiry 0) (late_ (.tLock 0) (laneHub .lock))).is (Fld.RING_EVT_NEGTO 0) = true ∧
    (run (.tNegExpiry 0) (late_ (.tNeg 0) (laneHub .confirm))).lstate 0 = .holddown ∧
    (run (.negResend 0) (late_ (.resend 0) (laneHub .offer))).out.length = 1 ∧
    (let h := late_ (.resend 0) ((laneHub .confirm).setLane 0 { LaneRec.reset with offer := some offer21, ownVer := (2, 1) })
     (h.lane 0).offer = some offer21 ∧ (run (.negResend 0) h).out = [.laneFrame 0 (h.acceptFrame 0 ⟨2, 1, 0xF, 0x77⟩) false]) ∧
    (laneHub .holddown).is Fld.REAM_STATUS_BYPASS = false ∧
    (run (.holddownExpiry 0) (late_ (.holddown 0) (laneHub .holddown))).lstate 0 = .lock ∧
    (let h := flds [(Fld.REAM_STATUS_BYPASS, 1)] (late_ (.holddown 0) ((laneHub .holddown).setLane 0 { LaneRec.reset with kr := true, fir := (9, 9, 9) }))
     h.is Fld.REAM_STATUS_BYPASS = true ∧ (run (.holddownExpiry 0) h).lstate 0 = .lock ∧
     ((run (.holddownExpiry 0) h).lane 0).fir = h.firReg 0) ∧
    (run (.refusedExpiry 0) (late_ (.refused 0) (laneHub .refused))).lstate 0 = .lock := by decide +kernel

theorem wit_RingNegotiation :
    (chooseVersion offer21 = some (2, 1) ∧ ((laneHub .offer).lane 0).held = none ∧
     (run (.linkOfferRx 0 offer21) (laneHub .offer)).lstate 0 = .confirm ∧
     (run (.linkOfferRx 0 offer21) (laneHub .up)).lstate 0 = .confirm) ∧
    (let bad := { offer21 with hiMaj := 0, hiMin := 9 }
     chooseVersion bad = none ∧ (run (.linkOfferRx 0 bad) (laneHub .offer)).lstate 0 = .refused ∧
     (run (.linkOfferRx 0 bad) (laneHub .up)).faults Flt.LINKVER 4 = 1) ∧
    (let h := (laneHub .confirm).setLane 0 { LaneRec.reset with offer := some offer21, ownVer := (2, 1) }
     (h.lane 0).offer = some offer21 ∧ (run (.linkOfferRx 0 offer21) h).out = [] ∧
     (run (.linkOfferRx 0 { offer21 with hub := 7 }) h).out = [.laneFrame 0 (h.acceptFrame 0 ⟨2, 1, 0xF, 0x77⟩) false] ∧
     (h.featuresAgree 0 offer21 ⟨1, 2, 0x9, 0⟩ (1, 2) = true ∧ (1, 2) ∈ linkVersions ∧ h.serial = 0 ∧
      (run (.linkAcceptRx 0 ⟨1, 2, 0x9, 0⟩) h).lstate 0 = .up ∧ (run (.linkAcceptRx 0 ⟨1, 2, 0x9, 0⟩) h).get (Fld.RING_LINK_AG_FEAT 0) = 9) ∧
     (run (.linkAcceptRx 0 ⟨1, 2, 0x9, 5⟩) h).out = [.laneFrame 0 (h.closeFrame 0 closeRestart) false]) ∧
    ((run (.linkAcceptRx 0 ⟨1, 2, 0x9, 0⟩) (laneHub .offer)).lane 0).held = some ⟨1, 2, 0x9, 0⟩ ∧
    (run (.linkCloseRx 0) (laneHub .up)).is (Fld.RING_EVT_PCLOSE 0) = true ∧
    (run (.blockLockLoss 0 true ⟨7#16, 0⟩) (laneHub .up)).faults Flt.LINK 4 = 1 ∧
    (run (.blockLockLoss 0 true ⟨7#16, 0⟩) (laneHub .lock)).lstate 0 = .holddown ∧
    (let h := run (.blockLockLoss 0 false ⟨15#16, 0⟩) (laneHub .up)
     h.lstate 0 = .up ∧ h.rd (Reg.RING_CNT_BLK 0) = 15#32 ∧ h.is (Fld.RING_LINK_HIBER 0) = false ∧
     (run (.blockLockLoss 0 false ⟨1#16, 0⟩) h).is (Fld.RING_LINK_HIBER 0) = true ∧ (run (.blockLockLoss 0 false ⟨1#16, 0⟩) h).lstate 0 = .holddown ∧
     (run (.blockLockLoss 0 false ⟨1#16, 0⟩) { h with clock := us 125 }).lstate 0 = .up) ∧
    (run (.linkOfferRx 0 offer21) (laneHub .off)).rd (Reg.RING_PSERIAL_LO 0) = 0x77#32 := by decide +kernel

/-- Table 04.2 and R107: the first octets of the LINK_OFFER that lane EA sends: VER 1, TYPE 12, C7, LEN 24. -/
theorem test_offer_frame :
    ((laneHub .offer).offerFrame 0).hdr.ver = 1#4 ∧ ((laneHub .offer).offerFrame 0).hdr.typ = 12#4 ∧
    ((laneHub .offer).offerFrame 0).hdr.cls = 7#3 ∧ ((laneHub .offer).offerFrame 0).payload.length = 24 ∧
    ((laneHub .offer).offerFrame 0).payload.take 4 = [2#8, 1#8, 1#8, 0#8] := by decide +kernel

/-- A header of a Test frame. -/
def pingHdr (sub : BitVec 6) : Header := ⟨2, 14, 7, false, false, false, 0, 0, 0, 3, 0, 0, 0, 5, 1, 0, 0, sub, 0x123⟩

theorem wit_RingHealth :
    (let h := late_ (.errWindow 0) (laneHub .up)
     h.due (.errWindow 0) = true ∧ h.laneUp 0 = true ∧ ((run (.errWindowEnd 0) h).lane 0).errs = 0) ∧
    (let t := run (.eqAdapt 0 [1, -1, 0, 1, 0, 0]) (laneHub .up)
     t.rd (Reg.RING_EQ_NOW0 0) = 0x00007F01#32 ∧ t.rd (Reg.RING_EQ_NOW1 0) = 0x100#32 ∧ t.get (Fld.RING_EQ_STAT_SAT 0) = 0 ∧
     (run (.eqAdapt 0 [0, 0, 0, 0, 0, 0]) (laneHub .up)).faults Flt.EQSAT 4 = 1) ∧
    (let h := late_ (.eqsat 0) ((laneHub .up).setLane 0 { LaneRec.reset with eqHeld := true })
     h.due (.eqsat 0) = true ∧ ((run (.eqsatRelease 0) h).lane 0).eqHeld = false) ∧
    (let h := (laneHub .train).setLane 0 { LaneRec.reset with kr := true }
     h.inKr 0 = true ∧ h.firStep 0 (h.lane 0).fir 0 true = none ∧ (run (.cl72CoeffRequest 0 0 true) h).is (Fld.RING_EQ_STAT_TXLIM 0) = true ∧
     ((run (.cl72CoeffRequest 0 0 false) h).lane 0).fir = (1, 48, 8) ∧ h.firStep 0 (h.lane 0).fir 0 false = some (1, 48, 8) ∧
     ((run (.cl72Preset 0) h).lane 0).fir = (0, 63, 0) ∧ ((run (.cl72Initialize 0) h).lane 0).fir = (0, 48, 8)) ∧
    (run (.pingRx 0 (pingHdr 0) [1]) (laneHub .up)).sw.offered.map (fun x => (x.outs, x.frame.hdr.seq)) = [([0], 5#16)] ∧
    (run (.echoRx 0 (pingHdr 1) [1]) (laneHub .up)).sw.offered.map (fun x => x.outs) = [[10]] := by decide +kernel

theorem wit_RingReception :
    (let h := flds [(Fld.RING_LINK_AG_MAJ 0, 2)] (laneHub .up)
     let c4 : Header := { pingHdr 0 with typ := 5, cls := 4, dhub := 9, dring := 1, len := 0 }
     let auth : Header := { c4 with auth := true }
     (run (.ringHeaderRx 0 c4 c4.hcrc true) (laneHub .off)).rd (Reg.RING_CNT_DISC 0) = 1#32 ∧
     (run (.ringHeaderRx 0 c4 (c4.hcrc + 1) true) h).rd (Reg.RING_CNT_HCRC 0) = 1#32 ∧
     classAllowed auth.typ.toNat auth.cls.toNat = true ∧
     (run (.ringHeaderRx 0 auth auth.hcrc true) h).is (Fld.RING_EVT_FEATDROP 0) = true ∧
     h.headerFault 0 c4 c4.hcrc true = none ∧ h.ingressFull 0 4 36 = false ∧ (h.ringRow 0 c4).2.1 = true ∧
     (let c1 : Header := { c4 with typ := 3, cls := 1, dhub := 9, dring := 0, late := true }
      h.headerFault 0 c1 c1.hcrc true = none ∧ h.ingressFull 0 1 c1.frameLen = false ∧
      (run (.ringHeaderRx 0 c1 c1.hcrc true) h).sw.offered.map (fun x => (x.outs, x.frame.hdr.late)) = [([1], false)]) ∧
     (let g := run (.ringHeaderRx 0 c4 c4.hcrc true) h
      (g.lane 0).rx.isSome = true ∧ (run (.ringFrameEnd 0 [] 0 false) g).rd (Reg.RING_CNT_FCS 0) = 1#32 ∧
      (run (.ringFrameEnd 0 [] 0 true) g).rd (Reg.RING_CNT_RXF 0) = 1#32 ∧
      (run (.ringFrameEnd 0 [] 0 true) g).sw.offered.map (fun x => (x.outs, x.transit, x.frame.hdr.hops)) = [([1], true, 0#8)]) ∧
     (h.onLane 1 true ⟨c4, [], 0⟩).hdr.hops = 1#8) := by decide +kernel

end Sys2Proof.Tests

namespace Sys2Proof.Tests

set_option Elab.async false

open Machine

/-- A sealed hub whose EA and WA are UP, with ring 2 and serial number 5. -/
def memHub : Hub := ((flds [(Fld.MBR_CFG_RING_A, 2)] ringHub).wr Reg.CHIP_SERIAL_LO 5#32)

/-- A census frame of a hub with serial number 9 in slot 3. -/
def census : Census := ⟨2, 1, 0, 7, 0, 1, false, false, 9, 3, 2, 0, 0, 0, 0⟩

/-- A hub that has seen the ROLL of the frame above and takes the number it is given. -/
def assigned (v : List Pass) (n : Nat) : Hub :=
  memHub.setMember false { RingMember.reset with newest := some (7, 9), visited := v, claim := .none, chosen := n }

theorem wit_CensusRounds :
    memHub.laneUp 0 = true ∧ memHub.is Fld.REAM_STATUS_BYPASS = false ∧ census.serial ≠ memHub.serial ∧
    (memHub.member false).newest = none ∧ memHub.laneRing 0 = false ∧ memHub.is Fld.MBR_CFG_MGRCAP = false ∧
    census.numRing.toNat = memHub.ringOf false ∧
    (let h := flds [(Fld.MBR_CFG_FIXMODE, 1), (Fld.MBR_CFG_FIXNUM, 4)] memHub
     h.fixedNumber = (some 4, false) ∧ ((run (.censusRollRx 0 census) h).member false).claim = .fixed 4 ∧
     (run (.censusRollRx 0 { census with fixed := 16 }) h).faults Flt.NUMCONF 3 = 1) ∧
    (let h : Hub := { memHub with log := { Log.reset with ident := { Identity.zero with hubA := 6, ringA := 2 } } }
     h.remembered false = 6 ∧ ((run (.censusRollRx 0 census) h).member false).claim = .remembered 6) ∧
    (let h := flds [(Fld.MBR_CFG_MGRCAP, 1)] memHub
     h.ownKey < managerKey 15 9 ∧ ((run (.censusRollRx 0 { census with slot := 15 }) h).member false).newest = some (8, 5)) ∧
    (census.lowestFree = some 1 ∧ ((run (.censusAssignRx 0 census) (assigned [.roll] 0)).member false).chosen = 1) ∧
    (let t := run (.censusCommitRx 0 { census with used := 0x22 }) (assigned [.assign, .roll] 5)
     t.hubNo false = 5 ∧ t.numbered false = true ∧ t.rdBitmap Reg.MBR_USED = 0x22 ∧ t.rd Reg.MBR_CNT_ROUND = 1#32) ∧
    (let h := flds [(Fld.MBR_MGR_ISMGR, 1)] memHub
     h.isMgr false = true ∧ ((run (.censusRequestRx 0) h).member false).newest = some (1, 5)) ∧
    (run .censusReservedRx memHub).rd Reg.MBR_CNT_CENBAD = 1#32 := by decide +kernel

theorem wit_CensusTimers :
    (let h := late_ (.censusSilence 0) (flds [(Fld.MBR_CFG_MGRCAP, 1)] memHub)
     h.due (.censusSilence 0) = true ∧ ((run (.commitSilenceTimeout false) h).member false).newest = some (1, 5)) ∧
    (let h (n : Nat) := late_ (.censusPass 0) (memHub.setMember false { RingMember.reset with originating := some .roll, restarts := n })
     (h 0).due (.censusPass 0) = true ∧ ((run (.censusPassTimeout false) (h 0)).member false).restarts = 1 ∧
     (run (.censusPassTimeout false) (h 3)).faults Flt.CENSUS 3 = 1) ∧
    ((run (.censusRetryTimer false) (late_ (.censusRetry 0) memHub)).member false).originating = some .roll ∧
    (let h := late_ (.commitRepeat 0) ((flds [(Fld.MBR_MGR_ISMGR, 1)] memHub).setMember false { RingMember.reset with lastCommit := some census })
     h.isMgr false = true ∧ (run (.commitRepeat false) h).sw.offered.length = 1) ∧
    (let h := (flds [(Fld.MBR_MGR_ISMGR, 1)] memHub).setMember false { RingMember.reset with reserved := [3, 8] }
     h.allows ploia Reg.MBR_CTL = true ∧ h.isMgr true = false ∧ ((run (.mbrCensusCmd ploia) h).member false).newest = some (1, 5) ∧
     ((run (.mbrFreeCmd ploia 8) h).member false).reserved = [3] ∧
     ((run (.reservationExpiry false 3) (late_ (.reservation 0 3) h)).member false).reserved = [8]) := by decide +kernel

theorem wit_IncarnationsAndTethers :
    (let h := late_ .incarnNext (flds [(Fld.RING_LINK_AG_FEAT 0, 4), (Fld.MBR_ID_A_VALID, 1), (Fld.MBR_ID_A_HUB, 3)] memHub)
     h.due .incarnNext = true ∧ (run .incarnAnnounceSend h).sw.offered.length = 1) ∧
    (let hdr := memHub.opHeader 0 0 0 3 0xFF 0 0 0x000700050000#48 8
     let h : Hub := { memHub with incarns := [(0x200, (3, 5))], dd := [(0x200001, ⟨0, 0⟩)] }
     (hdr.arg.extractLsb' 32 16).toNat = 7 ∧ (run (.incarnAnnounceRx hdr) h).rd Reg.MBR_CNT_INCRESET = 1#32 ∧
     (run (.incarnAnnounceRx hdr) h).dd = []) ∧
    (let h : Hub := { late_ (.dd (ddKey 1 2 3)) memHub with dd := [(ddKey 1 2 3, ⟨0, 0⟩)] }
     h.due (.dd (ddKey 1 2 3)) = true ∧ (run (.ddEntryAge 1 2 3) h).dd = []) ∧
    ((memHub.ddAccept (pingHdr 0)).1 = true ∧ ((memHub.ddAccept (pingHdr 0)).2.ddAccept (pingHdr 0)).1 = false) ∧
    (let h := late_ .tether (flds [(Fld.MBR_ID_A_VALID, 1), (Fld.MBR_ID_A_HUB, 3), (Fld.RING_PARTNER_PHUB 0, 4)] memHub)
     (run .tetherSend h).sw.offered.length = 1 ∧ Assoc.get (run .tetherSend h).timers .tether = some (us 100)) ∧
    (let hdr := memHub.opHeader 0 0 0 0 0 9 0 0 0
     beatPath 0 hdr.sub.toNat = some 0 ∧ memHub.faulted 0 = false ∧ ((run (.tetherRx 0 hdr) memHub).path 0).heardSeq = 9) ∧
    (run (.tetherRx 0 (pingHdr 4)) memHub).rd Reg.MBR_CNT_CENBAD = 1#32 ∧
    (let h := late_ (.path 0) (memHub.setPath 0 { PathRec.reset with watched := true })
     (run (.pathFault 0) h).faults Flt.PATH 3 = 1) := by decide +kernel

/-- A hub of a mirror pair in a role, swap number 0, with a partner in a role. -/
def pairHub (r : Role) (partner : Nat) (phase : Nat) : Hub :=
  let b : PartnerBeat := ⟨1, 1, 1, 0, BitVec.ofNat 8 partner, 0, 0, false, false, 0, 0⟩
  { flds [(Fld.MBR_PAIRCFG_EN, 1), (Fld.MBR_PAIR_ROLE, r.code), (Fld.MBR_PAIR_PHASE, phase)] memHub with
    pair := { PairRec.reset with partner := some b, lead := some r.leads } }

theorem wit_PairRoles :
    (let b : PartnerBeat := ⟨1, 1, 1, 0, 0, 0, 0, false, false, 0, 0⟩
     let h := (pairHub .unpaired 0 0).wr (Reg.RING_PSERIAL_LO 4) 9#32
     pairVersion b = some 0x11 ∧ pairVersion { b with hiMaj := 2, loMaj := 2 } = none ∧
     h.ownKey = managerKey 15 5 ∧ (run (.partnerBeatRx 4 (pingHdr 0) b 15) h).role = .leader ∧
     (run (.partnerBeatRx 4 (pingHdr 0) b 3) h).role = .follower ∧
     (run (.partnerBeatRx 4 (pingHdr 0) b 3) (pairHub .solo 0 0)).role = .leader ∧
     (run (.partnerBeatRx 0 (pingHdr 0) { b with hiMaj := 2, loMaj := 2 } 3) h).faults Flt.PAIRVER 3 = 1) ∧
    (let h := late_ .unpaired (pairHub .unpaired 0 0)
     (run .unpairedTimeout h).role = .solo ∧
     (run .unpairedTimeout { h with pair := { h.pair with peer := true } }).role = .held) ∧
    ((run .pairPeerRise (flds [(Fld.PB_CFG_SHARED 3, 1)] (pairHub .leader 1 0))).busFenced 3 = true) ∧
    ((run .pairPeerLow (pairHub .fCommitted 6 4)).role = .leader ∧ (run .pairPeerLow (pairHub .held 6 4)).role = .solo) := by
  decide +kernel

theorem wit_PairSwap :
    (let h := pairHub .leader 1 0
     h.allows ploia Reg.MBR_CTL = true ∧ h.partnerPaths.all (fun p => !h.faulted p) = true ∧
     (run (.mbrSwapCmd ploia) h).role = .lProposed ∧ (run (.mbrSwapCmd ploia) h).get Fld.MBR_PAIR_SWAPNUM = 1 ∧
     (run (.mbrSwapCmd ploia) (pairHub .follower 1 0)).is Fld.MBR_EVT_SWAPREF = true) ∧
    (let st := (usec 2000).toFrame
     Stamp.ofFrame 0 st = usec 2000 ∧ (run (.swapProposeRx 4 st) (pairHub .follower 5 0)).role = .fReady) ∧
    (let h (r : Role) (ph : Nat) : Hub := { pairHub r 1 ph with pair := { (pairHub r 1 ph).pair with
        t := usec 2000, readyRing := true, commitRing := true, committedRing := true } }
     (h .lProposed 1).swapIs 0 = true ∧ (run (.swapReadyRx true 0) (h .lProposed 1)).get Fld.MBR_PAIR_PHASE = 3 ∧
     (run (.swapCommitRx true 0) (h .fReady 2)).role = .fCommitted ∧ (run (.swapCommittedRx true 0) (h .lProposed 3)).role = .lCommitted ∧
     (run (.swapAbortRx 0) (h .lProposed 3)).faults Flt.SWAP 3 = 1 ∧ (run (.swapAbortRx 0) (h .fReady 3)).role = .follower) ∧
    (run .swapDeadline (pairHub .lProposed 1 1)).role = .leader ∧ (run .fReadyDeadline (pairHub .fReady 1 1)).role = .follower ∧
    (let h : Hub := { pairHub .fCommitted 1 4 with pair := { PairRec.reset with peer := true }, time := { TimeBase.reset with sec := 1 } }
     h.pair.t + usec (1000 * h.get Fld.MBR_PAIRCFG_SWAPWAIT) ≤ h.now ∧ (run .swapwaitExpiry h).role = .follower) ∧
    (run .swapTReached (pairHub .lCommitted 1 3)).pair.tReached = true ∧
    (let h : Hub := { pairHub .lCommitted 1 3 with pair := { PairRec.reset with tReached := true } }
     h.sharedBusy = false ∧ (run .swapSharedFramesEnd h).role = .follower) := by decide +kernel

end Sys2Proof.Tests

namespace Sys2Proof.Tests

set_option Elab.async false

open Machine

/-- A hub whose host port offers a C4 frame for WA. -/
def offering (hold : Bool) (cls : BitVec 3) : Hub :=
  { flds [(Fld.RING_LINK_AG_MAJ 1, 2)] ringHub with
    sw := { Switch.reset with offered := [⟨3, 3, 9, ⟨{ pingHdr 0 with typ := 5, cls := cls, len := 0 }, [], 0⟩, [1], false, false, none, hold, none⟩], nextFid := 4 } }

/-- That frame, copied, waiting at its output. -/
def waiting (o : Nat) : Hub :=
  let f : Frame := ⟨{ pingHdr 0 with typ := 5, cls := 4, len := 0 }, [], 0⟩
  { offering false 4 with sw := { Switch.reset with
      used := [7], copies := [⟨5, 3, 9, o, 4, f, [7], true, none, false, if o = 10 then .consumer else .voq, false, 0, false, false, 0, 0, [], none⟩],
      queues := [(20, [5])] } }

theorem wit_SwitchCopies :
    (∀ hold : Bool, (let h := offering hold 4
      (h.front 9).isSome = true ∧ cellsOf 36 = 1 ∧ h.get Fld.SW_VATCFG_LOWWAT ≤ h.sw.free ∧
      h.fits 9 1 4 1 ⟨pingHdr 0, [], 0⟩ = true)) ∧
    (let h := flds [(Fld.SW_QCFG_LIMIT 1 4, 1), (Fld.SW_QCFG_POLICY 1 4, 0)] (offering false 4)
     let g : Hub := { h with sw := { h.sw with copies := (waiting 1).sw.copies } }
     g.fits 9 1 4 1 ⟨{ pingHdr 0 with typ := 5, cls := 4, len := 0 }, [], 0⟩ = false ∧ g.is (Fld.SW_QCFG_POLICY 1 4) = false ∧
     holdable 9 = true ∧ (run (.switchCopyWrite ⟨9, []⟩) g).sw.offered.map (fun y => y.hold) = [true]) ∧
    (let f := { pingHdr 0 with typ := 3, cls := 0, len := 0 }
     let h := flds [(Fld.SW_QCFG_LIMIT 1 0, 1), (Fld.SW_QCFG_POLICY 1 0, 0)] (offering false 0)
     let g : Hub := { h with sw := { h.sw with copies := (waiting 1).sw.copies.map (fun c => { c with cls := 0 }) } }
     g.fits 9 1 0 1 ⟨f, [], 0⟩ = false ∧ (run (.switchCopyWrite ⟨9, []⟩) g).rd (Reg.SW_LOST 1 0) = 1#32 ∧
     (run (.switchCopyWrite ⟨9, []⟩) g).faults Flt.QDROP 2 = 1) := by decide +kernel

theorem wit_SwitchOutputs :
    ((waiting 1).choose 1).isSome = true ∧ (waiting 1).outStopped 1 = false ∧ ((waiting 1).sched 1).sending = none ∧
    (run (.outputSelect 1 0 false) (waiting 1)).out.length = 1 ∧
    (run (.outputSelect 1 0 false) (waiting 1)).rd (Reg.RING_CNT_TXF 1) = 1#32 ∧
    (let g := run (.outputSelect 1 0 false) (waiting 1)
     (g.endSending 1).isSome = true ∧ (run (.outputSelect 1 0 false) g).sw.copies = []) ∧
    (run (.outputSelect 5 0 false) (waiting 5)).acts.length = 1 ∧
    (run (.outputSelect 10 0 false) (waiting 10)).out.length = 1 ∧
    (run (.outputSelect 1 2 false) (waiting 1)).faults Flt.VATECC 2 = 1 ∧
    (run (.outputSelect 1 0 false) { waiting 1 with xings := [(swCrossing 9 0, .stopped)] }).rd Reg.ISL_CNT_XDROP = 1#32 ∧
    (let h := waiting 1
     let g : Hub := { h with sw := { h.sw with copies := h.sw.copies.map (fun c => { c with frame := { c.frame with hdr := { c.frame.hdr with auth := true } } }) } }
     (run (.outputSelect 1 0 false) g).is (Fld.RING_EVT_FEATDROP 1) = true) ∧
    (let h : Hub := { (waiting 1).setSched 1 { OutSched.reset with sample := (waiting 1).sw.copies.head?.map (fun c => (c, 0)) } with clock := us 1 }
     (h.sched 1).sample.isSome = true ∧ (run (.tailSampleSkip 1) h).rd Reg.SW_CNT_TSSKIP = 1#32 ∧
     (run (.tailSampleSkip 1) { h with clock := us 1 - 1 }).rd Reg.SW_CNT_TSSKIP = 0#32) ∧
    (let h : Hub := { waiting 9 with sw := { (waiting 9).sw with queues := [(4, [5])] } }
     h.allows ploia (Reg.SW_HQ_HEAD 4) = true ∧
     (run (.hostQueuePop ploia 4) h).out = [.reply ploia (Reg.SW_HQ_HEAD 4) 0x82600024#32] ∧ (run (.hostQueuePop ploia 4) h).sw.copies = [] ∧
     (run (.hostQueuePop ploia 3) h).out = [.reply ploia (Reg.SW_HQ_HEAD 3) 0#32]) ∧
    (run (.vatminRead ploia) ((waiting 1).wr Reg.SW_VATMIN 4#32)).rd Reg.SW_VATMIN = (waiting 1).rd Reg.SW_VATFREE ∧
    (let h : Hub := { flds [(Fld.SW_BUDGET_OCTETS 9 4, 5)] sealedHub with sw := { Switch.reset with meters := [(76, 6)] } }
     h.ready .budget = true ∧ h.overruns = [(9, 4)] ∧ (run .budgetWindowEnd h).rd (Reg.SW_BUDSTAT 9) = 16#32) := by decide +kernel

/-- What a copy is when it is written: the choice of cells is free, so the witness names only what does not depend on it. -/
theorem wit_SwitchCopies_taken : (∃ t, exec (.switchCopyWrite ⟨9, []⟩) ⟨[], offering false 4⟩ = .next t) ∧
    ((offering false 4).front 9).isSome = true := ⟨⟨_, rfl⟩, rfl⟩

end Sys2Proof.Tests

namespace Sys2Proof.Tests

set_option Elab.async false

open Machine

/-- A frame of a type, class, kind, tag and fabric address, from hub 3 of ring 0. -/
def xframe (typ : BitVec 4) (cls : BitVec 3) (sub : BitVec 6) (tag : BitVec 10) (a : BitVec 48) (pay : List Byte) : Frame :=
  ⟨{ pingHdr sub with typ := typ, cls := cls, tag := tag, arg := a, len := BitVec.ofNat 16 pay.length, world := true }, pay, 0⟩

/-- A ring hub with a frame taken at a port. -/
def taken (port : Nat) (f : Frame) : Hub := { ringHub with acts := [⟨port, 1, f, false, 0, false, false, 0⟩] }

/-- A request of Ploia for 4 octets at local address 0x050040 of hub 3. -/
def req3 : WaitReq := ⟨true, true, 0x003000050040#48, .read 4, 0⟩

/-- That request under way with tag 6. -/
def underway : Outstanding := ⟨6, req3, 128, 0, xframe 6 5 0 6 0x003000050040#48 []⟩

/-- A hub that has it under way. -/
def asking : Hub := { taken 10 (xframe 7 6 0 6 0x003000050040#48 [1, 2, 3, 4]) with
  xact := { Xact.reset with out := [underway], allQuarantined := false } }

theorem wit_Requests :
    (let h : Hub := { ringHub with xact := { Xact.reset with waiting := [req3], allQuarantined := false } }
     faHub req3.addr = 3 ∧ h.freeTag true = some 0 ∧ req3.kind.space ≤ h.spaceLeft true ∧ h.toSelf 0 3 = false ∧
     h.laneTowards 0 3 = some (0, true) ∧ (run (.requestIssue true none) h).sw.offered.length = 1 ∧
     (run (.requestIssue true none) h).xact.out.length = 1 ∧
     (let g : Hub := { h with xact := { h.xact with waiting := [{ req3 with addr := 0x090000050040#48 }] } }
      (run (.requestIssue true none) g).out = [.octets 3 [1, 0x090000050040] [0xFF, 0xFF, 0xFF, 0xFF]])) ∧
    ((run (.requestIssue true (some (0x003000050040#48, .posted [7] none))) ringHub).sw.offered.length = 1 ∧
     (run (.requestIssue true (some (0x090000050040#48, .posted [7] none))) ringHub).faults Flt.DECODE 14 = 1) ∧
    ((run (.completionRx true) asking).out = [.octets 3 [0, 0x003000050040] [1, 2, 3, 4]] ∧ (run (.completionRx true) asking).xact.out = []) ∧
    (let h : Hub := { taken 9 (xframe 7 6 0 6 0x003000050040#48 [1, 2, 3, 4]) with
        xact := { asking.xact with out := [{ underway with req := { req3 with mc := false, hostId := 2 } }] },
        host := { HostPort.reset with reads := [⟨2, 0x003000050040, 4, false, 1, [], 0⟩] } }
     (run (.completionRx false) h).out = [.octets 4 [2, 0] [1, 2, 3, 4]]) ∧
    (let h : Hub := { asking with acts := [⟨10, 1, xframe 7 6 3 6 0x003000050040#48 [], false, 0, false, false, 0⟩] }
     (run (.completionRx true) h).xact.out.map (fun o => o.tries) = [1]) ∧
    (run (.completionRx true) { asking with xact := { asking.xact with out := [] } }).rd Reg.XB_CNT_BADCPL = 1#32 ∧
    ((run (.completionTimeout 6) (late_ (.tag 6) asking)).faults Flt.CTO 14 = 1 ∧
     (run (.completionTimeout 6) (late_ (.tag 6) asking)).xact.quarantine = [6]) ∧
    (run (.busyReissue 6) (late_ (.busy 6) asking)).sw.offered.length = 1 ∧
    (run (.tagQuarantineEnd none) (late_ .tagsBoot ringHub)).xact.allQuarantined = false ∧
    (run (.tagQuarantineEnd (some 5)) (late_ (.tagFree 5) { ringHub with xact := { Xact.reset with quarantine := [5] } })).xact.quarantine = [] := by
  decide +kernel

/-- A hub whose window 1 maps host memory at 0x1_0000_0000, its link up with Bus Master Enable. -/
def windowHub (f : Frame) : Hub :=
  { flds [(Fld.HP_LINK_UP, 1), (Fld.HP_LINK_BME, 1), (Fld.HP_WIN_CTL_EN 1, 1), (Fld.HP_WIN_CTL_OUT 1, 1), (Fld.HP_WIN_CTL_SIZELOG 1, 12)]
      ((taken 9 f).wr (Reg.HP_WIN_SRC_HI 1) 1#32) with host := { HostPort.reset with atomicEn := true } }

/-- The payload of a non-posted request: RDLEN, no PWV, operands. -/
def npPay (rdlen : Nat) (ops : List Byte) : List Byte := beBytes 2 rdlen ++ [0, 0, 0, 0, 0, 0] ++ ops

theorem wit_Completer :
    (let f := xframe 5 4 32 0 0x050040#48 [1]
     let h : Hub := { taken 9 f with clock := ms 5 }
     f.postedShape = false ∧ h.isSelf 0 3 = false ∧ h.routeLane 0 3 = some (0, true) ∧
     (run .postedWriteRx h).rd Reg.XB_CNT_MALF = 1#32 ∧ (run .postedWriteRx h).sw.offered.length = 1) ∧
    (let f := xframe 5 4 0 0 0x050040#48 [0, 0, 0, 0x12]
     let r := ({ taken 9 f with acts := [] } : Hub).localWrite (reqOf f 0) 0x050040 f.payload false 0x050040
     f.postedShape = true ∧ r.1 = none ∧ r.2.xact.held = [] ∧ (run .postedWriteRx (taken 9 f)).rd Reg.XB_SB_DST = 0x12000000#32) ∧
    (let h := windowHub (xframe 5 4 0 0 0x100000008#48 [1, 2])
     h.window true 0x100000008 2 = some (1, 8) ∧ h.hostBar = none ∧ (run .postedWriteRx h).host.posted.length = 1) ∧
    (let f := xframe 6 5 0 9 0x050040#48 ([0, 4, 1, 0, 0, 9, 0, 0])
     let h : Hub := { taken 9 f with xact := { Xact.reset with donePw := [(f.hdr.source, 3, 0)] } }
     h.fenced f = true ∧ (run .npReadRx h).xact.held.length = 1 ∧
     (run (.completerAbandon 0) (late_ (.held 0) (run .npReadRx h))).xact.held = [] ∧
     (run (.fenceTimeout 0) (late_ (.fence 0) (run .npReadRx h))).rd Reg.XB_CNT_FENCETO = 1#32) ∧
    (let f := xframe 6 5 0 9 0x050040#48 (npPay 4 [])
     f.npShape = true ∧ (taken 9 f).fenced f = false ∧
     (run .npReadRx (taken 9 f)).sw.offered.map (fun x => (x.frame.hdr.tag, x.frame.payload)) = [(9#10, [0, 4, 0, 0])]) ∧
    (let f := xframe 6 5 1 9 0x050040#48 (npPay 0 [0, 0, 0, 8])
     f.npShape = true ∧ (run .npWriteRx (taken 9 f)).rd Reg.XB_SB_DST = 0x08000000#32 ∧
     (run .npWriteRx (taken 9 f)).sw.offered.map (fun x => x.frame.hdr.sub) = [0#6]) ∧
    (let f := xframe 6 5 2 9 0x100000008#48 (npPay 0 [0, 0, 0, 8])
     let c := xframe 6 5 3 9 0x100000008#48 (npPay 0 [0, 0, 0, 8, 0, 0, 0, 9])
     f.npShape = true ∧ c.npShape = true ∧ (run .npSwapRx (windowHub f)).host.nps.length = 1 ∧
     (run .npCasRx (windowHub c)).host.nps.length = 1) ∧
    (run .npReservedRx (taken 9 (xframe 6 5 7 9 0x50040#48 (npPay 0 [])))).sw.offered.map (fun x => x.frame.hdr.sub) = [1#6] ∧
    (let f := xframe 11 6 3 0 0x50040#48 ([15, 240, 0, 5, 1, 9, 0, 4] ++ List.replicate 16 0)
     let h := { taken 9 f with time := { TimeBase.reset with sec := 4 } }
     (noticeFrom f).stream.toNat = h.get Fld.XB_STREAM_HPSTR ∧ (run (.noticeRx false) (taken 9 f)).xact.pfq.length = 1 ∧
     Stamp.ofFrame h.now (noticeFrom f).stamp < h.bornStamp ∧ (run (.noticeRx false) h).rd Reg.XB_CNT_PFSTALE = 1#32) := by
  decide +kernel

theorem wit_HostAccesses :
    (let h := flds [(Fld.HP_LINK_UP, 1)] ringHub
     h.inboundLoad = 0 ∧ h.inbound false 0x1000000 4 = none ∧ (run (.hostBarWrite 0 0x1000000 [1, 2, 3, 4] none) h).rd Reg.HP_CNT_NOWIN = 1#32 ∧
     (run (.hostBarRead 0 0x1000000 4) h).out = [.octets 4 [1, 1] []] ∧ h.inbound false 0x50040 4 = some (0, 0x50040) ∧
     (run (.hostBarRead 0 0x50040 4) h).xact.waiting.length = 1 ∧
     (run (.hostBarWrite 2 12 [0, 0, 0, 0] none) h).msixWord 12 = 0#32 ∧
     (let g := flds [(Fld.CHIP_SEAL_SEALED, 0)] h
      (run (.hostBarWrite 0 0 [1] none) g).get Fld.CHIP_SEAL_PRESEAL = 1 ∧ (run (.hostBarRead 0 0 2) g).out = [.octets 4 [1, 0] [0xFF, 0xFF]])) ∧
    (let h := flds [(Fld.HP_LINK_UP, 1), (Fld.HP_CTL_BAR2LOG, 20), (Fld.HP_WIN_CTL_EN 1, 1), (Fld.HP_WIN_CTL_SIZELOG 1, 12)]
        (ringHub.wr (Reg.HP_WIN_DST_HI 1) 0x30#32)
     h.inbound true 0x40 2 = some (1, 0x003000000040) ∧ h.laneTowards 0 3 = some (0, true) ∧
     (run (.hostBarWrite 1 0x40 [5, 6] none) h).sw.offered.map (fun x => (x.inp, x.outs, x.frame.payload)) = [(9, [0], [5, 6])]) ∧
    (let h := flds [(Fld.HP_LINK_UP, 1), (Fld.HP_LINK_BME, 1)] ringHub
     h.hostBar = none ∧ (flds [(Fld.HP_LINK_BME, 0)] h).hostBar = some causeNOBM ∧
     (run (.hostWindowRequest true) { flds [(Fld.HP_LINK_BME, 0)] h with host := { HostPort.reset with posted := [.msix 12] } }).host.msixPending = [12] ∧
     (run (.hostWindowRequest true) { h with host := { HostPort.reset with posted := [.msix 12] } }).out = [.msix 12] ∧
     (run (.hostWindowRequest true) { h with host := { HostPort.reset with posted := [.write [(8, [5])] 0 (xframe 5 4 0 0 0 [5]) none] } }).out =
       [.octets 5 [8] [5]] ∧
     (let e : NpOut := ⟨4, 0, 8, 2, false, false, xframe 6 5 0 9 0x100000008#48 (npPay 2 [])⟩
      let g : Hub := { h with host := { HostPort.reset with nps := [e] } }
      g.npMayGo e = true ∧ (run (.hostWindowRequest false) g).out = [.note 14 [4, 0, 8, 2]] ∧
      (run (.pcieCompletionRx 4 true [7, 8]) (run (.hostWindowRequest false) g)).sw.offered.map (fun x => x.frame.payload) = [[7, 8]])) := by
  decide +kernel

theorem wit_HostLinkAndSideBand :
    (let h := flds [(Fld.HP_LINK_UP, 1), (Fld.HP_LINK_PERST, 1), (Fld.HP_LINK_MSIXEN, 1)] ringHub
     let g : Hub := { h with host := { HostPort.reset with sheet := true, msix := [(12 * 16 + 12, 0)] } }
     (run (.hostConfigRequest (.read 0)) h).rd Reg.HP_CNT_CRS = 1#32 ∧ (run (.hostConfigRequest (.busMaster true)) g).is Fld.HP_LINK_BME = true ∧
     (run (.hostConfigRequest (.atomic true)) g).host.atomicEn = true ∧
     (run (.hostLinkDown true) g).is Fld.HP_EVT_HOTRST = true ∧ (run (.hostLinkDown true) g).is Fld.HP_LINK_PERST = true ∧
     ((run (.perstNChange false) g).unit .host).state = .off ∧
     (let a : Act := ⟨9, 1, xframe 10 4 0 0 12 [], false, 0, false, false, 0⟩
      ({ g with acts := [a] } : Hub).sbFirst a = true ∧ g.msixMasked 12 = false ∧ (run .sbInterruptRx { flds [(Fld.HP_LINK_BME, 1)] g with acts := [a] }).out = [.msix 12] ∧
      (run .sbInterruptRx { g with acts := [a] }).out = [] ∧
      (let b : Act := { a with frame := xframe 10 4 0 0 11 [] }
       (run .sbInterruptRx { g with acts := [b] }).rd Reg.XB_CNT_SBBAD = 1#32) ∧
      (let d : Act := { a with frame := xframe 10 4 1 0 0x77 [] }
       (run (.sbDoorbellRx false) { g with acts := [d] }).xact.doorbells = [0x77#32] ∧
       (run (.sbDoorbellRx false) { g with acts := [d], xact := { Xact.reset with doorbells := List.replicate 32 0#32 } }).rd Reg.XB_CNT_DBFULL = 1#32) ∧
      (let r : Act := { a with frame := xframe 10 4 3 0 0 [] }
       (run (.sbReservedRx false) { g with acts := [r] }).rd Reg.XB_CNT_SBBAD = 1#32))) ∧
    (let h := flds [(Fld.HP_LINK_PERST, 1)] ringHub
     (run (.hostLinkUp 2 3) h).get Fld.HP_LINK_RATE = 3 ∧ ((run (.hostLinkUp 2 3) h).unit .host).state = .run ∧
     (run (.perstNChange false) h).is Fld.HP_LINK_PERST = false) := by decide +kernel

end Sys2Proof.Tests

namespace Sys2Proof.Tests

set_option Elab.async false

open Machine

/-- A hub whose station port 1 runs, with a default action HOST. -/
def stHub (st : UState) : Hub :=
  (flds [(Fld.ST_CTL_EN 1, 1), (Fld.ST_LINK_UP 1, 1), (Fld.ST_CTL_ANEN 1, 1)] (ringHub.wr (Reg.ST_DEFAULT 1) 0x80000000#32)).setUnit (.station 1) st 0

theorem wit_StationPorts :
    (let h := stHub .idle
     h.accepts (.station 1) ploia (h.unit (.station 1)).epoch = true ∧ h.stInUse 1 = true ∧
     ((run (.stEnable ploia 1 (h.unit (.station 1)).epoch) h).unit (.station 1)).state = .run ∧
     ((run (.stDisable ploia 1 (h.unit (.station 1)).epoch) h).unit (.station 1)).state = .off ∧
     (run (.stRestartAn ploia 1 (h.unit (.station 1)).epoch) h).is (Fld.ST_LINK_UP 1) = false ∧
     ((run (.stLinkChange 1 true true 2) h).unit (.station 1)).state = .run) ∧
    (let h := stHub .run
     (run (.stFrameRx 1 (List.replicate 63 0) true at0) h).rd (Reg.ST_CNT_SHORT 1) = 1#32 ∧
     (run (.stFrameRx 1 (List.replicate 2001 0) true at0) h).rd (Reg.ST_CNT_LONG 1) = 1#32 ∧
     (run (.stFrameRx 1 (List.replicate 64 0) false at0) h).rd (Reg.ST_CNT_FCS 1) = 1#32 ∧
     ptpEvent (List.replicate 64 0) = none ∧ h.ingressFull 6 3 (36 + padded 80) = false ∧ (∀ r < 16, h.ruleMatches 1 r (List.replicate 64 0) = false) ∧
     (run (.stFrameRx 1 (List.replicate 64 0) true at0) h).sw.offered.map (fun x => (x.outs, x.frame.hdr.len)) = [([9], 80#16)] ∧
     (let g := flds [(Fld.ST_RULE_MATCH_EN 1 2, 1)] h
      (List.range 16).find? (fun r => g.ruleMatches 1 r (List.replicate 64 0)) = some 2 ∧
      (run (.stFrameRx 1 (List.replicate 64 0) true at0) g).sw.offered = [] ∧
      (run (.stFrameRx 1 (List.replicate 64 0) true at0) (g.wr (Reg.ST_RULE_ACT 1 2) 0x80000000#32)).sw.offered.length = 1) ∧
     (let g : Hub := { h with acts := [⟨6, 1, xframe 8 4 8 0 0 ([0, 1, 0, 2] ++ List.replicate 12 0 ++ [7, 9]), false, 0, false, false, 0⟩] }
      (run (.stTunnelTx 1 ⟨5, 0⟩) g).out = [.stationFrame 1 [7, 9] false]) ∧
     (let g := h.setSt 1 ⟨[(2, 7, unitsPerSec + 65536)]⟩
      g.allows ploia (Reg.ST_TSFIFO 1) = true ∧ (run (.stTsfifoPop ploia 1) g).out = [.reply ploia (Reg.ST_TSFIFO 1) 0x80200007#32] ∧
      (run (.stTsfifoPop ploia 1) g).rd (Reg.ST_TS_NS 1) = 1#32)) := by decide +kernel

/-- A transmit stamp of a Sync message that a tunnel asks for is queued. -/
theorem wit_StationPorts_stamp :
    (let o : List Byte := List.replicate 12 0 ++ [0x88, 0xF7] ++ List.replicate 30 0 ++ [0x12, 0x34] ++ List.replicate 20 0
     let g : Hub := { stHub .run with acts := [⟨6, 1, xframe 8 4 8 0 0 ([0, 1, 0, 66] ++ List.replicate 12 0 ++ o), false, 0, false, false, 0⟩] }
     ptpEvent o = some 14 ∧ ((run (.stTunnelTx 1 ⟨5, 0⟩) g).st 1).stamps.map (fun x => (x.1, x.2.1)) = [(0, 0x1234)]) := by decide +kernel

end Sys2Proof.Tests

namespace Sys2Proof.Tests

set_option Elab.async false

open Machine

/-- A sealed hub in whose cluster 2 engine 5 stands in a state, finds the word w at address 0 of its window, and has some fields set. -/
def engHub (st : UState) (w : Word) (l : List (Field × Nat)) : Hub :=
  let h := (flds ([(Fld.BRD_EWIN_BASE 2 5, 0), (Fld.BRD_EWIN_LEN 2 5, 10), (Fld.BRD_EWIN_WRAPT 2 5, 9), (Fld.BRD_EPINS_INBASE 2 5, 4), (Fld.BRD_EPINS_JPIN 2 5, 4)] ++ l)
    sealedHub).wr (Reg.BRD_PROG 2 0) w
  (h.setUnit (cluUnit 2) .run 0).setUnit (engUnit 2 5) st 0

/-- The same with the engine's own registers given. -/
def engWith (w : Word) (l : List (Field × Nat)) (r : EngineRec) : Hub := (engHub .run w l).setEng 2 5 r

/-- The words of the RS-485 receiver of chapter 08: operation, operands, tail and delay, read from the spec's own table of words. -/
theorem test_engineWords :
    (opOf 0x10001000#32 = 1 ∧ opnd 0x10001000#32 12 3 = 1 ∧ opnd 0x10001000#32 0 5 = 0) ∧
    (opOf 0x700A2008#32 = 7 ∧ opnd 0x700A2008#32 13 3 = 1 ∧ opnd 0x700A2008#32 0 12 = 8 ∧ opnd 0x700A2008#32 16 8 = 10) ∧
    (opOf 0x00065002#32 = 0 ∧ opnd 0x00065002#32 12 4 = 5 ∧ opnd 0x00065002#32 0 6 = 2 ∧ opnd 0x00065002#32 16 8 = 6) ∧
    [0x10001000#32, 0x700A2008, 0x20000001, 0x00065002, 0x00001009, 0x6000C300, 0x80000000, 0x10009000, 0x00000000, 0x40004000,
      0x1000C000, 0x9000E000, 0x20002020, 0xA0000000, 0x7000800B, 0x50004000, 0x30010001, 0x21000001, 0x01005006, 0x90005000].all
      (fun w => !reservedCode w) = true := by decide +kernel

theorem wit_EngineCommands :
    (let h := engHub .idle 0x700A2008#32 []
     h.accepts (.engine 2 5) ploia 2#8 = true ∧ h.engReady 2 5 = true ∧ h.engValid 2 5 = true ∧ h.engWord 2 5 = 0x700A2008#32 ∧
     (run (.engineStart ploia 2 5 2#8 3#6) h).engState 2 5 = .run ∧ (run (.engineStart ploia 2 5 2#8 3#6) h).engPc 2 5 = 3 ∧
     (run (.engineStep ploia 2 5 2#8 0#32) h).engX 2 5 = 8#32 ∧ (run (.engineStep ploia 2 5 2#8 0#32) h).engPc 2 5 = 1) ∧
    (let h := engHub .idle 0x10001000#32 []
     h.engReady 2 5 = true ∧ (run (.engineStep ploia 2 5 2#8 0x10#32) (engHub .idle 0x10000004#32 [])).engPc 2 5 = 0) ∧
    (let h := engHub .run 0#32 [(Fld.BRD_LINEOWN_EN 2 7, 1), (Fld.BRD_LINEOWN_ENG 2 7, 5), (Fld.BRD_LINEOE_LINE 2, 0x180)]
     h.accepts (.engine 2 5) ploia 2#8 = true ∧ h.engRuns 2 5 = true ∧ (run (.engineStop ploia 2 5 2#8) h).engState 2 5 = .idle ∧
     (run (.engineRestart ploia 2 5 2#8) h).cmdWord (.engine 2 5) = cmdStatWord 2 3 false .badcmd ∧
     (run (.engineRelease ploia 2 5 2#8) h).rd (Reg.BRD_LINEOE 2) = 0x100#32) ∧
    (let h := (engHub .fault 0#32 []).wr (Reg.BRD_EX 2 5) 7#32
     h.accepts (.engine 2 5) ploia 2#8 = true ∧ (run (.engineRestart ploia 2 5 2#8) h).engX 2 5 = 0#32 ∧
     (run (.engineStart ploia 2 5 2#8 0#6) h).cmdWord (.engine 2 5) = cmdStatWord 2 1 false .badcmd) ∧
    (let h := late_ (.engStall (engNo 2 5)) (engHub .run 0#32 [(Fld.BRD_EPC_STALL 2 5, 1)])
     h.due (.engStall (engNo 2 5)) = true ∧ h.stallReason 2 5 ≠ 0 ∧ (run (.engineStallTimeout 2 5) h).engState 2 5 = .stall) := by
  decide +kernel

theorem wit_EngineArithmetic :
    (let h := (engHub .run 0x00065002#32 []).wr (Reg.BRD_EX 2 5) 8#32
     h.engDue 2 5 = true ∧ h.engWord 2 5 = 0x00065002#32 ∧ (run (.engineJmp 2 5 0#32) h).engX 2 5 = 7#32 ∧
     (run (.engineJmp 2 5 0#32) h).engPc 2 5 = 2 ∧ ((run (.engineJmp 2 5 0#32) h).eng 2 5).step = 7 ∧
     (run (.engineJmp 2 5 0#32) (h.wr (Reg.BRD_EX 2 5) 1#32)).engPc 2 5 = 1) ∧
    ((run (.engineJmp 2 5 0x10#32) (engHub .run 0x00001009#32 [])).engPc 2 5 = 9 ∧
     (run (.engineJmp 2 5 0x10#32) (engHub .run 0x00001809#32 [])).engPc 2 5 = 1 ∧
     (run (.engineJmp 2 5 0#32) (engHub .run 0x0000000A#32 [])).engState 2 5 = .fault ∧
     (run (.engineJmp 2 5 0#32) (engHub .run 0xB0000000#32 [])).faults Flt.ENGFAULT 17 = 1) ∧
    ((run (.engineMov 2 5 0#32) (engWith 0x6000C300#32 [] { EngineRec.reset with isr := 5, isrCount := 9 })).eng 2 5 =
      { EngineRec.reset with step := 1 } ∧
     (run (.engineMov 2 5 0x30#32) (engHub .run 0x60002800#32 [])).engX 2 5 = 0xFFFFFFFC#32 ∧
     (run (.engineMov 2 5 0x30#32) (engHub .run 0x60003000#32 [])).engX 2 5 = 0xC0000000#32 ∧
     (run (.engineMov 2 5 0#32) (engHub .run 0x6000A800#32 [])).engState 2 5 = .fault) ∧
    (let h := engHub .run 0x7100800B#32 [(Fld.BRD_EPINS_SETCNT 2 5, 4), (Fld.BRD_EPINS_SETBASE 2 5, 30), (Fld.BRD_LINEOWN_EN 2 31, 1),
        (Fld.BRD_LINEOWN_ENG 2 31, 5), (Fld.BRD_LINEOWN_EN 2 1, 1), (Fld.BRD_LINEOWN_ENG 2 1, 5), (Fld.BRD_ESHIFT_TCOUNT 2 5, 1),
        (Fld.BRD_ESHIFT_TAILBASE 2 5, 1)]
     h.engDue 2 5 = true ∧ reservedCode 0x7100800B#32 = false ∧ (run (.engineSet 2 5) h).rd (Reg.BRD_LINEOE 2) = 0x80000002#32 ∧
     (run (.engineSet 2 5) h).rd (Reg.BRD_LINEOUT 2) = 2#32) ∧
    (let r := { EngineRec.reset with isr := 3, isrCount := 2 }
     ((run (.engineIn 2 5 0x10#32) (engWith 0x20000001#32 [] r)).eng 2 5).isr = 7#32 ∧
     ((run (.engineIn 2 5 0x10#32) (engWith 0x20000001#32 [(Fld.BRD_ESHIFT_ISHR 2 5, 1)] r)).eng 2 5).isr = 0x80000001#32 ∧
     ((run (.engineIn 2 5 0x10#32) (engWith 0x20000001#32 [(Fld.BRD_ESHIFT_DRAINEN 2 5, 1), (Fld.BRD_ESHIFT_DRAINTH 2 5, 3)] r)).eng 2 5).rx = [7#32] ∧
     (run (.engineIn 2 5 0#32) (engWith 0x20000001#32 [(Fld.BRD_ESHIFT_DRAINEN 2 5, 1), (Fld.BRD_ESHIFT_DRAINTH 2 5, 3)]
       { r with rx := List.replicate 8 0 })).stallReason 2 5 = 3 ∧
     (run (.engineIn 2 5 0#32) (engHub .run 0x20000000#32 [])).faults Flt.ENGFAULT 17 = 1) ∧
    (let r := { EngineRec.reset with osr := 0xA5000001#32, tx := [6] }
     (run (.engineOut 2 5) (engWith 0x30002008#32 [] r)).engX 2 5 = 0xA5#32 ∧
     ((run (.engineOut 2 5) (engWith 0x30002008#32 [] r)).eng 2 5).osr = 0x00000100#32 ∧
     (run (.engineOut 2 5) (engWith 0x30002008#32 [(Fld.BRD_ESHIFT_OSHR 2 5, 1)] r)).engX 2 5 = 1#32 ∧
     (run (.engineOut 2 5) (engWith 0x30002020#32 [(Fld.BRD_ESHIFT_FILLEN 2 5, 1), (Fld.BRD_ESHIFT_FILLTH 2 5, 8)] { r with osrCount := 8 })).engX 2 5 = 6#32 ∧
     (run (.engineOut 2 5) (engWith 0x30002020#32 [(Fld.BRD_ESHIFT_FILLEN 2 5, 1), (Fld.BRD_ESHIFT_FILLTH 2 5, 8)]
       { r with osrCount := 8, tx := [] })).stallReason 2 5 = 2 ∧
     (run (.engineOut 2 5) (engWith 0x3000A008#32 [] r)).engState 2 5 = .fault ∧
     (run (.engineOut 2 5) (engWith 0x30002021#32 [] r)).engState 2 5 = .fault ∧
     ((run (.engineOut 2 5) (engWith 0x3000C008#32 [] r)).eng 2 5).isr = 0xA5#32) := by decide +kernel

theorem wit_EngineQueuesAndWaits :
    ((run (.engineWait 2 5 0#32) (engHub .run 0x10001000#32 [])).engPc 2 5 = 1 ∧
     (run (.engineWait 2 5 0x10#32) (engHub .run 0x10001000#32 [])).stallReason 2 5 = 1 ∧
     (run (.engineWait 2 5 0#32) (engWith 0x1000C000#32 [] { EngineRec.reset with rise := (9, true) })).engPc 2 5 = 1) ∧
    (let r := { EngineRec.reset with isr := 5, isrCount := 8, rx := List.replicate 7 0 }
     ((run (.enginePush 2 5) (engWith 0x40004000#32 [] r)).eng 2 5).rx = List.replicate 7 0 ++ [5#32] ∧
     (run (.enginePush 2 5) (engWith 0x40004000#32 [] { r with rx := List.replicate 8 0 })).stallReason 2 5 = 3 ∧
     (run (.enginePush 2 5) (engWith 0x40000000#32 [] { r with rx := List.replicate 8 0 })).rd (Reg.BRD_CNT_RXLOST 2 5) = 1#32 ∧
     ((run (.enginePush 2 5) (engWith 0x40008000#32 [(Fld.BRD_ESHIFT_DRAINTH 2 5, 9)] r)).eng 2 5).isr = 5#32 ∧
     ((run (.enginePush 2 5) (engWith 0x40000000#32 [(Fld.BRD_ESHIFT_DRAIN 2 5, 1)] { r with rx := [] })).eng 2 5).buffer = [5#32] ∧
     (run (.enginePush 2 5) (engWith 0x40000000#32 [(Fld.BRD_ESHIFT_JOIN 2 5, 1)] r)).engState 2 5 = .fault) ∧
    (let r := { EngineRec.reset with osr := 5, osrCount := 8, tx := [6, 7] }
     ((run (.enginePull 2 5) (engWith 0x50004000#32 [] r)).eng 2 5).osr = 6#32 ∧
     (run (.enginePull 2 5) (engWith 0x50004000#32 [] { r with tx := [] })).stallReason 2 5 = 2 ∧
     ((run (.enginePull 2 5) ((engWith 0x50000000#32 [] { r with tx := [] }).wr (Reg.BRD_EX 2 5) 9#32)).eng 2 5).osr = 9#32 ∧
     ((run (.enginePull 2 5) (engWith 0x50008000#32 [(Fld.BRD_ESHIFT_FILLTH 2 5, 9)] r)).eng 2 5).osr = 5#32 ∧
     (run (.enginePull 2 5) (engWith 0x50000000#32 [(Fld.BRD_ESHIFT_JOIN 2 5, 2)] r)).engState 2 5 = .fault) ∧
    ((run (.engineIrq 2 5) (engHub .run 0x80000003#32 [])).rd (Reg.BRD_FLAGS 2) = 8#32 ∧
     (run (.engineIrq 2 5) (engHub .run 0x80008003#32 [(Fld.BRD_FLAGS_FLAG 2, 9)])).rd (Reg.BRD_FLAGS 2) = 1#32 ∧
     (let t := run (.engineIrq 2 5) (engHub .run 0x80004003#32 [])
      t.stallReason 2 5 = 4 ∧ (t.eng 2 5).irqWait = true ∧ t.engDue 2 5 = false) ∧
     (run (.engineIrq 2 5) (engWith 0x80004003#32 [] { EngineRec.reset with irqWait := true })).engPc 2 5 = 1 ∧
     (run (.engineIrq 2 5) (engWith 0x80004003#32 [(Fld.BRD_FLAGS_FLAG 2, 8)] { EngineRec.reset with irqWait := true })).engPc 2 5 = 0) ∧
    (let r := { EngineRec.reset with rise := (9, true) }
     ((run (.engineStmp 2 5) (engWith 0x9000A000#32 [] r)).eng 2 5).sr = 9 ∧
     ((run (.engineStmp 2 5) (engWith 0x9000A000#32 [] r)).eng 2 5).rise = (9, false) ∧
     (run (.engineStmp 2 5) (engWith 0x90008000#32 [] r)).stallReason 2 5 = 5 ∧
     ((run (.engineStmp 2 5) (engWith 0x90004000#32 [] r)).eng 2 5).rx.length = 3) ∧
    (let h (n : Nat) (b : List Word) := engWith 0xA0000000#32 [(Fld.BRD_ESHIFT_DRAIN 2 5, n), (Fld.BRD_ESTR_PORT 2 5, 10)]
        { EngineRec.reset with buffer := b }
     (run (.engineEmit 2 5) (h 0 [])).engState 2 5 = .fault ∧ (run (.engineEmit 2 5) (h 1 [])).engPc 2 5 = 1 ∧
     (run (.engineEmit 2 5) (h 1 [7#32])).sw.offered.map (fun o => o.frame.payload) = [[0, 0, 0, 7]] ∧
     (let g := run (.engineEmit 2 5) (h 1 [7#32])
      let g2 := (g.setEng 2 5 { EngineRec.reset with buffer := [8#32] }).set (Fld.BRD_EPC_PC 2 5) 0
      let g3 := run (.engineEmit 2 5) g2
      let g4 := (g3.setEng 2 5 { EngineRec.reset with buffer := [9#32] }).set (Fld.BRD_EPC_PC 2 5) 0
      2 ≤ g4.closedBuffers 2 5 ∧ (run (.engineEmit 2 5) g4).stallReason 2 5 = 6)) := by decide +kernel

/-- A frame of a wire message for cluster 2. -/
def wireMsg (i : Nat) (level : Bool) : Frame := ⟨{ pingHdr 2 with typ := 10, arg := BitVec.ofNat 48 (i + if level then 0x10000 else 0) }, [], 0⟩

/-- An engine hub with a frame taken at the port of cluster 2. -/
def engTaken (st : UState) (f : Frame) : Hub := { engHub st 0#32 [] with acts := [⟨13, 1, f, false, 0, false, false, 0⟩] }

theorem wit_ClusterCommands :
    (let h := engHub .idle 0#32 []
     h.accepts (.cluster 2) ploia 2#8 = true ∧ h.engReady 2 5 = true ∧ h.engReady 2 4 = false ∧
     (run (.clusterSync ploia 2 2#8 0x20#8) h).engState 2 5 = .run ∧ (run (.clusterSync ploia 2 2#8 0x30#8) h).is (Fld.BRD_EVT_STARTMISS 2) = true ∧
     (run (.clusterSync ploia 2 2#8 0x20#8) h).is (Fld.BRD_EVT_STARTMISS 2) = false ∧
     (run (.clusterArm ploia 2 2#8 0x20#8) h).cmdWord (.cluster 2) = cmdStatWord 2 2 false .badcmd ∧
     (let g := h.wr (Reg.BRD_TMS_SEC 2) 5#32
      h.now + nsec 2000 ≤ g.tmsT 2 ∧ (run (.clusterArm ploia 2 2#8 0x20#8) g).engArmed 2 5 = true ∧
      (let a := run (.clusterArm ploia 2 2#8 0x20#8) g
       let x := (a.unit (.cluster 2)).epoch
       a.accepts (.cluster 2) ploia x = true ∧ (run (.clusterDisarm ploia 2 x 0x20#8) a).engArmed 2 5 = false ∧
       (run (.engineTimedStart 2) a).engArmed 2 5 = true ∧
       (let b : Hub := { a with armedAt := [] }
        b.armT 2 ≤ b.now ∧ (run (.engineTimedStart 2) b).engState 2 5 = .run ∧ (run (.engineTimedStart 2) b).is (Fld.BRD_EVT_TMSUNLOCK 2) = true)))) ∧
    (run (.clusterStop ploia 2 2#8 0x20#8) (engHub .run 0#32 [])).engState 2 5 = .idle ∧
    ((run (.wireFlagRx 2) (engTaken .idle (wireMsg 15 true))).rd (Reg.BRD_FLAGS 2) = 0x800000#32 ∧
     (run (.wireFlagRx 2) (engTaken .idle (wireMsg 16 true))).rd (Reg.BRD_CNT_WIREBAD 2) = 1#32 ∧
     (run (.wireStartRx 2) (engTaken .idle (wireMsg 0x120 true))).engState 2 5 = .run ∧
     (run (.wireStopRx 2) (engTaken .run (wireMsg 0x220 true))).engState 2 5 = .idle) ∧
    (let t := run (.clusterPllLoss 2) (engHub .run 0#32 [])
     (t.unit (.cluster 2)).state = .fault ∧ t.engState 2 5 = .off ∧ (run (.clusterPllRelock 2) t).engState 2 5 = .idle) := by decide +kernel

theorem wit_EdgesAndHostQueues :
    (let h := flds [(Fld.BRD_EDGECFG_SEL 2 4, 1), (Fld.BRD_LAT_IN_LAT 2, 2000), (Fld.BRD_EDGESTR_PORT 2, 10), (Fld.BRD_EDGEFLT_GAP 2, 3)]
       (engHub .run 0#32 [])
     h.edgeSelected 2 4 true = false ∨ h.edgeSelected 2 4 false = false) ∧
    (let h := flds [(Fld.BRD_EDGECFG_SEL 2 4, 3), (Fld.BRD_LAT_IN_LAT 2, 2000), (Fld.BRD_EDGESTR_PORT 2, 10), (Fld.BRD_EDGEFLT_GAP 2, 3),
         (Fld.BRD_EDGEFLT_FILT 2, 5)] { engHub .run 0#32 [] with time := { TimeBase.reset with ns := 200 } }
     (run (.lineEdge 2 4 true ⟨0x100000, 0⟩) sealedHub).rd (Reg.BRD_LINEIN 2) = 0x10#32 ∧
     h.sampled ⟨0xC60000, 0⟩ = 0xC60000 ∧ h.now < h.sampled ⟨0xC60000, 0⟩ + nsec 5 ∧
     ((run (.lineEdge 2 4 true ⟨0xC60000, 0⟩) h).eng 2 5).rise = (h.eng 2 5).rise ∧
     (run (.lineEdge 2 4 true ⟨0xC60000, 0⟩) h).rd (Reg.BRD_LINEIN 2) = 0x10#32 ∧
     h.sampled ⟨0x100000, 0⟩ + nsec 5 ≤ h.now ∧
     (let t := run (.lineEdge 2 4 true ⟨0x100000, 0⟩) h
      (t.eng 2 5).rise = (0xE0000, true) ∧ t.sw.offered.length = 1 ∧ t.armed (.edgeGap 68) = true ∧
      (let u := run (.lineEdge 2 4 false ⟨0x200000, 0⟩) t
       (u.line 2 4).latest = some (0x1E0000, false) ∧ (u.line 2 4).missed = 1 ∧ u.rd (Reg.BRD_CNT_EDGESUP 2) = 1#32 ∧
       (let v : Hub := { u with timers := [(.edgeGap 68, 0)] }
        v.due (.edgeGap 68) = true ∧ (run (.edgeGapEnd 2 4) v).sw.offered.length = 2) ∧
       (let v : Hub := { t with timers := [(.edgeGap 68, 0)] }
        (v.line 2 4).latest = none ∧ (run (.edgeGapEnd 2 4) v).sw.offered.length = 1)))) ∧
    (let f : Frame := ⟨{ pingHdr 0 with typ := 4, arg := BitVec.ofNat 48 (5 * 2 ^ 36 + 1) }, [0, 0, 1, 2], 0⟩
     ((run (.streamFill 2) (flds [(Fld.BRD_ESHIFT_FEED 2 5, 1)] (engTaken .run f))).eng 2 5).tx = [0x102#32] ∧
     (run (.streamFill 2) (engTaken .run f)).rd (Reg.BRD_CNT_FILLLOST 2 5) = 1#32) ∧
    (let h := engHub .run 0#32 []
     h.allows ploia (Reg.BRD_TXQ 2 5) = true ∧ ((run (.txqPush ploia 2 5 9#32) h).eng 2 5).tx = [9#32] ∧
     (run (.txqPush ploia 2 5 9#32) (flds [(Fld.BRD_ESHIFT_FEED 2 5, 1)] h)).is ⟨Reg.BRD_EVT 2, 21, 1⟩ = true ∧
     (let g := h.setEng 2 5 { EngineRec.reset with rx := [4, 5] }
      g.allows ploia (Reg.BRD_RXQ 2 5) = true ∧ (run (.rxqPop ploia 2 5) g).out = [.reply ploia (Reg.BRD_RXQ 2 5) 4#32] ∧
      ((run (.rxqPop ploia 2 5) g).eng 2 5).rx = [5#32] ∧ (run (.rxqPop ploia 2 5) h).out = [.reply ploia (Reg.BRD_RXQ 2 5) 0#32])) := by
  decide +kernel

end Sys2Proof.Tests

namespace Sys2Proof.Tests

set_option Elab.async false

open Machine

/-- A sealed hub whose sensed group 2 stands in a state, its lines 0 and 3 in use with a debounce of 5 us. -/
def senHub (st : UState) (l : List (Field × Nat)) : Hub :=
  (flds ([(Fld.SEN_GCFG_EN 2, 1), (Fld.SEN_GCFG_K 2, 128), (Fld.SEN_GCFG_SLEW 2, 4), (Fld.SEN_GBND_TMIN 2, 10), (Fld.SEN_GBND_TMAX 2, 900),
    (Fld.SEN_LCFG_EN 2 0, 1), (Fld.SEN_LCFG_EN 2 3, 1), (Fld.SEN_LCFG_DEBOUNCE 2 3, 5), (Fld.SEN_LCFG_EDGE 2 3, 3),
    (Fld.SEN_CHATCFG_CHATMAX, 3), (Fld.SEN_CHATCFG_CHATREL, 1), (Fld.SEN_GSTR_PORT 2, 10)] ++ l) sealedHub).setUnit (grpUnit 2) st 0

theorem wit_SensedThreshold :
    (let h := (senHub .idle []).setGrp 2 { GroupRec.reset with samples := List.replicate 15 100 }
     h.grpState 2 = .idle ∧ h.ready (.siref 2) = true ∧ adcCode 600000 = 2048 ∧
     (run (.sirefSample 2 600000) h).get (Fld.SEN_GREF_V 2) = 221) ∧
    (let h := late_ (.threshold 2) ((senHub .run [(Fld.SEN_GREF_T 2, 100)]).setGrp 2 { GroupRec.reset with samples := List.replicate 16 2048 })
     h.grpState 2 = .run ∧ h.due (.threshold 2) = true ∧ h.senTarget 2 = 256 ∧ (run (.thresholdUpdate 2) h).get (Fld.SEN_GREF_T 2) = 104 ∧
     (let g := h.set (Fld.SEN_GBND_TMAX 2) 103
      (run (.thresholdUpdate 2) g).is (Fld.SEN_GREF_SAT 2) = true ∧ (run (.thresholdUpdate 2) g).faults Flt.SENSAT 24 = 1)) ∧
    (let h := late_ (.sensat 2) ((senHub .run []).setGrp 2 { GroupRec.reset with satHeld := true })
     h.due (.sensat 2) = true ∧ ((run (.sensatRelease 2) h).grp 2).satHeld = false) ∧
    (let h := late_ (.senFirst 2) ((senHub .idle []).setGrp 2 { GroupRec.reset with samples := List.replicate 16 2048 })
     h.due (.senFirst 2) = true ∧ (run (.senFirstThreshold 2) h).grpState 2 = .run ∧ (run (.senFirstThreshold 2) h).get (Fld.SEN_GREF_T 2) = 256 ∧
     ((run (.senFirstThreshold 2) h).grp 2).initLeft = [16, 19]) ∧
    ((senHub .off []).accepts (.sensed 2) ploia 2#8 = true ∧ (run (.senEnable ploia 2 2#8) (senHub .off [])).grpState 2 = .idle ∧
     (run (.senEnable ploia 2 2#8) (senHub .off [(Fld.SEN_GCFG_EN 2, 0)])).cmdWord (.sensed 2) = cmdStatWord 2 2 false .denied ∧
     (run (.senDisable ploia 2 2#8) (senHub .run [(senLevel 19, 1)])).grpState 2 = .off) := by decide +kernel

/-- A group hub in RUN, open for release, whose line 19 has a record. -/
def lineHub (l : List (Field × Nat)) (r : SenseRec) : Hub := (senHub .run l).setSns 19 r

theorem wit_SensedLines :
    (let r := { SenseRec.reset with firstEnd := some 0 }
     (lineHub [] r).grpState 2 = .run ∧ (lineHub [] r).senEn 19 = true ∧ (lineHub [] r).senDebounce 19 = 5 ∧
     (run (.comparatorTransition 19 true ⟨0x50000, 0⟩) (lineHub [] r)).armed (.debounce 19) = true ∧
     ((run (.comparatorTransition 19 true ⟨0x50000, 0⟩) (lineHub [] r)).sns 19).since = 0x50000 ∧
     (let h := late_ (.debounce 19) (lineHub [] { r with comp := true })
      (run (.comparatorTransition 19 false at0) h).armed (.debounce 19) = false)) ∧
    (let r := { SenseRec.reset with comp := true, since := 7 }
     let h := late_ (.debounce 19) (lineHub [] r)
     h.due (.debounce 19) = true ∧ h.is Fld.TIME_STATUS_OPEN = false ∧ (run (.debounceEnd 19) h).is (senLevel 19) = true ∧
     ((run (.debounceEnd 19) h).sns 19).firstEnd = some (7 + nsec 5000)) ∧
    (let r := { SenseRec.reset with comp := true, since := 7, firstEnd := some 0, changes := 1 }
     let h := late_ (.debounce 19) (lineHub [] r)
     (run (.debounceEnd 19) h).sns 19 = { r with lastStart := 7, changes := 2, missed := 1 } ∧
     (let g := late_ (.debounce 19) (lineHub [(Fld.TIME_STATUS_OPEN, 1)] r)
      (run (.debounceEnd 19) g).rd Reg.SEN_CNT_EVT = 1#32 ∧ (run (.debounceEnd 19) g).sw.offered.map (fun o => o.inp) = [20]) ∧
     (let g := late_ (.debounce 19) (lineHub [] { r with changes := 2 })
      (run (.debounceEnd 19) g).is (senChat 19) = true ∧ (run (.debounceEnd 19) g).faults Flt.SENCHAT 24 = 1) ∧
     (let g := late_ (.debounce 19) (lineHub [(senLevel 19, 1)] r)
      (run (.debounceEnd 19) g).sns 19 = r)) ∧
    (let h := late_ (.chatter 2) (lineHub [(senChat 19, 1)] { SenseRec.reset with changes := 1, whole := true })
     h.due (.chatter 2) = true ∧ (run (.chatterWindowEnd 2) h).is (senChat 19) = false) := by decide +kernel

/-- A sealed hub whose guarded channel 4 stands in a state, both islands' copies alike: ARM follows line 6 of stream 0x21, FIRE line 7. -/
def grdHub (st : UState) (l : List (Field × Nat)) : Hub :=
  let e : List (Nat × Word) := [(Reg.GRD_CFG 4, 0x5#32), (Reg.GRD_ARMSRC 4, 0x00300021#32), (Reg.GRD_ARMLINE 4, 0x80000006#32),
    (Reg.GRD_FIRESRC 4, 0x00300021#32), (Reg.GRD_FIRELINE 4, 0x80000007#32), (Reg.GRD_TIME 4, 0x00140005#32)]
  let h := e.foldl (fun (g : Hub) x => (g.wr x.1 x.2).wrB x.1 x.2) sealedHub
  (flds l h).setUnit (grdUnit 4) st 0

/-- An event of line k of stream 0x21 of hub 3, taken at EV. -/
def grdEvent (k : Nat) (level : Bool) : Act :=
  ⟨20, 1, ⟨{ pingHdr 1 with typ := 3, cls := 7, stream := 0x21, arg := BitVec.ofNat 48 (k * 2 ^ 32 + if level then 1 else 0) }, [], 0⟩, false, 0, false, false, 0⟩

theorem wit_GuardedChannels :
    (let h : Hub := { grdHub .run [] with acts := [grdEvent 6 true] }
     h.evNext false = some (grdEvent 6 true) ∧ h.grdState 4 = .run ∧ h.armIs 4 (grdEvent 6 true).frame.hdr = true ∧
     h.get (Fld.GRD_CFG_ARMMODE 4) = 2 ∧ (run (.grdLevelApply false) h).is (Fld.GRD_STAT_ARM 4) = true) ∧
    (let h : Hub := { grdHub .run [] with acts := [grdEvent 7 true] }
     h.evNext true = some (grdEvent 7 true) ∧ h.fireIs 4 (grdEvent 7 true).frame.hdr = true ∧ h.grdHeld 4 = false ∧
     (run (.grdLevelApply true) h).is (Fld.GRD_STAT_FIRE 4) = true ∧ Assoc.get (run (.grdLevelApply true) h).timers (.maxon 4) = some (ms 20) ∧
     Assoc.get (run (.grdLevelApply true) h).timers (.minon 4) = some (ms 5)) ∧
    (let h : Hub := { grdHub .run [(Fld.GRD_STAT_FIRE 4, 1)] with acts := [grdEvent 7 false] }
     (run (.grdLevelApply true) h).is (Fld.GRD_STAT_FIRE 4) = false ∧
     (let g : Hub := { h with timers := [(.minon 4, 5)] }
      (run (.grdLevelApply true) g).is (Fld.GRD_STAT_FIRE 4) = true ∧ ((run (.grdLevelApply true) g).grd 4).lowWaits = true)) ∧
    (let h := late_ (.minon 4) ((grdHub .run [(Fld.GRD_STAT_FIRE 4, 1)]).setGrd 4 { GuardRec.reset with lowWaits := true })
     h.due (.minon 4) = true ∧ (run (.minonEnd 4) h).is (Fld.GRD_STAT_FIRE 4) = false) ∧
    (let h := late_ (.maxon 4) (grdHub .run [(Fld.GRD_STAT_FIRE 4, 1)])
     h.due (.maxon 4) = true ∧ (run (.maxonExpiry 4) h).grdHeld 4 = true ∧ (run (.maxonExpiry 4) h).faults Flt.GRDMAXON 25 = 1) ∧
    (let h := grdHub .run [(Fld.GRD_STAT_FIRE 4, 1)]
     h.accepts (.guarded 4) ploia 2#8 = true ∧ h.grdTracks 4 = true ∧ (run (.grdDisable ploia 4 2#8) h).grdState 4 = .off) ∧
    (let h := grdHub .off []
     h.accepts (.guarded 4) ploia 2#8 = true ∧ h.grdAgree 4 = true ∧ (run (.grdEnable ploia 4 2#8) h).grdState 4 = .run ∧
     (let g := h.wr (Reg.GRD_TIME 4) 1#32
      g.grdAgree 4 = false ∧ (run (.grdEnable ploia 4 2#8) g).faults Flt.GRDCOPY 25 = 1)) ∧
    (let h := grdHub .fault []
     h.accepts (.guarded 4) ploia 2#8 = true ∧ (run (.grdClear ploia 4 2#8) h).grdState 4 = .run ∧
     (run (.grdClear ploia 4 2#8) (h.wr (Reg.GRD_TIME 4) 1#32)).grdState 4 = .fault) := by decide +kernel

theorem wit_GuardedReadback :
    (let h := grdHub .run [(Fld.GRD_RB_RBSETTLE 4, 100)]
     (run (.rbSenseChange 4 true) h).is (Fld.GRD_STAT_SENSE 4) = true ∧ Assoc.get (run (.rbSenseChange 4 true) h).timers (.rbSettle 4) = some (us 100) ∧
     (run (.rbSenseChange 4 false) h).armed (.rbSettle 4) = false) ∧
    (let h := late_ (.rbSettle 4) (grdHub .run [(Fld.GRD_STAT_SENSE 4, 1)])
     h.due (.rbSettle 4) = true ∧ h.grdExpected 4 = false ∧ (run (.rbMismatch 4) h).faults Flt.GRDRB 25 = 1 ∧
     (let g := h.wrB (Reg.GRD_CFG 4) 0x115#32
      g.getB (Fld.GRD_CFG_PAIRWIRE 4) = 1 ∧ (run (.rbMismatch 4) g).faults Flt.PAIRDIFF 25 = 1) ∧
     (let g := h.wrB (Reg.GRD_CFG 4) 0x105#32
      g.getB (Fld.GRD_CFG_RBACT 4) = 1 ∧ (run (.rbMismatch 4) g).grdState 4 = .fault ∧ (run (.rbMismatch 4) g).grdCause 4 = 2)) := by decide +kernel

end Sys2Proof.Tests

namespace Sys2Proof.Tests

set_option Elab.async false

open Machine

/-- A sealed hub whose bus 3 has a record, a reset bit timing of 80 cycles and FD. -/
def busHub (r : BusRec) (l : List (Field × Nat)) : Hub :=
  ((flds ([(Fld.PB_CFG_EN 3, 1), (Fld.PB_CFG_FD 3, 1), (Fld.PB_CFG_ALONECNT 3, 2)] ++ l) sealedHub).setBus 3 r).busWord 3

/-- A classic frame of two octets with identifier 0x123. -/
def canFrame : BusFrame := ⟨false, false, false, false, false, 2, 0x123, [7, 8]⟩

/-- An entry of a spool with that frame. -/
def canEntry : BusEntry := ⟨4, canFrame, false, some 0, 0⟩

/-- A controller in RUN with that entry at its head and one behind it. -/
def canRun : BusRec := { BusRec.reset with st := .run, spool := [canEntry, { canEntry with id := 5 }], nextId := 6 }

/-- A hub with a bus record and a message to PB with an index. -/
def busWireHub (r : BusRec) (i : Nat) : Hub := { busHub r [] with acts := [⟨19, 1, wireMsg i true, false, 0, false, false, 0⟩] }

theorem wit_BusStates :
    (let h := busHub canRun []
     let x := (h.unit (.bus 3)).epoch
     h.accepts (.bus 3) ploia x = true ∧ ((run (.pbDisable ploia 3 x) h).bus 3).st = .off ∧ ((run (.pbSleep ploia 3 x) h).bus 3).sleepWaits = true ∧
     ((run (.pbAbort ploia 3 x) h).bus 3).spool.length = 1 ∧ ((run (.pbFlush ploia 3 x) h).bus 3).spool.length = 2 ∧
     (let g : Hub := { h with clock := 5 }
      ((run (.pbFlush ploia 3 x) g).bus 3).spool = [] ∧ (run (.pbFlush ploia 3 x) g).rd (Reg.PB_CNT_ABORT 3) = 2#32)) ∧
    (let h : Hub := { busHub { canRun with sending := true } [] with clock := 5 }
     let x := (h.unit (.bus 3)).epoch
     ((run (.pbAbort ploia 3 x) h).bus 3).abortWaits = true ∧ ((run (.pbFlush ploia 3 x) h).bus 3).spool.length = 1 ∧
     (let g := busHub { canRun with sending := true, abortWaits := true } []
      ((run (.pbDisable ploia 3 x) g).bus 3).spool.length = 1 ∧ (run (.pbDisable ploia 3 x) g).rd (Reg.PB_CNT_ABORT 3) = 1#32)) ∧
    (let h := busHub BusRec.reset []
     let x := (h.unit (.bus 3)).epoch
     h.accepts (.bus 3) ploia x = true ∧ h.busValid 3 = true ∧ ((run (.pbEnable ploia 3 x) h).bus 3).st = .integrate ∧
     (run (.pbSleep ploia 3 x) h).cmdWord (.bus 3) = cmdStatWord x 4 false .badcmd ∧
     (let g := h.set (Fld.PB_NBT_NTSEG1 3) 0
      g.busValid 3 = false ∧ (run (.pbEnable ploia 3 x) g).faults Flt.PBCFG 23 = 1) ∧
     (run (.pbEnable ploia 3 x) (h.set (Fld.PB_CFG_EN 3) 0)).cmdWord (.bus 3) = cmdStatWord x 2 false .denied) ∧
    (let h := busHub { canRun with st := .busoff } []
     let x := (h.unit (.bus 3)).epoch
     h.accepts (.bus 3) ploia x = true ∧ ((run (.pbRecover ploia 3 x) h).bus 3).st = .recover) ∧
    (let h := busHub { canRun with st := .sleep } []
     let x := (h.unit (.bus 3)).epoch
     h.accepts (.bus 3) ploia x = true ∧ ((run (.pbWake ploia 3 x) h).bus 3).st = .integrate ∧
     h.is (Fld.PB_WAKECFG_WAKEMODE 3) = false ∧ us (max 1 (h.get (Fld.PB_WAKECFG_WAKEFILT 3))) ≤ ms 1 ∧ 0 < us (max 1 (h.get (Fld.PB_WAKECFG_WAKEFILT 3))) ∧
     (run (.pbWakeEdge ⟨3, (ms 1)⟩) h).rd (Reg.PB_CNT_WAKELOST 3) = 1#32 ∧ run (.pbWakeEdge ⟨3, 0⟩) h = h) ∧
    ((run (.pbIntegrateDone 3) (busHub { canRun with st := .integrate } [])).bus 3).st = .run ∧
    (run (.pbRecoveryDone 3) (busHub { canRun with st := .recover } [])).is (Fld.PB_EVT_RECOVERED 3) = true ∧
    ((run (.pbSleepEnter 3) (busHub { canRun with sleepWaits := true } [])).bus 3).st = .sleep ∧
    (let h := busHub canRun [(Fld.PB_ERRCNT_REC 3, 120)]
     h.busMonitors 3 = false ∧ (run (.pbRxError 3 2 1 ⟨true, 0⟩) h).get (Fld.PB_ERRCNT_REC 3) = 129 ∧
     (run (.pbRxError 3 2 1 ⟨false, 1⟩) h).faults Flt.PBPASSIVE 23 = 1) ∧
    (((run (.pbProtocolException 3) (busHub canRun [])).bus 3).st = .integrate ∧
     (run (.pbProtocolException 3) (busHub canRun [(Fld.PB_CFG_PXHD 3, 0)])).get (Fld.PB_LASTERR_KIND 3) = 4) ∧
    (((run .wirePbWakeRx (busWireHub { canRun with st := .sleep } 0x103)).bus 3).st = .integrate ∧
     (run .wirePbWakeRx (busWireHub canRun 0x403)).rd (Reg.PB_CNT_WIREBAD 0) = 1#32 ∧
     ((run .wirePbSleepRx (busWireHub canRun 0x203)).bus 3).sleepWaits = true ∧
     ((run .wirePbAbortRx (busWireHub { canRun with sending := true } 0x303)).bus 3).abortWaits = true) ∧
    (let h : Hub := { busHub { canRun with fencedAt := some 0 } [] with clock := ms 100 }
     ((run (.pbFolageExpiry 3) h).bus 3).spool.length = 1) := by decide +kernel

/-- A bus tunnel to bus 3 with the frame above. -/
def canTunnel (dlc : Byte) : Frame :=
  ⟨{ pingHdr 10 with typ := 9, cls := 7 }, [0, 0, dlc, 2, 0, 0, 1, 0x23] ++ List.replicate 10 0 ++ [3, 0, 0, 0, 0, 0, 7, 8], 0⟩

theorem wit_BusTraffic :
    (let h (r : BusRec) (d : Byte) : Hub := { busHub r [] with acts := [⟨19, 1, canTunnel d, false, 0, false, false, 0⟩] }
     tunnelBusFrame (canTunnel 2) = canFrame ∧ (h canRun 3).busBad 3 (tunnelBusFrame (canTunnel 3)) = true ∧
     (run (.pbTunnelEntry true) (h canRun 3)).rd (Reg.PB_CNT_TUNREJ 3) = 1#32 ∧
     (let w : Frame := { canTunnel 2 with payload := [0, 0, 2, 2, 0x20, 0, 1, 0x23] ++ (canTunnel 2).payload.drop 8 }
      tunnelWide w = true ∧ (run (.pbTunnelEntry true) { h canRun 2 with acts := [⟨19, 1, w, false, 0, false, false, 0⟩] }).rd (Reg.PB_CNT_TUNREJ 3) = 1#32) ∧
     ((run (.pbTunnelEntry true) (h canRun 2)).bus 3).spool.length = 3 ∧ (run (.pbTunnelEntry true) (h canRun 2)).rd (Reg.PB_CNT_TTLATE 3) = 1#32 ∧
     ((run (.pbTunnelEntry true) (h { canRun with spool := [] } 2)).bus 3).spool = [⟨6, canFrame, false, some 0, 0⟩] ∧
     (run (.pbTunnelEntry true) (h { canRun with spool := List.replicate 32 canEntry } 2)).faults Flt.PBSPOOL 23 = 1) ∧
    (let h (r : BusRec) (d : Nat) : Hub := (busHub r [(Fld.PB_TXCTL_DLC 3, d), (Fld.PB_TXID_ID 3, 0x123)]).wr (Reg.PB_TXDATA 3 0) 0x0807#32
     (h canRun 2).allows ploia (Reg.PB_TXGO 3) = true ∧ (h canRun 2).busStage 3 = canFrame ∧
     (run (.pbTxgoNow ploia 3) (h canRun 2)).get (Fld.PB_TXSTAT_RESULT 3) = 1 ∧
     (run (.pbTxgoNow ploia 3) ((h canRun 2).set (Fld.PB_TXID_ID 3) 2048)).get (Fld.PB_TXSTAT_RESULT 3) = 3 ∧
     (run (.pbTxgoNow ploia 3) (h { canRun with spool := List.replicate 32 canEntry } 2)).get (Fld.PB_TXSTAT_RESULT 3) = 2 ∧
     (let g := h { canRun with timed := [(0, { canEntry with frame := { canFrame with data := [1, 2] } })] } 2
      ((run (.pbTxgoNow ploia 3) g).bus 3).spool.map (fun x => x.frame.data) = [[7, 8], [7, 8], [1, 2], [7, 8]]) ∧
     (run (.pbTxgoTimed ploia 3) (h canRun 2)).get (Fld.PB_TXSTAT_RESULT 3) = 4 ∧
     (let g := (h { canRun with timed := [(Stamp.mk 4 0 0, canEntry), (Stamp.mk 9 0 0, canEntry)] } 2).wr (Reg.PB_TXAT_SEC 3) 5#32
      (run (.pbTxgoTimed ploia 3) g).get (Fld.PB_TXSTAT_RESULT 3) = 1 ∧
      ((run (.pbTxgoTimed ploia 3) g).bus 3).timed.map (fun x => Stamp.sec x.1) = [4, 5, 9]) ∧
     (let g := (h { canRun with timed := List.replicate 8 (0, canEntry) } 2).wr (Reg.PB_TXAT_SEC 3) 5#32
      (run (.pbTxgoTimed ploia 3) g).get (Fld.PB_TXSTAT_RESULT 3) = 5)) ∧
    ((run (.pbTimedEntry 3 true) (busHub { canRun with spool := [], timed := [(0, canEntry)] } [])).bus 3).spool = [⟨6, canFrame, false, some 0, 0⟩] ∧
    (let h := busHub { canRun with spool := [{ canEntry with at_ := some 0x900000 }] } [(Fld.PB_XCVR_TX_DLY 3, 64)]
     h.busFenced 3 = false ∧ ((run (.pbTxStart 3) h).bus 3).sending = true ∧ (run (.pbTxStart 3) h).out = [.busStart 3 canFrame (some 0x500000)] ∧
     (let g : Hub := { h with clock := 12501 }
      (run (.pbTxStart 3) g).out = [.busStart 3 canFrame none] ∧ (run (.pbTxStart 3) g).rd (Reg.PB_CNT_TTLATE 3) = 1#32) ∧
     (let f : BusFrame := ⟨true, true, true, false, false, 2, 0x123, [7, 8]⟩
      let g := busHub { canRun with spool := [⟨4, f, false, none, 0⟩] } [(Fld.PB_ERRCNT_ESTATE 3, 1)]
      (run (.pbTxStart 3) g).out = [.busStart 3 { f with esi := true } none])) ∧
    (let h (r : BusRec) (tec : Nat) := busHub { r with sending := true } [(Fld.PB_ERRCNT_TEC 3, tec)]
     (run (.pbTxEnd 3 .sent) (h canRun 9)).get (Fld.PB_ERRCNT_TEC 3) = 8 ∧ (run (.pbTxEnd 3 .sent) (h canRun 9)).rd (Reg.PB_CNT_TXF 3) = 1#32 ∧
     (run (.pbTxEnd 3 .lost) (h canRun 9)).rd (Reg.PB_CNT_TTLATE 3) = 1#32 ∧ ((run (.pbTxEnd 3 .lost) (h canRun 9)).bus 3).spool.length = 2 ∧
     (run (.pbTxEnd 3 .lost) (h { canRun with abortWaits := true } 9)).rd (Reg.PB_CNT_ABORT 3) = 1#32 ∧
     (run (.pbTxEnd 3 .lost) ((h canRun 9).set (Fld.PB_CFG_ONESHOT 3) 1)).rd (Reg.PB_CNT_OSDROP 3) = 1#32 ∧
     (run (.pbTxEnd 3 (.error 1 2 false 0)) (h canRun 9)).get (Fld.PB_ERRCNT_TEC 3) = 17 ∧
     (run (.pbTxEnd 3 (.error 1 2 false 0)) (h canRun 248)).faults Flt.PBBUSOFF 23 = 1 ∧
     ((run (.pbTxEnd 3 (.error 5 2 false 0)) (h canRun 9)).bus 3).alone = 1 ∧
     (let g := (h { canRun with alone := 1 } 9).set (Fld.PB_ERRCNT_ESTATE 3) 1
      (run (.pbTxEnd 3 (.error 5 2 false 0)) g).faults Flt.PBALONE 23 = 1 ∧ (run (.pbTxEnd 3 (.error 5 2 false 0)) g).get (Fld.PB_ERRCNT_TEC 3) = 9 ∧
      ((run (.pbTxEnd 3 (.error 5 2 false 0)) (g.set (Fld.PB_CFG_ALONEDROP 3) 1)).bus 3).spool.length = 1)) ∧
    (let h := busHub canRun [(Fld.PB_ERRCNT_REC 3, 9)]
     h.busFenced 3 = false ∧ (run (.pbFrameRx 3 canFrame false ⟨0x90000, 0⟩ ⟨0x100000, 0⟩) h).get (Fld.PB_ERRCNT_REC 3) = 8 ∧
     h.filterOf 3 canFrame false = none ∧ (run (.pbFrameRx 3 canFrame false ⟨0x90000, 0⟩ ⟨0x100000, 0⟩) h).rd (Reg.PB_CNT_NOFILT 3) = 1#32 ∧
     (let g := flds [(Fld.PB_FLT_ROUTE_EN 3 5, 1), (Fld.PB_FLT_ROUTE_ACTION 3 5, 3)] h
      g.filterOf 3 canFrame false = some 5 ∧
      (run (.pbFrameRx 3 canFrame false ⟨0x90000, 0⟩ ⟨0x100000, 0⟩) g).sw.offered.map (fun x => (x.outs, x.frame.payload.drop 24)) = [([10], [7, 8])] ∧
      (let v := g.set (Fld.PB_FLT_ROUTE_VER 3 5) 3
       (run (.pbFrameRx 3 canFrame false ⟨0x90000, 0⟩ ⟨0x100000, 0⟩) v).sw.offered = [] ∧
       (run (.pbFrameRx 3 canFrame false ⟨0x90000, 0⟩ ⟨0x100000, 0⟩) v).faults Flt.TUNVER 14 = 1)) ∧
     (run (.pbFrameRx 3 canFrame true ⟨0x90000, 0⟩ ⟨0x100000, 0⟩) h).get (Fld.PB_ERRCNT_REC 3) = 9) := by
  decide +kernel

end Sys2Proof.Tests

namespace Sys2Proof.Tests

set_option Elab.async false

open Machine

/-- The crossing from lane 1's island to SW. -/
def rxCrossing : Crossing := ⟨5, 2, .queue, 0⟩

theorem wit_CrossingsAndGroupResets :
    (let h := sealedHub
     h.xOpen rxCrossing = true ∧ (run (.crossingTimeout rxCrossing true) h).get Fld.ISL_XLAST_FROM = 5 ∧
     (run (.crossingTimeout rxCrossing true) h).faults Flt.XSTOP 2 = 1 ∧
     (let g : Hub := { h with xings := [(rxCrossing, .stopped)] }
      g.xOpen rxCrossing = false ∧ g.xStopped rxCrossing = true ∧ (run (.crossingLiveReturn rxCrossing) g).xings = [(rxCrossing, .resync)] ∧
      (run (.crossingTimeout rxCrossing true) g).rd Reg.ISL_CNT_XSTOP = 0#32 ∧ h.xStopped rxCrossing = false)) ∧
    (let h : Hub := { sealedHub.wr Reg.ISL_GRPSTAT 0x10#32 with xings := [(pushCrossing 5, .resync), (rxCrossing, .reset)] }
     Assoc.get h.xings (pushCrossing 5) = some .resync ∧ (h.rd Reg.ISL_GRPSTAT).getLsbD 4 = true ∧
     (run (.crossingResyncDone (pushCrossing 5)) h).rd Reg.ISL_GRPSTAT = 0x10#32 ∧
     (let g : Hub := { h with xings := [(pushCrossing 5, .resync)] }
      (run (.crossingResyncDone (pushCrossing 5)) g).rd Reg.ISL_GRPSTAT = 0#32 ∧
      (run (.crossingResyncDone (pushCrossing 5)) g).is Fld.ISL_EVT_GRPDONE = true) ∧
     Assoc.get h.xings rxCrossing ≠ some .resync) := by decide +kernel

theorem wit_CrossingsAndGroupResets_2 :
    sealedHub.allows ploia Reg.ISL_GRESET = true ∧
    (let t := run (.groupResetOrder ploia 0x5A0A#32) sealedHub
     t.rd Reg.ISL_GRPSTAT = 0x400#32 ∧ t.armed (.groupReset 10) = true ∧ (t.unit (.station 1)).state = .reset ∧ t.xings.length = 7) ∧
    (run (.groupResetOrder ploia 0x5A02#32) sealedHub).is Fld.ISL_EVT_RSTREF = true := by decide +kernel

theorem wit_CrossingsAndGroupResets_3 :
    (let h := late_ (.groupReset 10) sealedHub
     h.due (.groupReset 10) = true ∧ (run (.groupResetRelease 10 0) h).starts = [(10, 0)] ∧
     (run (.groupResetRelease 10 0) h).xings.length = 7 ∧ (pushCrossing 11).touches 10 = true ∧
     Assoc.get (run (.groupResetRelease 10 0) h).xings (pushCrossing 11) = some .resync ∧
     (let g : Hub := { (h.wr Reg.ISL_GRPSTAT 0x400#32).setUnit (.station 1) .reset 0 with timers := [], xings := [(pushCrossing 11, .resync)], starts := [(10, 0)] }
      (run (.crossingResyncDone (pushCrossing 11)) g).starts = [] ∧ (run (.crossingResyncDone (pushCrossing 11)) g).rd Reg.ISL_GRPSTAT = 0#32 ∧
      ((run (.crossingResyncDone (pushCrossing 11)) g).unit (.station 1)).state = .off) ∧
     (let a := Reg.SW_QCFG 0 0
      let g : Hub := { Hub.reset with xings := [(cmdCrossing 2, .resync)], xwaits := [(2, ploia, .write a 5#32)] }
      regIsland a = 2 ∧ (regRow a).isSome = true ∧ ownWrite a = false ∧ g.sealed_ = false ∧ (run (.crossingResyncDone (cmdCrossing 2)) g).xwaits = [] ∧
      (run (.crossingResyncDone (cmdCrossing 2)) g).rd a = 5#32 &&& (rwBits a ||| rwsBits a)) ∧
     ((run (.groupResetRelease 10 0) (late_ (.groupReset 10) Hub.reset)).unit (.station 1)).state = .reset ∧
     h.due (.groupReset 11) = false) := by decide +kernel

end Sys2Proof.Tests

namespace Sys2Proof.Tests

set_option Elab.async false

open Machine

/-- A sheet of a TYPE, version 1.0, with an empty register list. -/
def emptySheet (typ : Nat) : List Byte :=
  leBytes 2 typ ++ [1#8, 0#8] ++ leBytes 4 8 ++ leBytes 4 (crc32c (List.replicate 8 0#8)).toNat ++ List.replicate 12 0#8

/-- The header of a ream of three sheets, format 1.0 of GEN 5 or format 2.0 of GEN 6. -/
def reamHeader (major : Nat) : List Byte :=
  if major = 1 then [0x52#8, 0x45#8, 0x41#8, 0x4D#8, 1#8, 0#8] ++ leBytes 2 32 ++ leBytes 4 304 ++ leBytes 4 5 ++ leBytes 2 3 ++ List.replicate 10 0#8
  else [0x52#8, 0x45#8, 0x41#8, 0x4D#8, 2#8, 0#8] ++ leBytes 2 64 ++ leBytes 4 336 ++ leBytes 4 6 ++ leBytes 2 3 ++ List.replicate 38 0#8

/-- An owner's public key, X then Y (its private key is 0x1234567890ABCDEF * 7^40 modulo the order). -/
def ownerKey : List Byte :=
  beBytes 48 0x54d9b6544968691c8ae38813e3f90bb8c9b959c692810deaba02b7d5f720cd50a74918941982bf086a851883435a30f9 ++
    beBytes 48 0x3b0354f1ae307cd92bd86e03c44184bad991bd9ec7edd49084555c32ac36d6f243e9f3dd0067aed572b94eecf561938f

/-- A whole ream, signed under that key. -/
def reamImage (major : Nat) : List Byte :=
  reamHeader major ++ leBytes 4 (crc32c (reamHeader major)).toNat ++ List.replicate (if major = 1 then 0 else 4) 0#8 ++
    emptySheet 1 ++ emptySheet 5 ++ emptySheet 12 ++ [0x53#8, 0x49#8, 0x47#8, 0x4E#8, 1#8, 0#8, 0#8, 0#8] ++ ownerKey ++
    beBytes 48 0x34dc356349be09e777548fe6de5f5a19732f07ab3937c425e83db67ecb261220f91ab72546cfe9808b2f7fae152e443a ++
    beBytes 48 (if major = 1
      then 0x2670e7bcb1790a7f9cdd37f8b6ddd4efb99a55e4a8239a2c4af75f418c093d5ab1e223c8d9f038d4839e48ae8eef1872
      else 0x0a46469268dbcd134f20f03b1097c3b73395925f9376bb0ba66a99cfb686919095e2a30f243a2338e849bb912901c789)

/-- A slot that holds a length of 64 octets and, where asked, the magic word. -/
def shortSlot (n : Nat) (magic : Bool) : List Host.Cell :=
  (if magic then [(reamSlot n, 0x52#8), (reamSlot n + 1, 0x45#8), (reamSlot n + 2, 0x41#8), (reamSlot n + 3, 0x4D#8)] else []) ++
    [(reamSlot n + 8, 64#8), (reamSlot n + 9, 0#8), (reamSlot n + 10, 0#8), (reamSlot n + 11, 0#8)]

/-- A hub whose Ploia runs, with the ream of format 1.0 in slot 0, its key in the owner fuses, and a header alone in slot 1. -/
def reamHub : Hub :=
  let h := flds [(Fld.SVC_STATUS_PLOIA, 1), (Fld.REAM_CHK0_CODE, 15), (Fld.REAM_STATUS_SLOT, 0)] Hub.reset
  { h with
    flash := { h.flash with mem := (reamImage 1).zipIdx.map (fun p => (reamSlot 0 + p.2, p.1)) ++ shortSlot 1 true }
    keys := { h.keys with fuses := [⟨some 0x1fb9cae16ddf03d8c61bf407e8be85325c32833fd860cbbaba9b283954ccb80abdaf69d1fcf26f059f6327c81adbb86c#384, false⟩] } }

theorem test_reamImage_read : reamHub.slotImage 0 = reamImage 1 := by decide +kernel

theorem test_reamImage_signed : reamHub.reamSigned (reamImage 1) = none := by decide +kernel

theorem test_reamImage_signed2 : reamHub.reamSigned (reamImage 2) = none := by decide +kernel

theorem test_reamImage_forged : reamHub.reamSigned ((reamImage 1).set 60 1#8) = some 7 := by decide +kernel

theorem test_reamImage_valid : (reamHub.slotReam 0).isSome = true := by
  unfold Hub.slotReam Hub.reamCheck Hub.reamParse
  rw [test_reamImage_read, test_reamImage_signed]
  decide +kernel

theorem test_reamImage_valid2 : (match reamHub.reamCheck (reamImage 2) with | .ok _ => true | .error _ => false) = true := by
  unfold Hub.reamCheck Hub.reamParse
  rw [test_reamImage_signed2]
  decide +kernel

/-- A format 1.x ream passes its checks and is not written (Table 00.4, log 151); a format 2.0 one is. -/
theorem test_reamWrite : (let h : Hub := { reamHub.set Fld.CHIP_SEAL_SEALED 1 with flash := Flash.reset }
    (run (.reamWriteRequest ploia (reamImage 1) false) h).get Fld.REAM_WRCHK_CODE = 3 ∧
    (run (.reamWriteRequest ploia (reamImage 2) false) h).flash.write = some (reamImage 2, 1, false)) := by decide +kernel

/-- A hub in chip reset, power good, 10 us after its entry. -/
def heldHub (kind : Nat) : Hub :=
  let h := Hub.reset.set Fld.PWR_SUPSTAT_PGOOD 1
  { h with clock := ms 1, aon := { h.aon with held := true, kind := kind, pinLow := false } }

theorem wit_StartupAndReams :
    ((heldHub 4).releasable = true ∧ (run (.chipResetRelease 3#4 false) (heldHub 4)).aon.held = false ∧
     (run (.chipResetRelease 3#4 false) (heldHub 4)).get Fld.PWR_RSTCAUSE_KIND = 4 ∧
     (run (.chipResetRelease 3#4 false) (heldHub 4)).logTotal 132 = 1 ∧
     (run (.chipResetRelease 15#4 true) (heldHub 2)).is Fld.CHIP_STRAP_SLOTVALID = false ∧
     (run (.chipResetRelease 15#4 true) (heldHub 2)).faults Flt.TESTSTRAP 3 = 1 ∧
     (run (.chipResetRelease 15#4 true) (heldHub 2)).faults Flt.RAILRST 0 = 1 ∧
     (run (.chipResetRelease 3#4 false) (heldHub 6)).is Fld.LOG_STATUS_UNCLEAN = true ∧
     (run (.chipResetRelease 3#4 true) { heldHub 0 with flash := { Flash.reset with intact := true } }).is Fld.FLT_STATUS_TESTMODE = true ∧
     Hub.reset.releasable = false) := by decide +kernel

theorem wit_StartupAndReams_5 :
    (let h : Hub := { flds [(Fld.SVC_STATUS_PLOIA, 1), (Fld.REAM_CHK0_CODE, 15)] Hub.reset with
       flash := { Flash.reset with mem := shortSlot 0 false ++ shortSlot 1 false } }
     h.ploia = true ∧ h.aon.held = false ∧ h.sealed_ = false ∧ (h.slotReam 0).isNone = true ∧ (h.slotReam 1).isNone = true ∧
     (run .reamSlotCheck h).is Fld.REAM_STATUS_BYPASS = true ∧ (run .reamSlotCheck h).lstate 2 = .train ∧
     (run .reamSlotCheck Hub.reset).is Fld.REAM_STATUS_BYPASS = false) := by decide +kernel

theorem wit_StartupAndReams_2 :
    reamHub.ploia = true ∧ reamHub.aon.held = false ∧ reamHub.sealed_ = false ∧ reamHub.get Fld.REAM_CHK0_CODE = 15 ∧
    reamHub.get Fld.REAM_STATUS_SLOT ≤ 1 ∧ reamHub.aon.grave = none ∧ (reamHub.slotReam 1).isNone = true ∧
    (match reamHub.reamCheck (reamHub.slotImage 1) with | .error e => e.code == 2 | .ok _ => false) = true := by decide +kernel

theorem wit_StartupAndReams_3 :
    (let h := flds [(Fld.SVC_STATUS_PLOIA, 1)] sealedHub
     h.ploia = true ∧ h.flash.write = none ∧ (run (.reamWriteRequest hostNs [] false) h).faults Flt.WORLD 3 = 1 ∧
     (run (.reamWriteRequest ploia [] false) h).get Fld.REAM_WRCHK_CODE = 1 ∧
     (run (.reamWriteRequest ploia [7] false) (h.set Fld.PWR_SUPSTAT_DEFER 1)).flash.waits.length = 1 ∧
     (let g : Hub := { h with flash := { h.flash with write := some ([7, 8], 1, false) } }
      (run (.reamWriteDone true) g).flashByte (reamSlot 1 + 1) = 8#8 ∧ (run (.reamWriteDone true) g).is Fld.REAM_EVT_STAGED = true ∧
      (run (.reamWriteDone false) g).get Fld.REAM_WRCHK_CODE = 14)) := by decide +kernel

theorem wit_StartupAndReams_6 :
    (let h := flds [(Fld.SVC_STATUS_PLOIA, 1), (Fld.REAM_STATUS_BYPASS, 1)] Hub.reset
     h.aon.order = none ∧ (run (.recoveryResetRequest hostNs) h).aon.order = some 4 ∧ (run (.recoveryResetRequest hostNs) Hub.reset).aon.order = none ∧
     h.halted = false ∧ h.flushSoon = false) := by decide +kernel

theorem wit_StartupAndReams_7 :
    (let h := late_ .stagedReset sealedHub
     h.due .stagedReset = true ∧ (run .stagedReset h).aon.order = some 4) := by decide +kernel

end Sys2Proof.Tests

namespace Sys2Proof.Tests

set_option Elab.async false

open Machine

/-- A sealed hub with a root, whose staged entry derives a key into slot 9 under a parent. -/
def keyHub (par : Nat) : Hub :=
  { ((sealedHub.wr (Reg.KEY_STAGE 0) (BitVec.ofNat 32 (0x900 + 0x10000 * par))).wr (Reg.KEY_STAGE 1) 3#32) with
    keys := { KeyStore.reset with root := some 7 } }

/-- That hub with slot 4 VALID, granting DERIVE, its count of uses at 1. -/
def parentHub (w : Word) : Hub :=
  Hub.retag { (((keyHub 4).wr (Reg.KEY_SLOT_META 4) w).wr (Reg.KEY_SLOT_USES 4) 1#32) with
    keys := { KeyStore.reset with root := some 7, keys := [(4, 5)] } } 4

/-- A hub with a TYPE 13 frame taken at MC, under AUTH or not. -/
def keyTaken (sub : BitVec 6) (auth : Bool) (p : List Byte) (h : Hub) : Hub :=
  { h with acts := [⟨10, 1, ⟨{ pingHdr 0 with typ := 13, sub := sub, world := true, auth := auth }, p, 0⟩, false, 0, false, false, 0⟩] }

theorem wit_KeyOperations :
    (let h : Hub := { keyHub 0x7F with keys := KeyStore.reset }
     h.allows ploia Reg.KEY_OP = true ∧ (run (.keyApply ploia) h).rd Reg.KEY_OPSTAT = 0x902#32) ∧
    ((keyHub 0x7F).stage.take 8 = [0, 9, 0x7F, 0, 3, 0, 0, 0] ∧ (run (.keyApply ploia) (keyHub 0x7F)).rd Reg.KEY_OPSTAT = 0x901#32 ∧
     (run (.keyApply ploia) (keyHub 0x7F)).slotState 9 = .valid ∧ (run (.keyApply ploia) (keyHub 0x7F)).rd (Reg.KEY_SLOT_USES 9) = 3#32 ∧
     (run (.keyApply ploia) (run (.keyApply ploia) (keyHub 0x7F))).rd Reg.KEY_OPSTAT = 0x904#32) ∧
    ((run (.keyApply ploia) (keyHub 4)).rd Reg.KEY_OPSTAT = 0x905#32 ∧ (run (.keyApply ploia) (parentHub 0x41007F00#32)).rd Reg.KEY_OPSTAT = 0x906#32 ∧
     (run (.keyApply ploia) (parentHub 0x42107F00#32)).rd Reg.KEY_OPSTAT = 0x901#32 ∧
     (run (.keyApply ploia) (parentHub 0x42107F00#32)).slotState 4 = .spent ∧
     (run (.keyApply ploia) (parentHub 0x42007F00#32)).slotState 4 = .valid) ∧
    (let h := run (.keyApply ploia) (parentHub 0x42007F00#32)
     h.allows ploia Reg.KEY_OP = true ∧ (run (.keyDestroy ploia 4) h).slotState 4 = .dead ∧ (run (.keyDestroy ploia 4) h).slotState 9 = .dead ∧
     (run (.keyDestroy ploia 9) h).slotState 4 = .valid ∧ (run (.keyDestroy ploia 0x7F) h).keys.root = none ∧
     (run (.keyDestroy ploia 64) h).rd Reg.KEY_OPSTAT = 0x4004#32 ∧
     h.ready .keyScrub = true ∧ h.tagOk 4 = true ∧ h.tagOk 9 = true ∧ (run (.keyScrub []) h).keys = h.keys ∧
     (let g := run (.keyScrub [(4, 1)]) h
      g.slotState 9 = .dead ∧ g.faults Flt.KEYTAG 2 = 1) ∧
     (let g : Hub := { h with keys := { h.keys with keys := [(4, 6), (9, 7)] } }
      g.tagOk 4 = false ∧ (run (.keyScrub []) g).slotState 4 = .dead)) ∧
    (let h : Hub := { parentHub 0x42007F00#32 with keys := { (parentHub 0x42007F00#32).keys with keys := [(4, 6)] } }
     h.grants 4 .derive = true ∧ h.tagOk 4 = false ∧ (run (.keyApply ploia) h).rd Reg.KEY_OPSTAT = 0x906#32 ∧
     (run (.keyApply ploia) h).slotState 4 = .dead ∧ (run (.keyApply ploia) h).faults Flt.KEYTAG 2 = 1) ∧
    (let h := parentHub 0x41007F00#32
     h.allows ploia (Reg.KEY_RSEL 2) = true ∧ h.rselOk 0x84#32 = true ∧ (run (.keyRselWrite ploia 2 0x84#32) h).rd (Reg.KEY_RSEL 2) = 0x84#32 ∧
     h.rselOk 0x840000#32 = false ∧ (run (.keyRselWrite ploia 2 0x840000#32) h).is Fld.KEY_EVT_RSELREF = true) ∧
    (ringHub.routeLane 0 3 = some (0, true) ∧ (run (.keyLoadFrameRx 0 3 0 7) (keyTaken 0 true [] ringHub)).sw.offered.map (fun x => (x.outs, x.frame.payload)) = [([0], [2#8])] ∧
     (run (.keyLoadFrameRx 0 3 0 7) (keyTaken 0 true (keyHub 0x7F).stage (keyHub 0x7F))).slotState 9 = .valid ∧
     (run (.keyLoadFrameRx 0 3 0 7) (keyTaken 0 false [] ringHub)).sw.offered.length = 0 ∧
     (run (.keyLoadFrameRx 0 3 0 7) (keyTaken 0 false [] ringHub)).acts = []) ∧
    (run (.keyResultRx 0 3) (keyTaken 1 true [4] sealedHub)).out = [.note 13 [0, 3, 5, 4]] ∧
    (let req : Req := ⟨true, .service, 10⟩
     let h := keyHub 4
     h.is Fld.PWR_SUPSTAT_DEFER = false ∧ h.keys.useB = false ∧ (run (.otkProvision req 1 true true) h).keys.pufB.gen = 2 ∧
     (run (.otkProvision req 1 false true) h).keys.pufB.valid = false ∧
     (run (.otkProvision req 1 true true) (h.set Fld.PWR_SUPSTAT_DEFER 1)).flash.waits.length = 1 ∧
     (run (.ownerFuseBlow req 2 (some 3)) h).keys.fuses.map (fun f => f.digest) = [none, none, some 3, none] ∧
     (run (.ownerFuseBlow req 2 none) h).keys.fuses.map (fun f => f.revoked) = [false, false, true, false]) := by decide +kernel

end Sys2Proof.Tests

namespace Sys2Proof.Tests

set_option Elab.async false

open Machine

/-- A sealed hub whose source FLT_LINK has a configuration word and holds events of island 4. -/
def fltHub (cfg : Word) (k : Nat) : Hub :=
  let h := sealedHub.wr (Reg.FLT_SRC_CFG Flt.LINK) cfg
  { h with faultsIn := [((Flt.LINK, 4), ⟨k, 5, 6, false, ⟨4, 0, 1, 2⟩⟩)], flt := { h.flt with records := [] } }

theorem wit_FaultEvents :
    (let h := fltHub 0x00024011#32 2
     Flt.LINK < 78 ∧ h.get (Fld.FLT_SRC_CFG_N Flt.LINK) = 2 ∧ h.get (Fld.FLT_SRC_CFG_CEIL Flt.LINK) = 4 ∧ h.xOpen (eventCrossing 4) = true ∧
     (let t := run (.faultEvent (Fin.ofNat 128 Flt.LINK) 4) h
      t.get (Fld.FLT_SRC_STAT_CUR Flt.LINK) = 2 ∧ t.flt.records.length = 1 ∧ t.fltPending Flt.LINK = true ∧ t.is Fld.FLT_ERRN_LOW = true ∧
      t.out = [.ploiaInt false])) := by decide +kernel

theorem wit_FaultEvents_2 :
    (let h := { fltHub 0x00024011#32 2 with xings := [(eventCrossing 4, XState.stopped)] }
     h.xOpen (eventCrossing 4) = false ∧ (run (.faultEvent (Fin.ofNat 128 Flt.LINK) 4) h).faults Flt.LINK 4 = 2) := by decide +kernel

theorem wit_FaultEvents_3 :
    ((run (.faultEvent (Fin.ofNat 128 Flt.LINK) 4) (fltHub 0x00001002#32 1)).out.contains (.ploiaInt true) = true ∧
     (run (.faultEvent (Fin.ofNat 128 Flt.LINK) 4) (fltHub 0x00001008#32 1)).aon.order = some 5 ∧
     (run (.faultEvent (Fin.ofNat 128 Flt.LINK) 4) (fltHub 0x00001004#32 1)).armed (.groupReset 3) = true) := by decide +kernel

theorem wit_FaultEvents_4 :
    (let h := (fltHub 0x00014000#32 1).set (Fld.FLT_SRC_STAT_CUR Flt.LINK) 3
     h.get (Fld.FLT_SRC_CFG_N Flt.LINK) = 1 ∧ h.get (Fld.FLT_SRC_CFG_CEIL Flt.LINK) = 4 ∧ h.get (Fld.FLT_SRC_STAT_CUR Flt.LINK) = 3 ∧
     h.fltW Flt.LINK = ms 1000 ∧ (h.fltSrc Flt.LINK).wstart = none ∧ (Assoc.get h.faultsIn (Flt.LINK, 4)).isSome = true) := by decide +kernel

theorem wit_FaultEvents_5 :
    (let h := { (fltHub 0#32 1).set (Fld.FLT_SRC_STAT_CUR Flt.LINK) 2 with clock := ms 5000 }
     h.fltW Flt.LINK = ms 1000 ∧ (run (.classFall (Fin.ofNat 128 Flt.LINK)) h).get (Fld.FLT_SRC_STAT_CUR Flt.LINK) = 1) := by decide +kernel

theorem wit_FaultEvents_6 :
    (let h : Hub := { sealedHub with aon := { sealedHub.aon with order := some 5, flushed := true, held := false } }
     (run .faultResetEntry h).aon.kind = 5 ∧ (run .faultResetEntry h).sealed_ = false ∧ (run .faultResetEntry h).aon.held = true) := by decide +kernel

theorem wit_FaultRegistersAndPins :
    (let h := sealedHub.wr (Reg.FLT_PEND 0) 0xF0#32
     h.allows ploia (Reg.FLT_PEND 0) = true ∧ (run (.faultPendClear ploia 0 0x30#32) h).rd (Reg.FLT_PEND 0) = 0xC0#32) := by decide +kernel

theorem test_pend_kept_in_tick :
    (let h := (sealedHub.wr (Reg.FLT_PEND 0) 0xE0#32).evt ⟨Reg.FLT_PEND 0, 4, 1⟩
     (run (.faultPendClear ploia 0 0x30#32) h).rd (Reg.FLT_PEND 0) = 0xD0#32 ∧
     (run (.faultPendClear ploia 0 0x30#32) { h with fresh := [] }).rd (Reg.FLT_PEND 0) = 0xC0#32) := by decide +kernel

theorem wit_FaultRegistersAndPins_2 :
    (sealedHub.allows ploia Reg.FLT_RECPOP = true ∧ (run (.faultRecordPop ploia) sealedHub).out = [.reply ploia Reg.FLT_RECPOP 0#32] ∧
     (let h : Hub := { sealedHub with flt := { sealedHub.flt with records := [⟨11, 2, 3, Stamp.mk 4 5 0, Stamp.mk 6 7 0, false, ⟨4, 0, 1, 2⟩, false⟩] } }
      (run (.faultRecordPop ploia) h).out = [.reply ploia Reg.FLT_RECPOP 0x805A0003#32])) := by decide +kernel

theorem wit_FaultRegistersAndPins_3 :
    (let h := Hub.reset.set (Fld.FLT_SRC_STAT_CUR 11) 4
     h.allows ploia (Reg.FLT_SRC_CFG 11) = true ∧ (run (.faultSrcCfgWrite ploia 11 0x2000#32) h).rd (Reg.FLT_SRC_CFG 11) = 0x2000#32 ∧
     (run (.faultSrcCfgWrite ploia 11 0x2000#32) h).get (Fld.FLT_SRC_STAT_CUR 11) = 2) := by decide +kernel

theorem wit_FaultRegistersAndPins_4 :
    (let h := flds [(Fld.FLT_ALIVE_RUNNING, 1)] sealedHub
     h.aliveInstant = true ∧ (run .aliveToggle h).is Fld.FLT_ALIVE_LEVEL = true ∧ sealedHub.aliveCause = some (2, 0) ∧
     (run .aliveToggle sealedHub).is Fld.FLT_ALIVE_LEVEL = false ∧
     (let g := flds (((List.range 78).map (fun n => (Fld.FLT_SRC_CFG_C0P n, 0))) ++ [(Fld.TIME_STATUS_OPEN, 1), (Fld.TIME_STATUS_LOCK, 1)]) sealedHub
      g.aliveCause = none ∧ (run .aliveToggle g).is Fld.FLT_ALIVE_RUNNING = true ∧ g.allows ploia Reg.FLT_ALIVE = true ∧
      (run (.aliveRearm ploia) g).is Fld.FLT_ALIVE_RUNNING = true ∧ (run (.aliveRearm ploia) sealedHub).is Fld.FLT_EVT_REARMREF = true) ∧
     (let g : Hub := { flds [(Fld.FLT_ALIVE_CAUSE, 3)] sealedHub with clock := us 30 }
      us 20 ≤ g.clock - g.flt.failAt)) := by decide +kernel

theorem wit_FaultRegistersAndPins_5 :
    (let h := flds [(Fld.FLT_ERRN_LOW, 1)] (late_ .errn sealedHub)
     h.due .errn = true ∧ (run .errnRelease h).is Fld.FLT_ERRN_LOW = false ∧ (run .errnRelease (h.set Fld.FLT_ERRN_HOLD 1)).is Fld.FLT_ERRN_LOW = true ∧
     h.allows ploia Reg.FLT_ERRN = true ∧ (run (.errnHoldWrite ploia true) h).is Fld.FLT_ERRN_LOW = true ∧
     (run (.errnHoldWrite ploia false) { h with timers := [] }).is Fld.FLT_ERRN_LOW = false) := by decide +kernel

theorem wit_SelfTestsAndSensors :
    (sealedHub.allows ploia Reg.FLT_STREQ = true ∧
     (run (.selftestRequest ploia 0x84000003#32) sealedHub).rd Reg.FLT_STRES = 0x10400003#32 ∧
     (run (.selftestRequest ploia 0x84000008#32) sealedHub).get Fld.FLT_STRES_RESULT = 6 ∧
     (run (.selftestRequest ploia 0x84000003#32) (sealedHub.set Fld.FLT_STRES_RESULT 2)).is Fld.FLT_STRES_BUSYHIT = true ∧
     (run (.selftestRequest ploia 0x87000003#32) sealedHub).test.running = some (7, 75, true) ∧
     (run (.selftestRequest ploia 0x86000003#32) sealedHub).test.deferred = some (6, 3)) := by decide +kernel

theorem wit_SelfTestsAndSensors_2 :
    (let h := run (.selftestRequest ploia 0x84000003#32) sealedHub
     (run (.selftestShadowStep 4 3 0 true true) h).get Fld.FLT_STRES_RESULT = 3 ∧
     (run (.selftestShadowStep 4 3 0 true true) h).get (Fld.FLT_HTEST_PASSES 4) = 1 ∧
     (run (.selftestShadowStep 0 0 77 false false) h).sw.retired = [77] ∧ (run (.selftestShadowStep 4 3 0 false false) h).faults Flt.BIST 3 = 1 ∧
     (run (.selftestShadowStep 4 3 0 false true) h).get Fld.FLT_STRES_RESULT = 4) := by decide +kernel

theorem wit_SelfTestsAndSensors_3 :
    (let h : Hub := { sealedHub with test := { sealedHub.test with deferred := some (7, 3) } }
     h.inWindow 7 3 = true ∧ (run (.selftestWindowStart 7 3) h).test.running = some (7, 75, true) ∧
     (let g : Hub := { sealedHub with clock := ms 2000 }
      g.windowOld 7 3 = true ∧ g.testFresh 7 3 = false ∧ (run (.selftestWindowStart 7 3) g).test.running = some (7, 75, false)) ∧
     h.inWindow 6 3 = false) := by decide +kernel

theorem wit_SelfTestsAndSensors_4 :
    (let h : Hub := { late_ .stEnd sealedHub with test := { sealedHub.test with running := some (7, 75, true) } }
     h.due .stEnd = true ∧ (run (.selftestWindowEnd true 0) h).get Fld.FLT_STRES_RESULT = 3 ∧
     (run (.selftestWindowEnd false 0) h).faults Flt.BIST 3 = 1) := by decide +kernel

theorem wit_SelfTestsAndSensors_5 :
    (let h : Hub := { late_ .stDefer sealedHub with test := { sealedHub.test with deferred := some (7, 3) } }
     h.due .stDefer = true ∧ (run .selftestDeferExpiry h).get Fld.FLT_STRES_RESULT = 5) := by decide +kernel

theorem wit_SelfTestsAndSensors_6 :
    (let h := sealedHub.set Fld.FLT_STATUS_TESTMODE 1
     h.allows ploia Reg.FLT_INJ = true ∧ (run (.faultInject ploia 0x800B0005#32) h).faults 11 4 = 5 ∧
     (run (.faultInject ploia 0x800B0005#32) sealedHub).faults 11 4 = 0) := by decide +kernel

theorem wit_SelfTestsAndSensors_7 :
    ((run (.dieTempCross 1200) sealedHub).faults Flt.DIETEMP 0 = 1 ∧
     (run (.dieTempCross 1149) (run (.dieTempCross 1200) sealedHub)).aon.dieHot = false ∧
     (run (.dieTempCross 1199) (run (.dieTempCross 1200) sealedHub)).aon.dieHot = true) := by decide +kernel

end Sys2Proof.Tests

namespace Sys2Proof.Tests

set_option Elab.async false

open Machine

/-- A hub whose last flush started 50 ms ago. -/
def soonHub : Hub := { sealedHub with clock := ms 60, log := { sealedHub.log with flushLast := some (ms 10) } }

/-- A hub with a flush in phase 2 of copy B, or a roll-up, of totals of two powered years. -/
def flushHub (why : List FlushWhy) (again : Bool) : Hub :=
  { sealedHub with log := { sealedHub.log with flush := some ⟨why, [(143, 63072001)], [], 0, true, again⟩, ident := { Identity.zero with clean := true } } }

theorem wit_LogFlushes :
    (let h := late_ .flushInterval sealedHub
     h.due .flushInterval = true ∧ h.halted = false ∧ h.flushSoon = false ∧ sealedHub.due .flushInterval = false) ∧
    (soonHub.halted = false ∧ soonHub.flushSoon = true ∧ soonHub.allows ploia Reg.LOG_CTL = true ∧
     (run (.logFlushCmd ploia 1#32) soonHub).log.merged = [.command] ∧ (run (.logFlushCmd ploia 1#32) soonHub).armed .mergedFlush = true ∧
     (run (.logFlushCmd ploia 2#32) soonHub).log.merged = []) ∧
    (let h : Hub := { late_ .mergedFlush soonHub with log := { soonHub.log with merged := [.command] } }
     h.due .mergedFlush = true ∧ h.log.merged.isEmpty = false ∧ (run .mergedFlushStart { h with halted := true }).armed .mergedFlush = false) ∧
    (let h := flushHub [.interval] false
     h.log.flush.isSome = true ∧ (run (.flushCommit false) h).is Fld.LOG_EVT_WRFAIL = true ∧
     (run (.flushCommit false) (flushHub [.interval] true)).faults Flt.LOGWR 0 = 1 ∧
     yearsOf [(143, 63072001)] = 2 ∧ h.deferred = false ∧ h.log.committed = false) ∧
    (sealedHub.log.flush.isNone = true ∧ sealedHub.log.rollup.isNone = true ∧
     ({ sealedHub with log := { sealedHub.log with rollup := (flushHub [] false).log.flush } } : Hub).log.rollup.isSome = true) := by decide +kernel

theorem wit_LogSamplesAndRecords :
    (let h : Hub := { sealedHub with aon := { sealedHub.aon with up := true } }
     h.aon.up = true ∧ h.ready .histogram = true ∧
     (let t := run (.histogramSample 500 800#16 900#16 1000#16 3300#16 900#16 3300#16) h
      t.rd Reg.PWR_RAIL0 = 0x03840320#32 ∧ t.logTotal 143 = 1 ∧ t.aon.dieTemp = 500) ∧
     h.journalRoom.1 = true ∧ (run (.directRecord 8 1 0) h).rd Reg.LOG_JSEQ = 1#32 ∧ (run (.directRecord 3 1 0) h).rd Reg.LOG_JSEQ = 0#32 ∧
     (let g : Hub := { h with log := { h.log with jCount := 100 } }
      (run (.directRecord 8 1 0) g).rd Reg.LOG_CNT_JLOST = 1#32)) ∧
    (let h : Hub := { late_ .identity sealedHub with log := { sealedHub.log with identOwed := true, ident := { Identity.zero with coolMs := 9 } } }
     h.due .identity = true ∧ (run .identityWriteDeferred h).log.idA = ({ Identity.zero with coolMs := 9 }, 1, 1) ∧
     (run .identityWriteDeferred { h with log := { h.log with idA := (Identity.zero, 3, 3) } }).log.idB.2.1 = 4 ∧
     (run .identityWriteDeferred (late_ .identity sealedHub)).armed .identity = false) := by decide +kernel

end Sys2Proof.Tests

namespace Sys2Proof.Tests

set_option Elab.async false

open Machine

/-- The first 16 octets of a Ploia image of 65,536 octets, release 1.2.3, of a security version. -/
def imageWords (svn : Nat) : List Byte := [0x50#8, 0x4C#8, 0x4F#8, 0x49#8, 1#8, 2#8] ++ leBytes 2 3 ++ [BitVec.ofNat 8 svn, 0#8, 0#8, 0#8] ++ leBytes 4 65536

/-- Octets in a flash from an offset. -/
def cellsAt (a : Nat) (l : List Byte) : List Host.Cell := l.zipIdx.map (fun p => (a + p.2, p.1))

/-- The CRC marked for a chunk of 128: the first and the last have CRCs of their own, the rest that of all ones. -/
def markCrc (c0 c1 k : Nat) : Nat := if k = 0 then c0 else if k = 127 then c1 else 0x5bd99297

/-- The marks of 128 chunks. -/
def allMarks (c0 c1 : Nat) : List Host.Cell :=
  (List.range 640).map (fun n => (chunkTable + 8 * (n / 5) + n % 5, (leBytes 4 (markCrc c0 c1 (n / 5)) ++ [0#8]).getD (n % 5) 0#8))

/-- A hub whose update is in a state, with a session of n octets, and a flash content. -/
def updHubOf (n st : Nat) (m : List Host.Cell) : Hub :=
  { sealedHub with flash := { Flash.reset with mem := m, upd := { UpdState.reset with state := st, session := some (7#64, n) } } }

/-- Such a hub with a session of two chunks. -/
def updHub : Nat → List Host.Cell → Hub := updHubOf 1024

set_option maxRecDepth 1000000 in
theorem test_crc_ones : crc32c (List.replicate 512 0xFF#8) = 0x5bd99297#32 := by decide +kernel

theorem wit_UpdateRequests :
    (let h := updHub 0 []
     h.updServed ploia = true ∧ h.updOpen ploia = true ∧ h.updOpen hostNs = false ∧ (run (.updAbort hostNs) h).faults Flt.WORLD 3 = 1 ∧
     ({ h with halted := true } : Hub).updServed ploia = false ∧
     (run (.updStart ploia 7#64 65536 false) h).out = [.answer .ploia (.result 1 [2])] ∧
     (run (.updStart ploia 8#64 65536 false) h).get Fld.UPD_RESULT_RESULT = 2 ∧
     (run (.updStart ploia 8#64 65535 true) h).get Fld.UPD_RESULT_RESULT = 5 ∧
     (run (.updStart ploia 8#64 65536 true) h).flash.upd.session = some (8#64, 65536) ∧
     (run (.updStart ploia 8#64 65536 true) (h.set Fld.PWR_SUPSTAT_DEFER 1)).flash.waits.length = 1 ∧
     (run (.updStart ploia 7#64 65536 false) (updHub 2 [])).get Fld.UPD_RESULT_RESULT = 3) := by decide +kernel

set_option maxRecDepth 1000000 in
theorem wit_UpdateRequests_chunk :
    (let h := updHub 1 []
     h.updTotal = 2 ∧ chunkPresent h.flash.mem 1 = false ∧
     (run (.updChunk ploia 7#64 2 0#32 [] true) h).get Fld.UPD_RESULT_RESULT = 5 ∧
     (run (.updChunk ploia 8#64 1 0#32 [] true) h).get Fld.UPD_RESULT_RESULT = 2 ∧
     (run (.updCommit ploia 7#64 false) h).get Fld.UPD_RESULT_RESULT = 6 ∧ (run (.updCommit ploia 8#64 false) h).get Fld.UPD_RESULT_RESULT = 2) := by decide +kernel

theorem wit_UpdateRequests_abort :
    ((run (.updAbort ploia) (updHub 1 [])).flash.upd.state = 0 ∧ (run (.updAbort ploia) (updHub 0 [])).get Fld.UPD_RESULT_RESULT = 3 ∧
     (run (.updAbort ploia) ((updHub 2 []).set Fld.PWR_SUPSTAT_DEFER 1)).flash.waits.length = 1) ∧
    ((run (.updConfirm ploia) (updHub 1 [])).get Fld.UPD_RESULT_RESULT = 3 ∧
     (run (.updConfirm ploia) ((updHub 4 []).set Fld.CHIP_SEAL_SEALED 0)).get Fld.UPD_RESULT_RESULT = 11 ∧
     (run (.updConfirm ploia) (updHub 4 [])).is Fld.UPD_EVT_CONFIRMED = true ∧
     (run (.updConfirm ploia) ((updHub 4 []).set Fld.PWR_SUPSTAT_DEFER 1)).flash.waits.length = 1 ∧
     ((updHub 4 []).set Fld.UPD_STATUS_RECOVERY 1).inRecovery = true ∧
     ((updHub 4 []).set Fld.UPD_STATUS_RECOVERY 1).updOpen ⟨true, .service, 10⟩ = true) := by decide +kernel

/-- What a table reads at a key that it does not list. -/
theorem get_miss {α : Type} (d : Nat → α) (m : List (Nat × α)) (k : Nat) (h : ∀ e ∈ m, e.1 ≠ k) : Sparse.get d m k = d k := by
  induction m with
  | nil => rfl
  | cons e t ih =>
    simp only [Sparse.get, h e (by simp), if_false]
    exact ih (fun x hx => h x (by simp [hx]))

/-- What a table of distinct keys reads at one of them. -/
theorem get_hit {α : Type} (d : Nat → α) (l : List Nat) (f : Nat → Nat) (g : Nat → α) (inj : ∀ a b, f a = f b → a = b) (j : Nat)
    (h : j ∈ l) : Sparse.get d (l.map (fun i => (f i, g i))) (f j) = g j := by
  induction l with
  | nil => cases h
  | cons i t ih =>
    by_cases e : i = j
    · simp [Sparse.get, e]
    · have : f i ≠ f j := fun x => e (inj _ _ x)
      simp only [List.map_cons, Sparse.get, this, if_false]
      exact ih (by simpa [Ne.symm e] using h)

/-- What a table reads behind entries that do not list the key. -/
theorem get_behind {α : Type} (d : Nat → α) (a b : List (Nat × α)) (k : Nat) (h : ∀ e ∈ a, e.1 ≠ k) :
    Sparse.get d (a ++ b) k = Sparse.get d b k := by
  induction a with
  | nil => rfl
  | cons e t ih =>
    simp only [List.cons_append, Sparse.get, h e (by simp), if_false]
    exact ih (fun x hx => h x (by simp [hx]))

/-- What a table reads before entries that do not list the key. -/
theorem get_before {α : Type} (d : Nat → α) (a b : List (Nat × α)) (k : Nat) (h : ∀ e ∈ b, e.1 ≠ k) :
    Sparse.get d (a ++ b) k = Sparse.get d a k := by
  induction a with
  | nil => exact get_miss d b k h
  | cons e t ih => simp only [List.cons_append, Sparse.get, ih]

/-- The keys of octets in a flash from an offset. -/
theorem cellsAt_keys (a : Nat) (l : List Byte) (e : Host.Cell) (h : e ∈ cellsAt a l) : a ≤ e.1 ∧ e.1 < a + l.length := by
  simp only [cellsAt, List.mem_map] at h
  obtain ⟨p, hp, rfl⟩ := h
  have := List.snd_lt_of_mem_zipIdx hp
  dsimp only
  omega

/-- The keys of the marks. -/
theorem allMarks_keys (c0 c1 : Nat) (e : Host.Cell) (h : e ∈ allMarks c0 c1) : ∃ n, e.1 = chunkTable + 8 * (n / 5) + n % 5 := by
  simp only [allMarks, List.mem_map] at h
  obtain ⟨n, _, rfl⟩ := h
  exact ⟨n, rfl⟩

/-- The octets of a staging slot: some at its start, and some 65,440 octets behind it. -/
def slotCells (l g : List Byte) : List Host.Cell := cellsAt stagingSlot l ++ cellsAt (stagingSlot + 65440) g

/-- A staging slot of 128 chunks with those octets in its first and last chunk, every chunk marked. -/
def wholeFlash (l g : List Byte) (c0 c1 : Nat) : List Host.Cell := slotCells l g ++ allMarks c0 c1

/-- Where the octets of the slot lie. -/
theorem slotCells_keys (l g : List Byte) (hl : l.length ≤ 512) (hg : g.length ≤ 96) (e : Host.Cell) (h : e ∈ slotCells l g) :
    (stagingSlot ≤ e.1 ∧ e.1 < stagingSlot + 512) ∨ (stagingSlot + 65440 ≤ e.1 ∧ e.1 < stagingSlot + 65536) := by
  rcases List.mem_append.mp h with h | h <;> have := cellsAt_keys _ _ _ h <;> omega

/-- The mark of a chunk of such a slot. -/
theorem mark_read (l g : List Byte) (c0 c1 k : Nat) (hk : k < 128) (hl : l.length ≤ 512) (hg : g.length ≤ 96) :
    flashRead (wholeFlash l g c0 c1) (chunkTable + 8 * k) 8 = leBytes 4 (markCrc c0 c1 k) ++ [0x00#8, 0xFF#8, 0xFF#8, 0xFF#8] := by
  have off : ∀ j, Sparse.get erased (wholeFlash l g c0 c1) (chunkTable + 8 * k + j) =
      Sparse.get erased (allMarks c0 c1) (chunkTable + 8 * k + j) := by
    intro j
    apply get_behind
    intro e he
    have := slotCells_keys _ _ hl hg _ he
    have s1 : stagingSlot = 0x410000 := rfl
    have s2 : chunkTable = 0xA30000 := rfl
    omega
  have hit : ∀ j, j < 5 → Sparse.get erased (allMarks c0 c1) (chunkTable + 8 * k + j) =
      (leBytes 4 (markCrc c0 c1 k) ++ [0#8]).getD j 0#8 := by
    intro j hj
    have := get_hit erased (List.range 640) (fun n => chunkTable + 8 * (n / 5) + n % 5)
      (fun n => (leBytes 4 (markCrc c0 c1 (n / 5)) ++ [0#8]).getD (n % 5) 0#8) (by intro a b h; omega) (5 * k + j)
      (by simp only [List.mem_range]; omega)
    have e1 : (5 * k + j) / 5 = k := by omega
    have e2 : (5 * k + j) % 5 = j := by omega
    simp only [e1, e2] at this
    exact this
  have miss : ∀ j, 5 ≤ j → j < 8 → Sparse.get erased (allMarks c0 c1) (chunkTable + 8 * k + j) = 0xFF#8 := by
    intro j h1 h2
    apply get_miss
    intro e he
    obtain ⟨n, hn⟩ := allMarks_keys _ _ _ he
    omega
  have r : flashRead (wholeFlash l g c0 c1) (chunkTable + 8 * k) 8 =
      [0, 1, 2, 3, 4, 5, 6, 7].map (fun j => Sparse.get erased (wholeFlash l g c0 c1) (chunkTable + 8 * k + j)) := rfl
  rw [r]
  simp only [List.map_cons, List.map_nil, off, hit 0 (by omega), hit 1 (by omega), hit 2 (by omega), hit 3 (by omega), hit 4 (by omega),
    miss 5 (by omega) (by omega), miss 6 (by omega) (by omega), miss 7 (by omega) (by omega)]
  rfl

/-- The octets of a chunk of such a slot. -/
theorem chunk_read (l g : List Byte) (c0 c1 k : Nat) (hk : k < 128) :
    flashRead (wholeFlash l g c0 c1) (stagingSlot + 512 * k) 512 = flashRead (slotCells l g) (stagingSlot + 512 * k) 512 := by
  unfold flashRead
  apply List.map_congr_left
  intro j hj
  apply get_before
  intro e he
  obtain ⟨n, hn⟩ := allMarks_keys _ _ _ he
  simp only [List.mem_range] at hj
  have s1 : stagingSlot = 0x410000 := rfl
  have s2 : chunkTable = 0xA30000 := rfl
  omega

/-- The octets of every chunk between the first and the last of such a slot. -/
theorem further_read (l g : List Byte) (k : Nat) (h0 : k ≠ 0) (hk : k < 127) (hl : l.length ≤ 512) (hg : g.length ≤ 96) :
    flashRead (slotCells l g) (stagingSlot + 512 * k) 512 = List.replicate 512 0xFF#8 := by
  have r : ∀ j, j < 512 → Sparse.get erased (slotCells l g) (stagingSlot + 512 * k + j) = 0xFF#8 := by
    intro j hj
    apply get_miss
    intro e he
    have := slotCells_keys _ _ hl hg _ he
    omega
  apply List.ext_getElem
  · rw [flashRead, List.length_map, List.length_range, List.length_replicate]
  · intro i h1 h2
    simp only [flashRead, List.length_map, List.length_range] at h1
    simp only [flashRead, List.getElem_map, List.getElem_range, List.getElem_replicate]
    exact r _ h1

/-- Every chunk of such a slot is present. -/
theorem wholeFlash_present (l g : List Byte) (c0 c1 : Nat) (hl : l.length ≤ 512) (hg : g.length ≤ 96)
    (hc0 : leBytes 4 (crc32c (flashRead (slotCells l g) stagingSlot 512)).toNat = leBytes 4 c0)
    (hc1 : leBytes 4 (crc32c (flashRead (slotCells l g) (stagingSlot + 512 * 127) 512)).toNat = leBytes 4 c1) :
    (∀ k < 128, chunkPresent (wholeFlash l g c0 c1) k = true) ∧ (updHubOf 65536 1 (wholeFlash l g c0 c1)).updPresent = 128 := by
  have e' : ∀ k < 128, chunkPresent (wholeFlash l g c0 c1) k = true := by
    intro k hk
    unfold chunkPresent
    rw [mark_read l g c0 c1 k hk hl hg, chunk_read l g c0 c1 k hk]
    by_cases h0 : k = 0
    · subst h0
      simp only [Nat.mul_zero, Nat.add_zero, hc0]
      simp [leBytes, markCrc]
    · by_cases h1 : k = 127
      · subst h1
        rw [hc1]
        simp [leBytes, markCrc]
      · rw [further_read l g k h0 (by omega) hl hg, test_crc_ones]
        simp [h0, h1, leBytes, markCrc]
  refine ⟨e', ?_⟩
  have e : ∀ k ∈ List.range 128, chunkPresent (wholeFlash l g c0 c1) k = true := fun k hm => e' k (by simpa using hm)
  have t : (updHubOf 65536 1 (wholeFlash l g c0 c1)).updTotal = 128 := by
    show (65536 : Nat) / 512 = 128
    decide
  unfold Hub.updPresent
  rw [t]
  show ((List.range 128).filter (fun k => chunkPresent (wholeFlash l g c0 c1) k)).length = 128
  rw [List.filter_eq_self.mpr e]
  rfl

/-- The signature of the image of security version 5 under the owner's key. -/
def imageSig : List Byte :=
  beBytes 48 0x34dc356349be09e777548fe6de5f5a19732f07ab3937c425e83db67ecb261220f91ab72546cfe9808b2f7fae152e443a ++
    beBytes 48 0x2437e10e10d73d72bda942ba790c5d2f66bf3d74137a4c90517cd286df006cc4c31bca8bd852ee777796c2bcfcd9f8a6

/-- The staging slot with that image and a signature in its last 96 octets, and the CRC of its last chunk. -/
def imageFlash (g : List Byte) (c1 : Nat) : List Host.Cell := wholeFlash (imageWords 5) g 0xa3991e1e c1

set_option maxRecDepth 1000000 in
/-- A whole image of security version 5, signed; and one whose signature is left erased. -/
theorem wit_UpdateRequests_whole : chunkPresent (imageFlash imageSig 0x73607fb6) 7 = true ∧
    (updHubOf 65536 1 (imageFlash imageSig 0x73607fb6)).updPresent = 128 ∧ (updHubOf 65536 1 (imageFlash [] 0x5bd99297)).updPresent = 128 :=
  have p := wholeFlash_present (imageWords 5) imageSig 0xa3991e1e 0x73607fb6 (by decide) (by decide) (by decide +kernel) (by decide +kernel)
  ⟨p.1 7 (by decide), p.2, (wholeFlash_present (imageWords 5) [] 0xa3991e1e 0x5bd99297 (by decide) (by decide) (by decide +kernel) (by decide +kernel)).2⟩

set_option maxRecDepth 1000000 in
/-- A whole session without a header. -/
theorem wit_UpdateRequests_headless : (updHubOf 65536 1 (wholeFlash [] [] 0x5bd99297 0x5bd99297)).updPresent = 128 ∧
    (imageHead (wholeFlash [] [] 0x5bd99297 0x5bd99297) stagingSlot).isNone = true :=
  ⟨(wholeFlash_present _ _ _ _ (by decide) (by decide) (by decide +kernel) (by decide +kernel)).2, by decide +kernel⟩

/-- The header of the image. -/
def imageFive : ImageHead := ⟨1, 2, 3, 5, 0, 0, 0, 65536⟩

theorem test_imageHead : imageHead (imageFlash imageSig 0x73607fb6) stagingSlot = some imageFive ∧
    imageHead (imageFlash [] 0x5bd99297) stagingSlot = some imageFive := by decide +kernel

/-- No erased signature verifies. -/
theorem erased_unsigned (k : List Byte) (d : BitVec 384) : ecdsaOk k d (List.replicate 96 0xFF#8) = false := by
  have r : ofBe (slice (List.replicate 96 0xFF#8) 0 48) = 0xffffffffffffffffffffffffffffffffffffffffffffffffffffffffffffffffffffffffffffffffffffffffffffffff := by decide +kernel
  unfold ecdsaOk
  simp only [r]
  have n : ¬ (0xffffffffffffffffffffffffffffffffffffffffffffffffffffffffffffffffffffffffffffffffffffffffffffffff < n384) := by decide
  simp [n]

/-- The signature of the image verifies, where the boot ROM's key 0 is the owner's above; the digest is SHA-384 of the slot's first 65,440 octets
(511 blocks, more than a test computes in the kernel). -/
theorem image_signed (m : List Host.Cell) (slot : Nat) (hk : Config.romKey 0 = ownerKey) (hg : flashRead m (slot + 65440) 96 = imageSig)
    (hd : sha384 (flashRead m slot 65440) =
      0xdd8cfdd05e701f54210a462f9fff4c43c01cc9405edb14af06938c454bfd25f0d42bf2e8a68059464220a74512f8644e#384) :
    imageSigned m slot imageFive = true := by
  have e : slot + 65536 - 96 = slot + 65440 := by omega
  show ecdsaOk (Config.romKey 0) (sha384 (flashRead m slot (65536 - 96))) (flashRead m (slot + 65536 - 96) 96) = true
  rw [e, hk, hg, show (65536 : Nat) - 96 = 65440 from rfl, hd]
  decide +kernel

theorem image_sig_read : flashRead (imageFlash imageSig 0x73607fb6) (stagingSlot + 65440) 96 = imageSig ∧
    flashRead (imageFlash [] 0x5bd99297) (stagingSlot + 65440) 96 = List.replicate 96 0xFF#8 := by decide +kernel

/-- COMMIT: an image whose signature verifies is too old where the fuses say so; without a signature it is refused, and without a header. -/
theorem wit_UpdateRequests_commit :
    (∀ m, m = imageFlash imageSig 0x73607fb6 → imageSigned m stagingSlot imageFive = true →
      CommitFails { updHubOf 65536 1 m with flash := { (updHubOf 65536 1 m).flash with fused := 6 } } 9) ∧
    CommitFails (updHubOf 65536 1 (imageFlash [] 0x5bd99297)) 8 ∧ CommitFails (updHubOf 65536 1 (wholeFlash [] [] 0x5bd99297 0x5bd99297)) 7 := by
  refine ⟨?_, Or.inr ⟨imageFive, test_imageHead.2, rfl, Or.inl ⟨rfl, ?_⟩⟩, Or.inl ⟨rfl, ?_⟩⟩
  · rintro m rfl hs
    exact Or.inr ⟨imageFive, test_imageHead.1, rfl, Or.inr ⟨rfl, hs, Or.inl (by show 5 < 6; decide)⟩⟩
  · show ecdsaOk _ _ (flashRead (imageFlash [] 0x5bd99297) (stagingSlot + 65440) 96) = false
    rw [image_sig_read.2]
    exact erased_unsigned _ _
  · intro i hi
    have := Option.isNone_iff_eq_none.mp wit_UpdateRequests_headless.2
    rw [show (updHubOf 65536 1 (wholeFlash [] [] 0x5bd99297 0x5bd99297)).flash.mem = wholeFlash [] [] 0x5bd99297 0x5bd99297 from rfl, this] at hi
    cases hi

/-! #### Boot and swap -/

/-- A hub out of chip reset whose update is in a state. -/
def bootHub (st : Nat) (m : List Host.Cell) : Hub :=
  { updHub st m with aon := { (updHub st m).aon with held := false } }

theorem wit_BootAndSwap :
    ((bootHub 0 []).aon.held = false ∧ (bootHub 0 []).flash.booted = false ∧ (run (.bootImageVerify false) (bootHub 0 [])).inRecovery = true ∧
     (bootHub 0 []).goodImage activeSlot = none ∧ (bootHub 0 []).goodImage stagingSlot = none ∧
     (run (.bootImageVerify true) (bootHub 0 [])).inRecovery = true ∧ (run (.bootImageVerify true) (bootHub 2 [])).faults Flt.UPDFAIL 3 = 1 ∧
     (run (.bootImageVerify true) (bootHub 4 [])).flash.upd.state = 5 ∧ (run (.bootImageVerify true) (bootHub 3 [])).flash.upd.state = 3 ∧
     (run (.couchStepDone false) (bootHub 3 [])).flash.upd.step = 0 ∧ (bootHub 3 []).deferred = false) ∧
    (let h := late_ .trial (bootHub 4 [])
     h.due .trial = true ∧ (run .trialExpiry h).aon.kind = 6 ∧ (run .trialExpiry (late_ .trial (bootHub 1 []))).armed .trial = false) ∧
    (let h := flds [(Fld.PWR_SUPSTAT_SUPWARN, 1), (Fld.PWR_SUPSTAT_DEFER, 1)] (late_ .clrHold sealedHub)
     h.due .clrHold = true ∧ h.flash.waits = [] ∧ h.ploia = false ∧ (run .supplyWarningEnd h).rd Reg.PWR_CNT_RECOVER = 1#32 ∧
     (run .supplyWarningEnd h).deferred = false) ∧
    (let h := updHub 0 []
     let g : Hub := { h with clock := ms 2000, flash := { h.flash with waits := [(.abort, ploia, 0), (.confirm, ploia, ms 1500)] } }
     (run .deferTimeout g).flash.waits.length = 1 ∧ (run .deferTimeout g).out = [.answer .ploia (.result 10 [])]) := by decide +kernel

/-- The image in the active slot, or in the staging slot, starts where its signature verifies. -/
theorem wit_BootAndSwap_images (slot : Nat) (h : slot = activeSlot ∨ slot = stagingSlot) (m : List Host.Cell)
    (hm : m = cellsAt slot (imageWords 5) ++ cellsAt (slot + 65440) imageSig) (hs : imageSigned m slot imageFive = true) :
    (bootHub 2 m).goodImage slot = some imageFive := by
  have e : imageHead m slot = some imageFive := by
    subst hm
    rcases h with rfl | rfl <;> decide +kernel
  have f : (bootHub 2 m).flash.mem = m := rfl
  have u : (bootHub 2 m).flash.fused = 0 := rfl
  unfold Hub.goodImage
  rw [f, u, e]
  simp [hs]

end Sys2Proof.Tests

namespace Sys2Proof.Tests

set_option Elab.async false

open Machine

/-- A hub whose AON island runs, whose power entry is in a state, with the views of its comparators. -/
def pwrHub (st : Nat) (uvOk ovOk : Bool) : Hub :=
  let h := flds [(Fld.PWR_STATUS_STATE, st), (Fld.PWR_PIN1_VLIM_P, 40), (Fld.PWR_PIN1_PLIM_P, 200)] sealedHub
  { h with aon := { h.aon with up := true }, entry := { h.entry with uvOk := uvOk, ovOk := ovOk, uvR := true, ovR := false, gateA := true } }

theorem wit_FeedsAndWindow :
    (let h := (pwrHub 0 true true).set (feedBit 0) 1
     h.aon.up = true ∧ h.ready .adc = true ∧
     (let t := run (.peAdcSample 7000 24000 24000 100) h
      t.get Fld.PWR_MEAS0_FB = 2400 ∧ t.is (feedBit 1) = true ∧ t.faults Flt.PWRFEED 0 = 1 ∧ t.pst = .qualify) ∧
     (run (.peAdcSample 24000 24000 24000 100) (pwrHub 1 false true)).pst = .off ∧
     (run (.peAdcSample 24000 24000 24000 100) (late_ (.rev true) (pwrHub 0 false true))).faults Flt.PWRFEED 0 = 1) := by decide +kernel

theorem wit_FeedsAndWindow_2 :
    ((run (.uvovWindowChange true true) (pwrHub 0 false true)).pst = .qualify ∧ (run (.uvovWindowChange false true) (pwrHub 1 true true)).pst = .off ∧
     (run (.uvovWindowChange true false) (pwrHub 3 true true)).pst = .off ∧ (run (.uvovWindowChange true false) (pwrHub 3 true true)).get Fld.PWR_LAST_CAUSE = 5 ∧
     (run (.uvovWindowChange false true) (pwrHub 2 true true)).faults Flt.PWRUVOV 0 = 1 ∧
     (run (.uvovWindowChange false true) (pwrHub 5 true true)).pst = .off ∧ (run (.uvovWindowChange true false) (pwrHub 5 true true)).pst = .latched ∧
     (run (.uvovWindowChange true true) sealedHub).pst = .off) := by decide +kernel

theorem wit_FeedsAndWindow_3 :
    ((run (.feedReverse false) (pwrHub 3 true true)).entry.gateA = false ∧ (run (.feedReverse false) (pwrHub 3 true true)).rd Reg.PWR_CNT_REVA = 1#32 ∧
     (run (.feedReverse true) (pwrHub 3 true true)).rd Reg.PWR_CNT_REVB = 0#32 ∧ (run (.feedForwardResume true) (pwrHub 3 true true)).is (feedBit 3) = true) := by decide +kernel

theorem wit_FeedsAndWindow_4 :
    (let h := pwrHub 0 false true
     h.ready .pins = true ∧ (run (.pinDerive ⟨24000, 1000, 0, 16000, 10000⟩) h).get Fld.PWR_PIN0_UV_P = 288 ∧
     (run (.pinDerive ⟨24000, 1000, 0, 16000, 10000⟩) h).get Fld.PWR_PIN0_OV_P = 1023 ∧
     (run (.pinDerive ⟨24000, 1000, 0, 16000, 10000⟩) h).get Fld.PWR_PIN1_VLIM_P = 40 ∧
     (run (.pinDerive ⟨24000, 1000, 0, 3999, 10000⟩) h).is Fld.PWR_PIN1_PINERR = true) := by decide +kernel

theorem wit_FeedsAndWindow_5 :
    (let h := late_ .insertion (pwrHub 1 true true)
     h.due .insertion = true ∧ (run .insertionDelayEnd h).pst = .ramp ∧ (run .insertionDelayEnd (h.set Fld.PWR_PIN1_PINERR 1)).pst = .qualify) := by decide +kernel

theorem wit_FeedsAndWindow_6 :
    (let h := pwrHub 5 true true
     h.allows ploia Reg.PWR_CTL = true ∧ h.pst = .latched ∧ (run (.pwrRearm ploia 0x3C01#32) h).pst = .qualify ∧
     (run (.pwrRearm ploia 0x3C01#32) (pwrHub 5 true false)).pst = .off ∧ (run (.pwrRearm ploia 0x3D01#32) h).pst = .latched) := by decide +kernel

theorem wit_HotSwap :
    (let h := pwrHub 2 true true
     h.pst = .ramp ∧ h.ready .rampOn = true ∧ (run .rampComplete h).pst = .on ∧ (run .rampComplete h).is Fld.PWR_STATUS_EGOOD = true ∧
     (run .rampComplete h).aon.rails = 1 ∧ (run .rampComplete (h.set Fld.PWR_STATUS_REG 1)).pst = .ramp) := by decide +kernel

theorem wit_HotSwap_2 :
    ((late_ .ramp (pwrHub 2 true true)).due .ramp = true ∧ (run .rampTimeout (late_ .ramp (pwrHub 2 true true))).pst = .cool ∧
     (run .rampTimeout (late_ .ramp (pwrHub 2 true true))).get Fld.PWR_LAST_CAUSE = 4 ∧
     (run .rampTimeout (late_ .ramp (pwrHub 3 true true))).pst = .on) := by decide +kernel

theorem wit_HotSwap_3 :
    (let h := pwrHub 3 true true
     h.fetOn = true ∧ h.vlimf 8000 = 25000 ∧ h.atBound 8000 = false ∧ h.atBound 40000 = true ∧
     (run (.regulationEntry 25000 8000) h).is Fld.PWR_STATUS_REG = true ∧ (run (.regulationEntry 20000 40000) h).faults Flt.FOLDSAT 0 = 1 ∧
     (run (.regulationEntry 24999 8000) h).is Fld.PWR_STATUS_REG = false ∧
     (run .regulationEnd (h.set Fld.PWR_STATUS_REG 1)).is Fld.PWR_STATUS_REG = false ∧
     (run .regulationEnd ((pwrHub 2 true true).set Fld.PWR_STATUS_REG 1)).armed .rampOn = true) := by decide +kernel

theorem wit_HotSwap_4 :
    (let h := pwrHub 3 true true
     h.ftrip = 60000 ∧ (run (.fastTrip 60000) h).pst = .cool ∧ (run (.fastTrip 59999) h).pst = .on ∧ (run (.fastTrip 60000) h).log.ident.coolMs = 1000 ∧
     (run (.fastTrip 60000) h).get Fld.PWR_LAST_PEAK = 6000) := by decide +kernel

theorem wit_HotSwap_5 :
    (let h := late_ .tflt ((pwrHub 3 true true).set Fld.PWR_STATUS_REG 1)
     h.due .tflt = true ∧ (run .faultTimerExpiry h).pst = .cool ∧ (run .faultTimerExpiry (late_ .tflt (pwrHub 3 true true))).pst = .on) := by decide +kernel

theorem wit_HotSwap_b :
    (let h := pwrHub 3 true true
     h.aon.up = true ∧ h.ready .thermal = true ∧ h.tmax = 1500 ∧ (run (.thermalModelUpdate 1000 2000 1200) h).pst = .on ∧
     (run (.thermalModelUpdate 1000 2000 1200) h).entry.stress = 1 ∧
     (let g : Hub := { h with entry := { h.entry with d1 := 200 * 1000000000000 } }
      (run (.thermalModelUpdate 1000 2000 1200) g).pst = .cool ∧ (run (.thermalModelUpdate 1000 2000 1200) g).faults Flt.FETTEMP 0 = 1)) := by decide +kernel

theorem wit_HotSwap_b_2 :
    (let h := late_ .offTime (pwrHub 4 true true)
     h.due .offTime = true ∧ h.trestart = 1000 ∧ (run .offTimeEnd h).pst = .ramp ∧ (run .offTimeEnd h).get Fld.PWR_STATUS_RETRIES = 1 ∧
     (run .offTimeEnd (late_ .offTime (pwrHub 4 true false))).pst = .off ∧
     (let g := (h.set Fld.PWR_STATUS_RETRIES 200).set Fld.PWR_CFG_RETRYMAX 3
      g.pwr Fld.PWR_CFG_RETRYMAX = 3 ∧ (run .offTimeEnd g).pst = .latched ∧
      (run .offTimeEnd { g with entry := { g.entry with uvOk := false } }).pst = .off) ∧
     (run .offTimeEnd (h.set Fld.PWR_PIN1_PINERR 1)).pst = .cool) := by decide +kernel

theorem wit_HotSwap_b_3 :
    (let h := late_ .retryReset ((pwrHub 3 true true).set Fld.PWR_STATUS_RETRIES 2)
     h.due .retryReset = true ∧ (run .retryCountReset h).get Fld.PWR_STATUS_RETRIES = 0 ∧
     (run .retryCountReset (late_ .retryReset (pwrHub 4 true true))).pst = .cool) := by decide +kernel

theorem wit_HotSwap_b_4 :
    (let h := late_ .foldsat { sealedHub with entry := { sealedHub.entry with foldHeld := true } }
     h.due .foldsat = true ∧ (run .foldsatRelease h).entry.foldHeld = false) := by decide +kernel

end Sys2Proof.Tests

namespace Sys2Proof.Tests

set_option Elab.async false

open Machine

/-- A hub whose AON island runs, with n rails enabled and power-good as told. -/
def supHub (n : Nat) (good : Bool) : Hub :=
  let h := (pwrHub 3 true true).flag Fld.PWR_SUPSTAT_PGOOD good
  { h.set Fld.PWR_STATUS_EGOOD 1 with aon := { h.aon with rails := n, held := false, goodAt := some 0 } }

theorem wit_SequencingAndWarnings :
    ((run .railGoodStep (supHub 2 false)).aon.rails = 3 ∧ (run .railGoodStep (late_ .railTimeout (supHub 4 false))).armed .railTimeout = false ∧
     (run .powerGood (supHub 4 false)).pgood = true ∧ (run .railGoodStep (supHub 2 true)).aon.rails = 2) := by decide +kernel

theorem wit_SequencingAndWarnings_2 :
    (let h := late_ .railTimeout (supHub 3 false)
     h.due .railTimeout = true ∧ (run .railSeqTimeout h).aon.kind = 2 ∧ (run .railSeqTimeout h).aon.rails = 2 ∧
     (run .railSeqTimeout h).get Fld.PWR_RSTCAUSE_RAIL = 2 ∧ (run .railSeqTimeout h).get Fld.PWR_SUPSTAT_ATTEMPT = 1 ∧
     (run .railSeqTimeout (h.set Fld.PWR_SUPSTAT_ATTEMPT 2)).is Fld.PWR_SUPSTAT_HALTED = true ∧
     (run .railSeqTimeout (late_ .railTimeout (supHub 0 false))).armed .railTimeout = false) := by decide +kernel

theorem wit_SequencingAndWarnings_3 :
    ((run .seqRetry (late_ .seqRetry (supHub 0 false))).aon.rails = 1 ∧ (run .railResequence (late_ .resequence (supHub 0 false))).aon.rails = 1 ∧
     (run .seqRetry (supHub 0 false)).aon.rails = 0) := by decide +kernel

theorem wit_SequencingAndWarnings_4 :
    (let h := late_ .powerStep { supHub 2 false with aon := { (supHub 2 false).aon with dropping := true } }
     h.due .powerStep = true ∧ (run .powerDownStep h).aon.rails = 1 ∧ (run .powerDownStep (late_ .powerStep (supHub 2 false))).aon.rails = 2) := by decide +kernel

theorem wit_SequencingAndWarnings_5 :
    (let h := supHub 4 true
     let soon : Hub := { h with log := { h.log with flushLast := some 0 } }
     h.aon.up = true ∧ h.pgood = true ∧ h.halted = false ∧ h.flushSoon = false ∧
     (run (.supplyWarningBegin 1 0) soon).is Fld.PWR_SUPSTAT_SUPWARN = true ∧ (run (.supplyWarningBegin 0 8) h).is Fld.PWR_SUPSTAT_SUPWARN = false ∧
     (run (.supplyWarningBegin 1 0) (supHub 4 false)).is Fld.PWR_SUPSTAT_SUPWARN = false ∧
     (let w := h.set Fld.PWR_SUPSTAT_SUPWARN 1
      (run (.supplyWarningBegin 0 0) w).armed .clrHold = true ∧ (run (.supplyWarningBegin 0 16) (late_ .clrHold w)).armed .clrHold = false ∧
      (run (.supplyWarningBegin 0 0) (late_ .clrHold w)).timers = [(.clrHold, 0)])) := by decide +kernel

theorem wit_ResetKinds :
    (let h := supHub 4 true
     h.pgood = true ∧ (run (.railReset 2 true) h).aon.kind = 2 ∧ (run (.railReset 2 true) h).get Fld.PWR_RSTCAUSE_RAIL = 2 ∧
     (run (.railReset 2 true) h).aon.rails = 3 ∧ (run (.railReset 2 true) (h.set Fld.PWR_STATUS_EGOOD 0)).aon.kind = 1 ∧
     (run (.railReset 2 true) h).get Fld.PWR_SUPSTAT_ATTEMPT = 1 ∧ (run (.railReset 2 true) (supHub 4 false)).aon.rails = 4 ∧
     (run (.railReset 2 false) { h.set Fld.PWR_SUPSTAT_ATTEMPT 2 with clock := ms 10001 }).get Fld.PWR_SUPSTAT_ATTEMPT = 0) := by decide +kernel

theorem wit_ResetKinds_2 :
    (let h := late_ .egrst ((supHub 4 true).set Fld.PWR_STATUS_EGOOD 0)
     h.due .egrst = true ∧ (run .egrstExpiry h).aon.kind = 1 ∧ (run .egrstExpiry (late_ .egrst (supHub 4 true))).armed .egrst = false) := by decide +kernel

theorem wit_ResetKinds_3 :
    ((run .resetNFall (supHub 4 true)).aon.kind = 3 ∧ (run .resetNFall (supHub 4 false)).aon.held = false ∧
     (run .resetNRise (run .resetNFall (supHub 4 true))).aon.pinLow = false) := by decide +kernel

theorem wit_ResetKinds_4 :
    (let h := soonHub
     h.allows ploia Reg.PWR_RSTCTL = true ∧ (run (.orderlyResetOrder ploia 0x9601#32) h).aon.order = some 4 ∧
     (run (.orderlyResetOrder ploia 0x9501#32) h).aon.order = none ∧
     (let g : Hub := { supHub 4 true with aon := { (supHub 4 true).aon with order := some 4, flushed := true } }
      (run .orderlyResetEntry g).aon.kind = 4 ∧ (run .orderlyResetEntry (supHub 4 true)).aon.kind = 0)) := by decide +kernel

theorem wit_ResetKinds_5 :
    ((run .aonReset (supHub 4 true)).aon.up = false ∧ sealedHub.aon.up = false ∧ Hub.reset.log.currentIdentity = none ∧
     ({ Log.reset with idA := ({ Identity.zero with coolMs := 7 }, 1, 1) } : Log).currentIdentity = some { Identity.zero with coolMs := 7 }) := by decide +kernel

/-- A journal that holds one PWRTRIP record, beside no valid identity copy (R413). -/
theorem wit_ResetKinds_trip :
    Hub.reset.log.currentIdentity = none ∧
    ∃ r ∈ journalValid (memWrite [] 0xB020 ((⟨5, 2, 0, 0#80, 0⟩ : JRecord).octets 1)), r.2 = 5 := by
  refine ⟨by decide, (1, 5), ?_, rfl⟩
  exact List.mem_filterMap.mpr ⟨1, List.mem_range.mpr (by decide), by decide +kernel⟩

/-- Reset's empty journal holds no PWRTRIP record. -/
theorem wit_ResetKinds_journal : ∀ r ∈ journalValid Hub.reset.log.mem, r.2 ≠ 5 := by
  have z : ∀ a n, memRead ([] : List Host.Cell) a n = List.replicate n 0#8 := by
    intro a n
    apply List.ext_getElem
    · simp [memRead]
    · intro i h1 h2
      simp [memRead, Sparse.get, zeroByte]
  intro r hr
  simp only [journalValid, List.mem_filterMap] at hr
  obtain ⟨k, _, hk⟩ := hr
  have e : memRead Hub.reset.log.mem (0xB000 + 32 * k) 32 = List.replicate 32 0#8 := z _ _
  rw [e] at hk
  split at hk
  · cases hk
    decide
  · cases hk

end Sys2Proof.Tests


namespace Sys2Proof.Tests

set_option Elab.async false

open Machine

/-- A port that toggles with both roles open, its AON island running. -/
def freePort : Hub :=
  flds [(Fld.SVC_CFG_SRCOK, 1), (Fld.SVC_CFG_SNKOK, 1), (Fld.SVC_CFG_TRYSNK, 1), (Fld.PWR_STATUS_EGOOD, 1), (Fld.SVC_STATUS_PESTATE, 1)]
    { Hub.reset with aon := { Hub.reset.aon with up := true } }
/-- An attached port: role 1 sink, 2 source. -/
def port (role : Nat) : Hub := flds [(Fld.SVC_STATUS_ATTACHED, 1), (Fld.SVC_STATUS_ROLE, role), (Fld.SVC_STATUS_PESTATE, 4)] freePort
/-- A port that awaits an answer. -/
def asks (role : Nat) (w : SvcWait) : Hub := { port role with svc := { (port role).svc with wait := some w, request := some (2, 200, 180, false) } }
/-- A fixed PDO of a voltage (50 mV) and a current (10 mA). -/
def pdo_ (v a : Nat) : Word := BitVec.ofNat 32 (1024 * v + a)

theorem wit_ServicePortStates :
    (run (.ccAttach true 2 false true) (port 1) = port 1 ∧ freePort.is Fld.SVC_STATUS_ATTACHED = false ∧ freePort.peIs 7 = false ∧
     freePort.aon.up = true ∧ (run (.ccAttach true 2 true true) freePort).rd Reg.SVC_CNT_ACC = 1#32 ∧
     (let t := run (.ccAttach true 2 false true) { freePort with svc := { freePort.svc with rp := true } }
      t.get Fld.SVC_STATUS_ROLE = 1 ∧ t.get Fld.SVC_STATUS_RPLVL = 2 ∧ t.is Fld.SVC_STATUS_CCPOL = true ∧ t.logTotal 145 = 1) ∧
     (let t := run (.ccAttach false 2 false false) { freePort with svc := { freePort.svc with rp := true } }
      t.get Fld.SVC_STATUS_ROLE = 2 ∧ t.get Fld.SVC_STATUS_RPLVL = 0 ∧ t.svc.srcen = true ∧ t.out = [.pd .sourceCapabilities])) := by decide +kernel

theorem wit_ServicePortStates_2 :
    ((run .ccDetach (port 1)).is Fld.SVC_EVT_DETACH = true ∧ (run .ccDetach freePort).is Fld.SVC_EVT_DETACH = false ∧
     (run .vbusDetach (port 1)).is Fld.SVC_STATUS_ATTACHED = false ∧ (run .vbusDetach (port 2)).is Fld.SVC_STATUS_ATTACHED = true) := by decide +kernel

theorem wit_ServicePortStates_3 :
    (freePort.svcRoles = (true, true) ∧ (late_ .drp freePort).due .drp = true ∧ (run .drpToggle (late_ .drp freePort)).svc.rp = true ∧
     (run .drpToggle (late_ .drp (freePort.set Fld.PWR_STATUS_EGOOD 0))).peIs 0 = true ∧
     (run .drpToggle (late_ .drp (port 1))).timers = [] ∧ (run .drpToggle freePort).svc.rp = false) := by decide +kernel

theorem wit_ServicePortStates_4 :
    ((run .pdSoftResetRx (port 2)).out = [.pd .sourceCapabilities, .pd .accept] ∧ (run .pdSoftResetRx (port 1)).peIs 2 = true ∧
     (run .pdSoftResetRx freePort).out = [] ∧ (run .pdHardResetRx (port 1)).peIs 6 = true ∧ (run .pdHardResetRx (port 1)).svc.hard = 1 ∧
     (run .pdHardResetRx (run .pdHardResetRx (port 1))).peIs 7 = true ∧ (run .pdHardResetRx freePort).svc.hard = 0) := by decide +kernel

theorem wit_ServicePortStates_5 :
    ((run .senderResponseTimeout (late_ .sender (asks 1 .soft))).out = [.pd .hardReset] ∧
     (run .senderResponseTimeout (late_ .sender (asks 1 .answer))).out = [.pd .softReset] ∧
     (run .senderResponseTimeout (late_ .sender (asks 1 .answer))).rd Reg.SVC_CNT_NOREPLY = 1#32 ∧
     (run .senderResponseTimeout (port 1)).out = [] ∧ (run .sinkWaitCapTimeout (late_ .capWait (port 1))).out = [.pd .hardReset] ∧
     (run .sinkWaitCapTimeout (late_ .capWait (port 2))).timers = [] ∧ (run .sinkWaitCapTimeout (port 1)).out = []) := by decide +kernel

theorem wit_ServicePortStates_6 :
    ((run .psTransitionTimeout (late_ .psTransition (port 1))).faults Flt.SVCPD 0 = 1 ∧ (run .psTransitionTimeout (port 1)).out = [] ∧
     (run .errorRecoveryEnd (late_ .recovery (freePort.pe 7))).peIs 1 = true ∧
     (run .errorRecoveryEnd (late_ .recovery (port 1))).timers = [] ∧ (run .errorRecoveryEnd (freePort.pe 7)).peIs 7 = true) := by decide +kernel

theorem wit_ServicePortStates_7 :
    ((port 1).svcMv = 5000 ∧ (run (.vbusOvervoltage 5501) (port 1)).is Fld.SVC_EVT_VBUSOV = true ∧
     (run (.vbusOvervoltage 5500) (port 1)).is Fld.SVC_EVT_VBUSOV = false ∧ (run (.vbusOvervoltage 9000) (port 2)).is Fld.SVC_EVT_VBUSOV = false ∧
     (run .sourceOcp (port 2)).peIs 7 = true ∧ (run .sourceOcp (port 1)).peIs 7 = false) := by decide +kernel

theorem wit_ServicePortContracts :
    (let h := flds [(Fld.SVC_SNKCFG_VMAX, 10), (Fld.SVC_SNKCFG_IOP, 200)] (port 1)
     let t := run (.pdSourceCapsRx [pdo_ 100 300, pdo_ 180 200, pdo_ 300 300]) h
     t.rd (Reg.SVC_SRCCAP 2) = pdo_ 300 300 ∧ t.svc.request = some (2, 200, 180, false) ∧
     (run (.pdSourceCapsRx [pdo_ 100 100]) h).svc.request = some (1, 100, 100, true) ∧
     (run (.pdSourceCapsRx [pdo_ 100 100]) (flds [(Fld.SVC_OVRREQ_EN, 1), (Fld.SVC_OVRREQ_PDO, 1), (Fld.SVC_OVRREQ_CURR, 70)] h)).svc.request =
       some (1, 70, 100, false) ∧
     (run (.pdSourceCapsRx [pdo_ 100 100]) (flds [(Fld.SVC_OVRREQ_EN, 1), (Fld.SVC_OVRREQ_PDO, 2)] h)).is Fld.SVC_EVT_OVRBAD = true ∧
     (run (.pdSourceCapsRx [pdo_ 100 100]) (port 2)).svc.request = none) := by decide +kernel

theorem wit_ServicePortContracts_2 :
    ((port 2).svc.todo = none ∧ (run (.pdRequestRx 1 150#10) (port 2)).get Fld.SVC_CONTRACT_VOLT = 100 ∧
     (run (.pdRequestRx 1 151#10) (port 2)).out = [.pd .reject] ∧ (run (.pdRequestRx 2 10#10) (port 2)).out = [.pd .reject] ∧
     (run (.pdRequestRx 1 150#10) (port 1)).out = [] ∧
     (run .pdAcceptRx (asks 1 .answer)).peIs 5 = true ∧ (run .pdAcceptRx (asks 1 .soft)).peIs 2 = true ∧
     (run .pdAcceptRx (port 1)).peIs 4 = true) := by decide +kernel

theorem wit_ServicePortContracts_3 :
    (let a := asks 1 .answer
     let soon : Hub := { a with svc := { a.svc with todo := some 3 } }
     (run .pdRejectRx a).peIs 2 = true ∧ (run .pdRejectRx soon).peIs 7 = true ∧ soon.is Fld.SVC_STATUS_ATTACHED = true ∧
     a.is Fld.SVC_CFG_WAITMODE = false ∧ (run .pdWaitRx a).svc.waits = 1 ∧ (run .pdWaitRx a).armed .sinkRequest = true ∧
     (run .pdWaitRx (a.set Fld.SVC_CFG_WAITMODE 1)).is Fld.SVC_EVT_WAITGIVEUP = true ∧
     (run .pdRejectRx (port 1)).peIs 4 = true ∧ (run .pdWaitRx (port 1)).svc.waits = 0) := by decide +kernel

theorem wit_ServicePortContracts_4 :
    (let p : Hub := { port 1 with svc := { (port 1).svc with request := some (2, 200, 180, false) } }
     (run .waitRetry (late_ .sinkRequest p)).out = [.pd (.request 2 200 false)] ∧ (run .waitRetry (late_ .sinkRequest (port 1))).timers = [] ∧
     (run .waitRetry p).out = [] ∧ (p.pe 5).svc.todo = none ∧ (run .pdPsRdyRx (p.pe 5)).get Fld.SVC_CONTRACT_VOLT = 180 ∧
     (run .pdPsRdyRx (p.pe 5)).get Fld.SVC_CONTRACT_CURR = 200 ∧ (run .pdPsRdyRx p).is Fld.SVC_STATUS_CONTRACT = false) := by decide +kernel

theorem wit_ServicePortContracts_5 :
    ((run .pdGetSourceCapRx (port 1)).out = [.pd .sourceCapabilities] ∧ (run .pdUnsupportedRx freePort).out = [] ∧
     (port 1).preSeal ploia = false ∧ (port 1).svcBusy = false ∧ (sealedHub.preSeal hostNs = false) ∧
     (run (.svcHardreset hostNs) ((port 1).set Fld.CHIP_SEAL_SEALED 1)).faults Flt.WORLD 3 = 1 ∧
     (run (.svcHardreset ploia) (asks 1 .answer)).svc.todo = some 2 ∧ (run (.svcErrorrecovery ploia) freePort).peIs 1 = true) := by decide +kernel

theorem wit_ServicePortContracts_6 :
    ((run (.svcRenegotiate ploia) ((port 1).wr (Reg.SVC_SRCCAP 0) (pdo_ 100 300))).svc.wait = some .answer ∧
     (run (.svcRenegotiate ploia) (port 1)).svc.wait = none ∧ (run (.svcHardreset ploia) (port 1)).out = [.pd .hardReset] ∧
     (run (.svcErrorrecovery ploia) (port 1)).peIs 7 = true) := by decide +kernel

theorem wit_ManagementOverThePort :
    (let w := (port 1).set Fld.SVC_STATUS_PLOIA 1
     let held : Hub := { w with svc := { w.svc with busy := true } }
     run .svcIdent freePort = freePort ∧ (run .svcIdent held).out = [.answer .service .refuseBusy] ∧
     (run (.svcVdmRequest [7#8]) w).out = [.octets 2 [] [7#8]] ∧ w.ploia = true ∧ (port 1).ploia = false ∧
     (run (.svcVdmRequest [7#8]) (port 1)).out = [.answer .service .refuseNotReady] ∧
     (run (.svcLogread 0x3FFFF 1) (port 1)).out = [.answer .service (.data [0#8])] ∧
     (run (.svcLogread 0x3FFFF 2) (port 1)).out = [.answer .service .refuseNotReady] ∧
     (run (.svcLogread 0 257) (port 1)).out = [.answer .service .refuseNotReady] ∧
     (run .svcIdent (port 1)).rd Reg.SVC_CNT_VDEM = 1#32) := by decide +kernel

theorem wit_ManagementOverThePort_2 :
    (let h : Hub := { port 1 with halted := true }
     run (.mgmtSessionOpen ploia 2#8 0#8) h = h ∧ (run (.mgmtSessionOpen ploia 1#8 9#8) (port 1)).out = [.answer .ploia .refuseVersion] ∧
     (run (.mgmtSessionOpen ploia 2#8 2#8) (port 1)).out = [.answer .ploia (.version 2 2)] ∧
     (run (.mgmtSessionOpen ploia 3#8 0#8) (port 1)).out = [.answer .ploia (.version 2 3)] ∧
     (run .mgmtHalt ((port 1).set Fld.SVC_STATUS_PLOIA 1)).ploia = false ∧ (run .mgmtHalt (port 1)).faults Flt.MGMTHALT 3 = 1) := by decide +kernel

end Sys2Proof.Tests
end

section
/-! SUPPORT. Frames: which registers and memories an update leaves as they were, one rule for each update of the hub. -/

namespace Sys2Proof.Machine

/-- The registers outside a set and the addressed memories read as before. -/
def FrameKept (h t : Hub) (p : Nat → Bool) : Prop := RegsKept h t p ∧ MemKept h t

variable {h g t : Hub} {p : Nat → Bool}

/-- An update that writes no register and no memory keeps every frame. -/
theorem FrameKept.of_fields (hr : t.regs = h.regs) (hs : t.sw.vat = h.sw.vat) (hl : t.log = h.log) (hf : t.flash = h.flash) :
    FrameKept h t p :=
  ⟨fun a _ => by unfold Hub.rd; rw [hr], hs, by rw [hl], by rw [hf]⟩

theorem FrameKept.refl (h : Hub) (p : Nat → Bool) : FrameKept h h p := .of_fields rfl rfl rfl rfl

theorem FrameKept.trans (hg : FrameKept h g p) (ht : FrameKept g t p) : FrameKept h t p :=
  ⟨fun a ha => (ht.1 a ha).trans (hg.1 a ha), ht.2.1.trans hg.2.1, ht.2.2.1.trans hg.2.2.1, ht.2.2.2.trans hg.2.2.2⟩

/-- A fold keeps a frame that each of its steps keeps. -/
theorem FrameKept.foldl {α : Type} (f : Hub → α → Hub) (hf : ∀ g x, FrameKept g (f g x) p) (l : List α) (h : Hub) :
    FrameKept h (l.foldl f h) p := by
  induction l generalizing h with
  | nil => exact .refl h p
  | cons x l ih => exact (hf h x).trans (ih _)

theorem Hub.wr_frame (h : Hub) {a : Nat} (v : Word) (ha : p a = true) : FrameKept h (h.wr a v) p :=
  ⟨fun _ hb => h.rd_wr_ne v fun e => Bool.noConfusion (ha.symm.trans (e ▸ hb)), rfl, rfl, rfl⟩

theorem Hub.note_frame (h : Hub) (a : Nat) (m : Word) (k : Nat) : FrameKept h (h.note a m k) p := .of_fields rfl rfl rfl rfl

theorem Hub.set_frame (h : Hub) (f : Field) (v : Nat) (ha : p f.reg = true) : FrameKept h (h.set f v) p := h.wr_frame _ ha

theorem Hub.evt_frame (h : Hub) (f : Field) (ha : p f.reg = true) : FrameKept h (h.evt f) p :=
  (h.note_frame _ _ _).trans (Hub.set_frame _ f 1 ha)

theorem Hub.countBy_frame (h : Hub) {a : Nat} (k : Nat) (ha : p a = true) : FrameKept h (h.countBy a k) p :=
  (h.note_frame _ _ _).trans (Hub.wr_frame _ _ ha)

/-- A fault event touches what the crossing holds, and of the registers those of R297. -/
theorem Hub.raise_eq (h : Hub) (src island unit a b : Nat) : h.raise src island unit a b =
    { h with faultsIn := (h.raise src island unit a b).faultsIn, fresh := (h.raise src island unit a b).fresh,
             regs := (h.raise src island unit a b).regs } := by
  unfold Hub.raise Hub.raiseK
  cases Assoc.get h.faultsIn (src, island) with
  | none => rfl
  | some x =>
    by_cases hc : x.count + 1 ≤ 65535
    · simp only [hc, if_true]
    · simp only [hc, if_false]; rfl

@[simp] theorem Hub.raise_xwaits (h : Hub) (src island unit a b : Nat) : (h.raise src island unit a b).xwaits = h.xwaits := by
  rw [h.raise_eq]

theorem Hub.raise_frame (h : Hub) (src island unit a b : Nat) (hp : ∀ r, satReg r = true → p r = true) :
    FrameKept h (h.raise src island unit a b) p := by
  refine ⟨fun r hr => h.raise_rd _ _ _ _ _ r ?_, ?_⟩
  · cases hs : satReg r with
    | false => rfl
    | true => rw [hp r hs] at hr; cases hr
  · rw [h.raise_eq]; exact ⟨rfl, rfl, rfl⟩

/-- R95: PRESEAL counts one and holds at its largest value. -/
theorem Hub.countPreSeal_get (h : Hub) : h.countPreSeal.get Fld.CHIP_SEAL_PRESEAL = min 65535 (h.get Fld.CHIP_SEAL_PRESEAL + 1) := by
  have hw : Fld.CHIP_SEAL_PRESEAL.width = 16 := rfl
  unfold Hub.countPreSeal
  rw [Hub.countField_eq, h.get_set_same _ _ (by decide), hw]
  omega

theorem Hub.countPreSeal_frame (h : Hub) (ha : p Reg.CHIP_SEAL = true) : FrameKept h h.countPreSeal p :=
  h.set_frame Fld.CHIP_SEAL_PRESEAL _ ha

/-- A command that answers the hub t completes with what holds of t. -/
theorem completes_of_exec {c : Instr} {q : List Instr} {P : Hub → Prop} (he : exec c ⟨q, h⟩ = .next ⟨q, t⟩) (hp : P t) :
    Completes c ⟨q, h⟩ P := ⟨_, he, rfl, hp⟩

end Sys2Proof.Machine
end

section
/-! SUPPORT. Octet strings, the word that an aligned access touches, and its world. -/

namespace Sys2Proof.Machine

theorem leBytes_length (n v : Nat) : (leBytes n v).length = n := by
  induction n generalizing v with
  | zero => rfl
  | succ n ih => simp [leBytes, ih]

/-- Octets spell the number they were taken from, as far as they reach. -/
theorem ofLe_leBytes (n v : Nat) : ofLe (leBytes n v) = v % 256 ^ n := by
  induction n generalizing v with
  | zero => simp [leBytes, ofLe, Nat.mod_one]
  | succ n ih =>
    have hp : 256 ^ (n + 1) = 256 * 256 ^ n := Nat.pow_succ'
    rw [leBytes, ofLe, ih, BitVec.toNat_ofNat, hp]
    exact Nat.mod_mul.symm

theorem slice_all (l : List Byte) : slice l 0 l.length = l := by simp [slice]

theorem wordsOf_word {a : Nat} (h4 : a % 4 = 0) : wordsOf a 4 = [a] := by
  have hn : (a % 4 + 4 + 3) / 4 = 1 := by omega
  have ha : a / 4 * 4 = a := by omega
  simp [wordsOf, hn, ha]

theorem dataWords_word {a : Nat} (h4 : a % 4 = 0) (v : Word) : dataWords a (leBytes 4 v.toNat) = [(a, v)] := by
  have hs : slice (leBytes 4 v.toNat) 0 4 = leBytes 4 v.toNat := by
    simpa [leBytes_length] using slice_all (leBytes 4 v.toNat)
  have hv : BitVec.ofNat 32 (v.toNat % 256 ^ 4) = v := BitVec.eq_of_toNat_eq (by rw [BitVec.toNat_ofNat]; omega)
  simp only [dataWords, leBytes_length, wordsOf_word h4, List.map_cons, List.map_nil, Nat.sub_self, hs, ofLe_leBytes, hv]

theorem regShape_word {a : Nat} (h4 : a % 4 = 0) (hl : a < 0x1000000) : regShape a 4 = (regRow a).isSome := by
  simp [regShape, wordsOf_word h4, h4, hl]

theorem Hub.allows_iff (h : Hub) (req : Req) (a : Nat) : h.allows req a = true ↔ h.preSeal req = false ∧ h.mayAccess req a = true := by
  simp [Hub.allows]

/-- R90: a word of a page that the request may access is not refused. -/
theorem Hub.worldBarsWord_of_mayAccess (h : Hub) (req : Req) {a : Nat} (hl : a < 0x1000000) (hm : h.mayAccess req a = true) :
    h.worldBarsWord req a = false := by
  unfold Hub.worldBarsWord Hub.itemWorld
  rw [if_pos hl]
  cases hs : req.secure with
  | true => rfl
  | false =>
    have hp : h.pageSecure (a / 0x10000) = false := by simpa [Hub.mayAccess, hs] using hm
    rw [hp]
    split <;> rfl

/-- R90: a word of a page with registers that the request may not access is refused. -/
theorem Hub.worldBarsWord_of_not_mayAccess (h : Hub) (req : Req) {a : Nat} (hl : a < 0x1000000) (hm : h.mayAccess req a = false)
    (hp : (pageRows (a / 0x10000)).isEmpty = false) : h.worldBarsWord req a = true := by
  simp only [Hub.mayAccess, Bool.or_eq_false_iff, Bool.not_eq_false'] at hm
  simp [Hub.worldBarsWord, Hub.itemWorld, hl, hm, hp]

end Sys2Proof.Machine
end

section
/-! Register writes (O7). -/

namespace Sys2Proof.Machine

variable {h : Hub} {req : Req} {a : Nat}

/-! ### How a write of one word is judged -/

theorem Hub.localWrite_accepted (h4 : a % 4 = 0) (hl : a < 0x1000000) (hm : h.mayAccess req a = true) (hr : (regRow a).isSome = true)
    (v : Word) (fa : Nat) : (h.localWrite req a (leBytes 4 v.toNat) false fa).2 = h.regWrite req a v := by
  have hb := h.worldBarsWord_of_mayAccess req hl hm
  simp [Hub.localWrite, leBytes_length, wordsOf_word h4, dataWords_word h4, regShape_word h4 hl, hb, hr, Hub.regWrites]

theorem Hub.localWrite_undecoded (h4 : a % 4 = 0) (hl : a < 0x1000000) (hm : h.mayAccess req a = true) (masked : Bool)
    (hr : masked = true ∨ regRow a = none) (v : Word) (fa : Nat) :
    (h.localWrite req a (leBytes 4 v.toNat) masked fa).2 = h.decodeRefused req fa := by
  have hb := h.worldBarsWord_of_mayAccess req hl hm
  have hs : ((regRow a).isSome && !masked) = false := by rcases hr with hr | hr <;> simp [hr]
  simp only [Hub.localWrite, leBytes_length, wordsOf_word h4, regShape_word h4 hl, List.any_cons, List.any_nil, hb, hs,
    Bool.or_false, Bool.false_eq_true, if_false]

theorem Hub.localWrite_barred (h4 : a % 4 = 0) (hl : a < 0x1000000) (hm : h.mayAccess req a = false)
    (hp : (pageRows (a / 0x10000)).isEmpty = false) (hu : unitAt a = none) (masked : Bool) (v : Word) (fa : Nat) :
    (h.localWrite req a (leBytes 4 v.toNat) masked fa).2 = h.refuseWorld req fa := by
  have hb := h.worldBarsWord_of_not_mayAccess req hl hm hp
  simp [Hub.localWrite, leBytes_length, wordsOf_word h4, dataWords_word h4, hb, Hub.denyAt, hu, Hub.worldRefused]

/-! ### What a write without behaviour of its own does -/

/-- A write of a register without behaviour of its own reaches its fields, is lost behind a STOPPED crossing (R301), or waits for one that is in
RESET or RESYNC. -/
theorem Hub.regWrite_plain (ho : ownWrite a = false) (v : Word) : h.regWrite req a v =
    if h.islandStopped (regIsland a) then h.lostWrite a v
    else if h.islandWaits (regIsland a) then h.writeWaits (regIsland a) req a v
    else h.fieldWrite a v fullMask := by
  have hm : a % 0x10000 % 0x1000 = a % 0x1000 := Nat.mod_mod_of_dvd a (by decide)
  replace ho := Bool.eq_false_iff.mp ho
  simp only [ownWrite, Bool.or_eq_true, Bool.and_eq_true, decide_eq_true_eq, not_or, List.contains_cons, beq_iff_eq, ne_eq,
    Bool.not_eq_true, Option.isSome_eq_false_iff, Option.isNone_iff_eq_none] at ho
  have hsrc : ¬(0x211000 ≤ a ∧ a < 0x211800 ∧ a % 16 = 0) := fun ⟨hlo, hhi, _⟩ => ho.2 ⟨hlo, hhi⟩
  simp only [Hub.regWrite, Hub.timeWrite, Hub.fltWrite, hm, hsrc, ho, Bool.false_eq_true, false_and, if_false, ite_self]

/-- The two registers of R297 have no sealed field. -/
theorem rwsBits_of_satReg (hs : satReg a = true) : rwsBits a = 0#32 := by
  have ha : a = Reg.ISL_CNT_EVSAT ∨ a = Reg.ISL_EVT := by simpa [satReg] using hs
  rcases ha with rfl | rfl <;> decide

theorem Hub.satReg_of_breaksSeal {v m : Word} (hb : h.breaksSeal a v m = true) : satReg a = false := by
  cases hs : satReg a with
  | false => rfl
  | true => simp [Hub.breaksSeal, rwsBits_of_satReg hs] at hb

/-- The word that a register holds after a write, whether or not R94 has kept a sealed field. -/
theorem Hub.fieldWrite_rd (h : Hub) (a : Nat) (v m : Word) : (h.fieldWrite a v m).rd a =
    mergedWord a (h.rd a) v m (if h.sealed_ then rwBits a else rwBits a ||| rwsBits a) (h.kept a) := by
  unfold Hub.fieldWrite
  cases hb : h.breaksSeal a v m with
  | false => exact Hub.rd_wr_same _ _ _
  | true => exact (Hub.raise_rd _ _ _ _ _ _ _ (Hub.satReg_of_breaksSeal hb)).trans (Hub.rd_wr_same _ _ _)

/-- R12, R13: a bit of a register after a whole-word write. -/
theorem Hub.fieldWrite_bit (h : Hub) (a : Nat) (v : Word) {k : Nat} (hk : k < 32) : ((h.fieldWrite a v fullMask).rd a).getLsbD k =
    ((if (rwBits a).getLsbD k || ((rwsBits a).getLsbD k && !h.sealed_) then v.getLsbD k else (h.rd a).getLsbD k) &&
      !(v.getLsbD k && (w1cBits a).getLsbD k && !(h.kept a).getLsbD k)) := by
  have hm : fullMask.getLsbD k = true := by
    have hf : fullMask = BitVec.allOnes 32 := rfl
    rw [hf, BitVec.getLsbD_allOnes, decide_eq_true hk]
  have hsel (old new w : Bool) : (old && !w || new && w) = if w then new else old := by cases w <;> simp
  rw [h.fieldWrite_rd, mergedWord]
  simp only [BitVec.getLsbD_and, BitVec.getLsbD_or, BitVec.getLsbD_not, hk, hm, hsel, decide_true, Bool.true_and, Bool.and_true]
  cases h.sealed_ with
  | false => simp only [Bool.false_eq_true, if_false, BitVec.getLsbD_or, Bool.not_false, Bool.and_true]
  | true => simp only [if_true, Bool.not_true, Bool.and_false, Bool.or_false]

theorem Hub.fieldWrite_raised (h : Hub) {a : Nat} {v m : Word} (hb : h.breaksSeal a v m = true) :
    Raised h (h.fieldWrite a v m) Flt.SEALWR 3 := by
  unfold Hub.fieldWrite
  simp only [hb, if_true]
  exact Hub.raise_raised _ _ _ _ _ _

theorem Hub.fieldWrite_faultsIn (h : Hub) {a : Nat} {v m : Word} (hb : h.breaksSeal a v m = false) :
    (h.fieldWrite a v m).faultsIn = h.faultsIn := by
  unfold Hub.fieldWrite
  simp only [hb, Bool.false_eq_true, if_false]
  rfl

theorem Hub.fieldWrite_frame (h : Hub) (a : Nat) (v m : Word) : FrameKept h (h.fieldWrite a v m) (fun x => x == a || satReg x) := by
  have hw (w : Word) : FrameKept h (h.wr a w) (fun x => x == a || satReg x) := h.wr_frame w (by simp)
  unfold Hub.fieldWrite
  cases h.breaksSeal a v m with
  | false => exact hw _
  | true => exact (hw _).trans (Hub.raise_frame _ _ _ _ _ _ fun r hr => by simp [hr])

theorem Hub.lostWrite_frame (h : Hub) (a : Nat) (v : Word) : FrameKept h (h.lostWrite a v) satReg := by
  unfold Hub.lostWrite
  split
  · exact h.raise_frame _ _ _ _ _ fun _ hr => hr
  · exact .refl h _

theorem Hub.lostWrite_xwaits (h : Hub) (a : Nat) (v : Word) : (h.lostWrite a v).xwaits = h.xwaits := by
  unfold Hub.lostWrite
  split
  · exact h.raise_xwaits _ _ _ _ _
  · rfl

/-! ### The command -/

section
variable {q : List Instr} {a : BitVec 36} {v : Word} {be : BitVec 4}

theorem exec_registerWrite_preSeal (hs : h.preSeal req = true) : exec (.registerWrite req a v be) ⟨q, h⟩ = .next ⟨q, h.countPreSeal⟩ := by
  show execRegisterWrite req a v be ⟨q, h⟩ = _
  simp only [execRegisterWrite, State.on_eq, hs, if_true]

theorem exec_registerWrite_judged (hs : h.preSeal req = false) : exec (.registerWrite req a v be) ⟨q, h⟩ =
    .next ⟨q, (h.localWrite req a.toNat (leBytes 4 v.toNat) (decide (be ≠ 0xF#4)) a.toNat).2⟩ := by
  show execRegisterWrite req a v be ⟨q, h⟩ = _
  simp only [execRegisterWrite, State.on_eq, hs, Bool.false_eq_true, if_false]

variable (h4 : a.toNat % 4 = 0) (hl : a.toNat < 0x1000000)
include h4 hl

theorem exec_registerWrite_accepted (ha : h.allows req a.toNat = true) (hr : (regRow a.toNat).isSome = true) :
    exec (.registerWrite req a v 0xF#4) ⟨q, h⟩ = .next ⟨q, h.regWrite req a.toNat v⟩ := by
  obtain ⟨hs, hm⟩ := (h.allows_iff req _).mp ha
  rw [exec_registerWrite_judged hs, decide_eq_false (not_not_intro rfl), Hub.localWrite_accepted h4 hl hm hr]

theorem exec_registerWrite_undecoded (ha : h.allows req a.toNat = true) (hd : be ≠ 0xF#4 ∨ regRow a.toNat = none) :
    exec (.registerWrite req a v be) ⟨q, h⟩ = .next ⟨q, h.decodeRefused req a.toNat⟩ := by
  obtain ⟨hs, hm⟩ := (h.allows_iff req _).mp ha
  rw [exec_registerWrite_judged hs, Hub.localWrite_undecoded h4 hl hm _ (hd.imp_left decide_eq_true)]

theorem exec_registerWrite_barred (hs : h.preSeal req = false) (hm : h.mayAccess req a.toNat = false) (hu : unitAt a.toNat = none)
    (hp : (pageRows (a.toNat / 0x10000)).isEmpty = false) :
    exec (.registerWrite req a v be) ⟨q, h⟩ = .next ⟨q, h.refuseWorld req a.toNat⟩ := by
  rw [exec_registerWrite_judged hs, Hub.localWrite_barred h4 hl hm hp hu]

end

/-- Settles O7: R95, R90 and R83 judge the write in turn; what they let pass reaches the fields of a register without behaviour of its own,
unless the crossing to its island keeps it. -/
theorem registerWrites : Obligations.RegisterWrites := by
  unfold Obligations.RegisterWrites
  intro h q req a v be h4 hl
  refine ⟨fun ha hbe hr ho => ?_, fun ha hd => ?_, fun hs hm hu hp => ?_, fun hs => ?_⟩
  · subst hbe
    have he := exec_registerWrite_accepted (q := q) (v := v) h4 hl ha hr
    rw [Hub.regWrite_plain ho] at he
    refine ⟨fun hst hwt => ?_, fun hst => ?_, fun hst hwt => ?_⟩
    · rw [hst, hwt] at he
      exact completes_of_exec he
        ⟨fun k hk => h.fieldWrite_bit _ v hk, h.fieldWrite_raised, h.fieldWrite_faultsIn, h.fieldWrite_frame _ v _⟩
    · rw [hst] at he
      obtain ⟨hregs, hmem⟩ := h.lostWrite_frame a.toNat v
      exact completes_of_exec he ⟨hregs, hmem, h.lostWrite_xwaits _ v⟩
    · rw [hst, hwt] at he
      exact completes_of_exec he ⟨rfl, FrameKept.of_fields rfl rfl rfl rfl⟩
  · exact completes_of_exec (exec_registerWrite_undecoded h4 hl ha hd)
      ⟨h.raise_raised _ _ _ _ _, h.raise_frame _ _ _ _ _ fun _ hr => hr⟩
  · exact completes_of_exec (exec_registerWrite_barred h4 hl hs hm hu hp)
      ⟨h.raise_raised _ _ _ _ _, h.raise_frame _ _ _ _ _ fun _ hr => hr⟩
  · exact completes_of_exec (exec_registerWrite_preSeal hs) ⟨h.countPreSeal_get, rfl, h.countPreSeal_frame (by simp)⟩

end Sys2Proof.Machine
end

section
/-! SUPPORT. What offers, routes, vectors, PCIe writes and completions leave alone, and what they put out (R183 to R188, R204 to R210). -/

namespace Sys2Proof.Machine

variable {h t : Hub} {p : Nat → Bool}

/-! ### Folds -/

/-- What every step of a fold leaves alone, the fold leaves alone. -/
theorem foldl_keeps {α β : Type} (φ : Hub → β) (f : Hub → α → Hub) (hf : ∀ g x, φ (f g x) = φ g) (l : List α) (h : Hub) :
    φ (l.foldl f h) = φ h := by
  induction l generalizing h with
  | nil => rfl
  | cons x l ih => rw [List.foldl_cons, ih, hf]

/-! ### Offers and routes -/

@[simp] theorem Hub.offer_offered (h : Hub) (inp : Nat) (f : Frame) (outs : List Nat) (transit release : Bool) :
    (h.offer inp f outs transit release).sw.offered =
      h.sw.offered ++ [⟨h.sw.nextFid, h.sw.nextFid, inp, f.marked false, outs, transit, release, none, false, none⟩] := rfl

@[simp] theorem Hub.offer_host (h : Hub) (inp : Nat) (f : Frame) (outs : List Nat) (transit release : Bool) :
    (h.offer inp f outs transit release).host = h.host := rfl
@[simp] theorem Hub.offer_xact (h : Hub) (inp : Nat) (f : Frame) (outs : List Nat) (transit release : Bool) :
    (h.offer inp f outs transit release).xact = h.xact := rfl

theorem Hub.offer_frame (h : Hub) (inp : Nat) (f : Frame) (outs : List Nat) (transit release : Bool) :
    FrameKept h (h.offer inp f outs transit release) p := .of_fields rfl rfl rfl rfl

theorem Hub.withXact_frame (h : Hub) (x : Xact) : FrameKept h { h with xact := x } p := .of_fields rfl rfl rfl rfl

theorem Hub.nextSeq_frame (h : Hub) (stream : Nat) : FrameKept h (h.nextSeq stream).2 p := .of_fields rfl rfl rfl rfl

@[simp] theorem Hub.nextSeq_sw (h : Hub) (stream : Nat) : (h.nextSeq stream).2.sw = h.sw := rfl
@[simp] theorem Hub.nextSeq_host (h : Hub) (stream : Nat) : (h.nextSeq stream).2.host = h.host := rfl
@[simp] theorem Hub.nextSeq_xact (h : Hub) (stream : Nat) : (h.nextSeq stream).2.xact = h.xact := rfl

@[simp] theorem Hub.guessed_sw (h : Hub) (g : Bool) : (h.guessed g).sw = h.sw := by cases g <;> rfl
@[simp] theorem Hub.guessed_host (h : Hub) (g : Bool) : (h.guessed g).host = h.host := by cases g <;> rfl
@[simp] theorem Hub.guessed_xact (h : Hub) (g : Bool) : (h.guessed g).xact = h.xact := by cases g <;> rfl

theorem Hub.guessed_frame (h : Hub) (g : Bool) (hc : p Reg.XB_CNT_GUESS = true) (he : p Reg.XB_EVT = true) : FrameKept h (h.guessed g) p := by
  cases g with
  | false => exact .refl h p
  | true => exact (h.countBy_frame 1 hc).trans (Hub.evt_frame _ Fld.XB_EVT_GUESS he)

@[simp] theorem Hub.rerouted_sw (h : Hub) (key l : Nat) : (h.rerouted key l).sw = h.sw := by
  unfold Hub.rerouted
  cases Assoc.get h.xact.lastLane key with
  | none => rfl
  | some m => by_cases hm : m ≠ l <;> simp [hm]

theorem Hub.rerouted_frame (h : Hub) (key l : Nat) (hc : p Reg.XB_CNT_REROUTE = true) (he : p Reg.XB_EVT = true) :
    FrameKept h (h.rerouted key l) p := by
  unfold Hub.rerouted
  refine FrameKept.trans ?_ (Hub.withXact_frame _ _)
  cases Assoc.get h.xact.lastLane key with
  | none => exact .refl h p
  | some m =>
    by_cases hm : m ≠ l
    · simp only [if_pos hm]
      exact (h.countBy_frame 1 hc).trans (Hub.evt_frame _ Fld.XB_EVT_REROUTE he)
    · simp only [if_neg hm]
      exact .refl h p

/-- R181, R185, R195: a posted write of the host towards another hub is offered to the core for the lane of its route. -/
theorem Hub.sendPosted_offers (h : Hub) (world : Bool) (addr : BitVec 48) (data : List Byte) {l : Nat} {g : Bool} (hh : faHub addr < 128)
    (hs : h.toSelf (faRing addr) (faHub addr) = false) (hl : h.laneTowards (faRing addr) (faHub addr) = some (l, g)) :
    Offers h (h.sendPosted false world addr data none) (fun x => x.inp = 9 ∧ x.outs = [l] ∧ x.frame.hdr.typ = 5#4 ∧
      x.frame.hdr.world = world ∧ x.frame.hdr.arg = addr ∧ x.frame.payload = data) ∧
    FrameKept h (h.sendPosted false world addr data none) (fun x => [Reg.XB_CNT_GUESS, Reg.XB_EVT, Reg.XB_CNT_REROUTE].contains x) := by
  have hr : ¬(128 ≤ faHub addr ∧ faHub addr ≤ 253) := by omega
  have hb : faHub addr ≠ 0xFF := by omega
  unfold Hub.sendPosted
  simp only [if_neg hr, if_neg hb, hs, hl, Bool.false_eq_true, if_false]
  refine ⟨⟨_, by rw [Hub.offer_offered, Hub.rerouted_sw, Hub.guessed_sw]; rfl, rfl, rfl, rfl, rfl, rfl, rfl⟩, ?_⟩
  refine FrameKept.trans ?_ (Hub.offer_frame _ _ _ _ _ _)
  refine FrameKept.trans ?_ (Hub.withXact_frame _ _)
  exact ((h.nextSeq_frame _).trans (Hub.guessed_frame _ g rfl rfl)).trans (Hub.rerouted_frame _ _ _ rfl rfl)

/-- R183, R184: the completion of a request from a hub to which there is a route is offered to the core. -/
theorem Hub.complete_answers (h : Hub) (hdr : Header) (rdlen status : Nat) (data : List Byte) {l : Nat} {g : Bool}
    (hl : h.routeLane hdr.sring.toNat hdr.shub.toNat = some (l, g)) :
    Answers h (h.complete hdr rdlen status data) hdr status (if hdr.sub = 0 ∧ status ≠ stSC then List.replicate rdlen 0xFF else data) ∧
    FrameKept h (h.complete hdr rdlen status data) (fun x => x == Reg.XB_CNT_GUESS || x == Reg.XB_EVT) := by
  have hd : BitVec.ofNat 8 hdr.shub.toNat = hdr.shub := by simp
  unfold Hub.complete Hub.sendXact
  simp only [hl]
  refine ⟨⟨_, by rw [Hub.offer_offered, Hub.nextSeq_sw, Hub.guessed_sw], rfl, rfl, rfl, rfl, rfl, hd, rfl⟩, ?_⟩
  exact ((Hub.guessed_frame _ g rfl rfl).trans (Hub.nextSeq_frame _ _)).trans (Hub.offer_frame _ _ _ _ _ _)

theorem Hub.sendXact_of_none (h : Hub) (i typ cls sub : Nat) (world : Bool) (ring hub stream : Nat) (tag : BitVec 10) (arg : BitVec 48)
    (payload : List Byte) (hl : h.routeLane ring hub = none) :
    h.sendXact i typ cls sub world ring hub stream tag arg payload = (none, h) := by
  simp only [Hub.sendXact, hl]

/-- R188: a completion without a route is counted. -/
theorem Hub.complete_of_none (h : Hub) (hdr : Header) (rdlen status : Nat) (data : List Byte)
    (hl : h.routeLane hdr.sring.toNat hdr.shub.toNat = none) :
    h.complete hdr rdlen status data = (h.count Reg.XB_CNT_NOROUTE).evt Fld.XB_EVT_NOROUTE := by
  simp only [Hub.complete, Hub.sendXact_of_none _ _ _ _ _ _ _ _ _ _ _ _ hl]

/-- A completion leaves the host port, the requests and the fence as they were. -/
theorem Hub.complete_host_xact (h : Hub) (hdr : Header) (rdlen status : Nat) (data : List Byte) :
    (h.complete hdr rdlen status data).host = h.host ∧ (h.complete hdr rdlen status data).xact = h.xact := by
  cases hl : h.routeLane hdr.sring.toNat hdr.shub.toNat with
  | none => rw [h.complete_of_none _ _ _ _ hl]; exact ⟨rfl, rfl⟩
  | some r =>
    obtain ⟨l, g⟩ := r
    simp only [Hub.complete, Hub.sendXact, hl, Hub.offer_host, Hub.offer_xact, Hub.nextSeq_host, Hub.nextSeq_xact, Hub.guessed_host,
      Hub.guessed_xact, and_self]

theorem Hub.fenceRelease_of_held_nil (h : Hub) (hh : h.xact.held = []) : h.fenceRelease = h := by simp [Hub.fenceRelease, hh]

/-! ### Vectors and the MSI-X table -/

/-- What sending a vector leaves alone: all but what leaves the hub, the pending vectors and the outbound posted buffer. -/
def Hub.msixRest (h : Hub) : Hub := { h with out := [], host := { h.host with msixPending := [], posted := [] } }

theorem Hub.msix_rest (h : Hub) (v : Nat) : (h.msix v).msixRest = h.msixRest := by
  unfold Hub.msix
  split
  · rfl
  split
  · rfl
  split <;> rfl

theorem Hub.msixFlush_rest (h : Hub) : h.msixFlush.msixRest = h.msixRest := by
  unfold Hub.msixFlush
  dsimp only
  split
  · rfl
  · exact foldl_keeps Hub.msixRest _ Hub.msix_rest _ _

theorem Hub.msixFlush_frame (h : Hub) : FrameKept h h.msixFlush p :=
  have hr := h.msixFlush_rest
  .of_fields (congrArg Hub.regs hr :) (congrArg (fun g => g.sw.vat) hr :) (congrArg Hub.log hr :) (congrArg Hub.flash hr :)

theorem Hub.msixFlush_word (h : Hub) (a : Nat) : h.msixFlush.msixWord a = h.msixWord a :=
  congrArg (fun g => g.msixWord a) h.msixFlush_rest

theorem Hub.msixOctet_frame (h : Hub) (a : Nat) (b : Byte) : FrameKept h (h.msixOctet a b) p := by
  unfold Hub.msixOctet
  split
  · exact .refl h p
  · exact .of_fields rfl rfl rfl rfl

/-- An octet of the table goes into its place of the word that holds it. -/
theorem Hub.msixOctet_word (h : Hub) {off j : Nat} (b : Byte) (h4 : off % 4 = 0) (hj : j < 4) (hl : off < 512) :
    (h.msixOctet (off + j) b).msixWord off =
      ((h.msixWord off &&& ~~~(0xFF#32 <<< (8 * j))) ||| (b.setWidth 32 <<< (8 * j))) := by
  have hn : ¬512 ≤ off + j := by omega
  have hk : (off + j) / 4 * 4 = off := by omega
  have hm : (off + j) % 4 = j := by omega
  simp only [Hub.msixOctet, if_neg hn, hk, hm]
  simp [Hub.msixWord]

/-- A bit of a word into which octet j is put: the octet's own bits are its, the others stay. -/
theorem putOctet_bit (w : Word) (b : Byte) (j : Nat) {k : Nat} (hk : k < 32) :
    ((w &&& ~~~(0xFF#32 <<< (8 * j))) ||| (b.setWidth 32 <<< (8 * j))).getLsbD k =
      if 8 * j ≤ k ∧ k < 8 * j + 8 then b.getLsbD (k - 8 * j) else w.getLsbD k := by
  have hm : (0xFF#32).getLsbD (k - 8 * j) = decide (k - 8 * j < 8) := by
    rw [show (0xFF#32) = BitVec.ofNat 32 (2 ^ 8 - 1) from rfl, BitVec.getLsbD_ofNat, Nat.testBit_two_pow_sub_one,
      decide_eq_true (show k - 8 * j < 32 by omega), Bool.true_and]
  simp only [BitVec.getLsbD_or, BitVec.getLsbD_and, BitVec.getLsbD_not, BitVec.getLsbD_shiftLeft, BitVec.getLsbD_setWidth, hm,
    decide_eq_true hk, decide_eq_true (show k - 8 * j < 32 by omega), Bool.true_and]
  by_cases hlo : k < 8 * j
  · rw [if_neg (by omega), decide_eq_true hlo, Bool.not_true, Bool.false_and, Bool.false_and, Bool.not_false, Bool.and_true, Bool.or_false]
  · rw [decide_eq_false hlo, Bool.not_false, Bool.true_and, Bool.true_and]
    by_cases hhi : k < 8 * j + 8
    · rw [if_pos (by omega), decide_eq_true (show k - 8 * j < 8 by omega), Bool.not_true, Bool.and_false, Bool.false_or]
    · rw [if_neg (by omega), decide_eq_false (show ¬k - 8 * j < 8 by omega), Bool.not_false, Bool.and_true,
        BitVec.getLsbD_of_ge b _ (by omega), Bool.or_false]

/-- Four octets written in turn into a word are the word. -/
theorem word_of_octets (w : Word) (b0 b1 b2 b3 : Byte) :
    ((((((w &&& ~~~(0xFF#32 <<< (8 * 0))) ||| (b0.setWidth 32 <<< (8 * 0))) &&& ~~~(0xFF#32 <<< (8 * 1))) |||
      (b1.setWidth 32 <<< (8 * 1))) &&& ~~~(0xFF#32 <<< (8 * 2)) ||| (b2.setWidth 32 <<< (8 * 2))) &&& ~~~(0xFF#32 <<< (8 * 3)) |||
      (b3.setWidth 32 <<< (8 * 3))) = b3 ++ b2 ++ b1 ++ b0 := by
  apply BitVec.eq_of_getLsbD_eq
  intro k hk
  have ha : (b3 ++ b2 ++ b1 ++ b0).getLsbD k = if k < 8 then b0.getLsbD k else if k - 8 < 8 then b1.getLsbD (k - 8)
      else if k - 8 - 8 < 8 then b2.getLsbD (k - 8 - 8) else b3.getLsbD (k - 8 - 8 - 8) := by simp only [BitVec.getLsbD_append]
  refine Eq.trans ?_ ha.symm
  have e1 : k - 8 - 8 = k - 8 * 2 := by omega
  have e2 : k - 8 * 2 - 8 = k - 8 * 3 := by omega
  rw [putOctet_bit _ _ 3 hk, putOctet_bit _ _ 2 hk, putOctet_bit _ _ 1 hk, putOctet_bit _ _ 0 hk, e1, e2]
  by_cases h0 : k < 8
  · rw [if_pos h0, if_neg (show ¬(8 * 3 ≤ k ∧ k < 8 * 3 + 8) by omega), if_neg (show ¬(8 * 2 ≤ k ∧ k < 8 * 2 + 8) by omega), if_neg (show ¬(8 * 1 ≤ k ∧ k < 8 * 1 + 8) by omega),
      if_pos (show 8 * 0 ≤ k ∧ k < 8 * 0 + 8 by omega), Nat.mul_zero, Nat.sub_zero]
  by_cases h1 : k - 8 < 8
  · rw [if_neg h0, if_pos h1, if_neg (show ¬(8 * 3 ≤ k ∧ k < 8 * 3 + 8) by omega), if_neg (show ¬(8 * 2 ≤ k ∧ k < 8 * 2 + 8) by omega),
      if_pos (show 8 * 1 ≤ k ∧ k < 8 * 1 + 8 by omega)]
  by_cases h2 : k - 8 * 2 < 8
  · rw [if_neg h0, if_neg h1, if_pos h2, if_neg (show ¬(8 * 3 ≤ k ∧ k < 8 * 3 + 8) by omega), if_pos (show 8 * 2 ≤ k ∧ k < 8 * 2 + 8 by omega)]
  · rw [if_neg h0, if_neg h1, if_neg h2, if_pos (show 8 * 3 ≤ k ∧ k < 8 * 3 + 8 by omega)]

/-- A whole-word write of BAR4 sets the word of the MSI-X table (Table 07.8). -/
theorem Hub.bar4Write_word (h : Hub) {off : Nat} {d : List Byte} (hd : d.length = 4) (h4 : off % 4 = 0) (hl : off < 512) :
    (h.bar4Write off d none).msixWord off = d.getD 3 0 ++ d.getD 2 0 ++ d.getD 1 0 ++ d.getD 0 0 := by
  have ho : maskedOctets off d none = [(off + 0, d.getD 0 0), (off + 1, d.getD 1 0), (off + 2, d.getD 2 0), (off + 3, d.getD 3 0)] := by
    unfold maskedOctets; rw [hd]; rfl
  unfold Hub.bar4Write
  rw [Hub.msixFlush_word, ho]
  simp only [List.foldl_cons, List.foldl_nil]
  rw [Hub.msixOctet_word _ _ h4 (by decide) hl, Hub.msixOctet_word _ _ h4 (by decide) hl, Hub.msixOctet_word _ _ h4 (by decide) hl,
    Hub.msixOctet_word _ _ h4 (by decide) hl, word_of_octets]

theorem Hub.bar4Write_frame (h : Hub) (off : Nat) (d : List Byte) (mask : Option (BitVec 4)) : FrameKept h (h.bar4Write off d mask) p := by
  unfold Hub.bar4Write
  refine FrameKept.trans ?_ (Hub.msixFlush_frame _)
  refine FrameKept.foldl _ (fun g e => ?_) _ h
  exact g.msixOctet_frame e.1 e.2

/-! ### Pieces and TLPs without the lane rule -/

theorem laneRuns_false (a : Nat) {n : Nat} (hn : 0 < n) : laneRuns false a n = [(a, n)] := by
  simp [laneRuns, Nat.ne_of_gt hn]

theorem map_range_getD (d : List Byte) : (List.range d.length).map (fun k => d.getD k 0) = d :=
  List.ext_getElem (by simp) fun k _ hk => by simp [hk]

theorem lanePieces_false (a : Nat) {d : List Byte} (hd : d ≠ []) : lanePieces false a d = [(a, d)] := by
  have hs (k : Nat) : laneMap false (a + k) - a = k := by simp [laneMap]
  simp only [lanePieces, laneRuns_false a (List.length_pos_iff.mpr hd), List.map_cons, List.map_nil, hs, map_range_getD]

/-- R208: octets that keep to one TLP and one 4 KiB block leave as one. -/
theorem tlps_single {size a : Nat} {d : List Byte} (hd : d ≠ []) (hs : d.length ≤ size) (ha : d.length + a % 4096 ≤ 4096) :
    tlps size d.length a d = [(a, d)] := by
  have hl := List.length_pos_iff.mpr hd
  have hn : d.length ≤ min (max 1 size) (4096 - a % 4096) := by omega
  have he (fuel b : Nat) : tlps size fuel b [] = [] := by cases fuel <;> simp [tlps]
  obtain ⟨m, hm⟩ : ∃ m, d.length = m + 1 := ⟨d.length - 1, by omega⟩
  rw [hm, tlps]
  simp [hd, List.take_of_length_le hn, List.drop_of_length_le hn, he]

/-- R208: a read of at most MAXRD octets is one READ. -/
theorem readChunks_single {size a n : Nat} (hn : 0 < n) (hs : n ≤ size) : readChunks size n a n = [(a, n)] := by
  have he (fuel b : Nat) : readChunks size fuel b 0 = [] := by cases fuel <;> simp [readChunks]
  obtain ⟨m, rfl⟩ : ∃ m, n = m + 1 := ⟨n - 1, by omega⟩
  rw [readChunks]
  simp [Nat.min_eq_right hs, Nat.sub_eq_zero_of_le hs, he]

/-- The octets that the root complex returns for one run are the answer's data. -/
theorem laneGather_false (a : Nat) (d : List Byte) : laneGather false a d.length [(a, d)] = d := by
  refine List.ext_getElem (by simp [laneGather]) fun k _ hk => ?_
  simp [laneGather, laneMap, pieceOctet, hk]

theorem Hub.emitPieces_single (h : Hub) {a : Nat} {d : List Byte} (hd : d ≠ []) (hs : d.length ≤ h.host.maxPayload)
    (ha : d.length + a % 4096 ≤ 4096) : h.emitPieces [(a, d)] = h.emit (.octets 5 [a] d) := by
  simp only [Hub.emitPieces, List.foldl_cons, List.foldl_nil, tlps_single hd hs ha, Hub.emitWrite]

/-- A request that goes to the root complex changes nothing but what leaves the hub. -/
theorem Hub.emitNp_rest (h : Hub) (e : NpOut) : { h.emitNp e with out := [] } = { h with out := [] } := by
  have hn (k : Hub) (x : Nat × List Byte) :
      ({ k.emit (.note 14 [e.id, 0, x.1, x.2.length]) with out := [] } : Hub) = { k with out := [] } := rfl
  unfold Hub.emitNp
  split
  · exact foldl_keeps (fun g => { g with out := [] }) _ (fun g r => foldl_keeps (fun g => { g with out := [] }) _ hn _ g) _ h
  · rfl

theorem Hub.emitNp_frame (h : Hub) (e : NpOut) : FrameKept h (h.emitNp e) p :=
  have hr := h.emitNp_rest e
  .of_fields (congrArg Hub.regs hr :) (congrArg (fun g => g.sw.vat) hr :) (congrArg Hub.log hr :) (congrArg Hub.flash hr :)

theorem Hub.emitNp_host (h : Hub) (e : NpOut) : (h.emitNp e).host = h.host := (congrArg Hub.host (h.emitNp_rest e) :)

end Sys2Proof.Machine
end

section
/-! Host accesses and their answers (O30). -/

namespace Sys2Proof.Machine

variable {h : Hub} {q : List Instr} {bar : Fin 3} {off : Nat} {d : List Byte}

/-! ### Writes of the host -/

section
variable (hu : h.is Fld.HP_LINK_UP = true) (hd : d ≠ []) (hr : h.inboundLoad + d.length ≤ 32768)
include hu hd hr

/-- The link is up, the write has octets and the inbound buffer has room for them: the command is carried out. -/
theorem Hub.hostWrite_taken : ¬((!h.is Fld.HP_LINK_UP) = true ∨ d.isEmpty = true ∨ 32768 < h.inboundLoad + d.length) := by
  simp [hu, hd, hr]

theorem exec_hostBarWrite_bar4 : exec (.hostBarWrite 2 off d none) ⟨q, h⟩ = .next ⟨q, h.bar4Write off d none⟩ := by
  show execHostBarWrite 2 off d none ⟨q, h⟩ = _
  simp only [execHostBarWrite, State.on_eq, if_neg (Hub.hostWrite_taken hu hd hr), if_true]

theorem exec_hostBarWrite_preSeal (hb : bar ≠ 2) (hs : h.sealed_ = false) :
    exec (.hostBarWrite bar off d none) ⟨q, h⟩ = .next ⟨q, h.countPreSeal⟩ := by
  show execHostBarWrite bar off d none ⟨q, h⟩ = _
  simp only [execHostBarWrite, State.on_eq, if_neg (Hub.hostWrite_taken hu hd hr), if_neg hb, hs, Bool.not_false, if_true]

theorem exec_hostBarWrite_noWindow (hb : bar ≠ 2) (hs : h.sealed_ = true) (hi : h.inbound (decide (bar = 1)) off d.length = none) :
    exec (.hostBarWrite bar off d none) ⟨q, h⟩ = .next ⟨q, (h.count Reg.HP_CNT_NOWIN).aerSet 20⟩ := by
  show execHostBarWrite bar off d none ⟨q, h⟩ = _
  simp only [execHostBarWrite, State.on_eq, if_neg (Hub.hostWrite_taken hu hd hr), if_neg hb, hs, Bool.not_true, Bool.false_eq_true,
    if_false, hi]

theorem exec_hostBarWrite_mapped {w m : Nat} (hb : bar ≠ 2) (hs : h.sealed_ = true)
    (hi : h.inbound (decide (bar = 1)) off d.length = some (w, m)) :
    exec (.hostBarWrite bar off d none) ⟨q, h⟩ = .next ⟨q, h.hostPosted w m d none⟩ := by
  show execHostBarWrite bar off d none ⟨q, h⟩ = _
  simp only [execHostBarWrite, State.on_eq, if_neg (Hub.hostWrite_taken hu hd hr), if_neg hb, hs, Bool.not_true, Bool.false_eq_true,
    if_false, hi]

end

/-- A window without the lane rule. -/
theorem Hub.window_addressInvariant (h : Hub) {w : Nat} (hw : w = 0 ∨ h.is (Fld.HP_WIN_CTL_DI w) = false) :
    (w != 0 && h.is (Fld.HP_WIN_CTL_DI w)) = false := by
  rcases hw with hw | hw <;> simp [hw]

/-- R208: a write that keeps to one TLP and one 4 KiB block is one posted write. -/
theorem Hub.hostPosted_single (h : Hub) {w m : Nat} (hw : w = 0 ∨ h.is (Fld.HP_WIN_CTL_DI w) = false) (hd : d ≠ [])
    (ha : d.length + m % 4096 ≤ 4096) (hl : d.length ≤ 2048) :
    h.hostPosted w m d none = h.sendPosted false (h.hostWorld w) (BitVec.ofNat 48 m) d none := by
  simp only [Hub.hostPosted, h.window_addressInvariant hw, lanePieces_false m hd, List.flatMap_cons, List.flatMap_nil, List.append_nil,
    tlps_single hd hl ha, List.foldl_cons, List.foldl_nil]

/-! ### Reads of the host -/

section
variable {len : Nat} (hu : h.is Fld.HP_LINK_UP = true) (h0 : 0 < len) (hl : len ≤ 4096) (hr : h.readsWaiting < 64)
include hu h0 hl hr

/-- The link is up, the read has a length of its own and the inbound buffer has room for it: the command is carried out. -/
theorem Hub.hostRead_taken : ¬((!h.is Fld.HP_LINK_UP) = true ∨ len = 0 ∨ 4096 < len ∨ 64 ≤ h.readsWaiting) := by
  simp only [hu, Bool.not_true, Bool.false_eq_true, false_or]
  omega

theorem exec_hostBarRead_preSeal (hb : bar ≠ 2) (hs : h.sealed_ = false) : exec (.hostBarRead bar off len) ⟨q, h⟩ =
    .next ⟨q, (Hub.countPreSeal { h with host := { h.host with nextRead := h.host.nextRead + 1 } }).emit
      (.octets 4 [h.host.nextRead, 0] (List.replicate len 0xFF))⟩ := by
  show execHostBarRead bar off len ⟨q, h⟩ = _
  simp only [execHostBarRead, State.on_eq, if_neg (Hub.hostRead_taken hu h0 hl hr), if_neg hb, hs, Bool.not_false, if_true]

theorem exec_hostBarRead_noWindow (hb : bar ≠ 2) (hs : h.sealed_ = true) (hi : h.inbound (decide (bar = 1)) off len = none) :
    exec (.hostBarRead bar off len) ⟨q, h⟩ =
    .next ⟨q, ((Hub.count { h with host := { h.host with nextRead := h.host.nextRead + 1 } } Reg.HP_CNT_NOWIN).aerSet 20).emit
      (.octets 4 [h.host.nextRead, 1] [])⟩ := by
  show execHostBarRead bar off len ⟨q, h⟩ = _
  simp only [execHostBarRead, State.on_eq, if_neg (Hub.hostRead_taken hu h0 hl hr), if_neg hb, hs, Bool.not_true, Bool.false_eq_true,
    if_false, hi]

/-- R208: a read of at most MAXRD octets waits as one READ. -/
theorem exec_hostBarRead_mapped {w m : Nat} (hb : bar ≠ 2) (hs : h.sealed_ = true) (hi : h.inbound (decide (bar = 1)) off len = some (w, m))
    (hw : w = 0 ∨ h.is (Fld.HP_WIN_CTL_DI w) = false) (hm : len ≤ h.maxRd) : exec (.hostBarRead bar off len) ⟨q, h⟩ =
    .next ⟨q, { h with
      host := { h.host with nextRead := h.host.nextRead + 1,
                            reads := h.host.reads ++ [⟨h.host.nextRead, m % 2 ^ 48, len, false, 1, [], 0⟩] },
      xact := { h.xact with waiting := h.xact.waiting ++ [⟨false, h.hostWorld w, BitVec.ofNat 48 m, .read len, h.host.nextRead⟩] } }⟩ := by
  show execHostBarRead bar off len ⟨q, h⟩ = _
  simp only [execHostBarRead, State.on_eq, if_neg (Hub.hostRead_taken hu h0 hl hr), if_neg hb, hs, Bool.not_true, Bool.false_eq_true,
    if_false, hi, h.window_addressInvariant hw, laneRuns_false m h0, List.flatMap_cons, List.flatMap_nil, List.append_nil,
    readChunks_single h0 hm, List.map_cons, List.map_nil, List.length_cons, List.length_nil]

end

/-! ### The outbound buffers -/

theorem exec_hostWindowRequest_posted (hu : h.is Fld.HP_LINK_UP = true) :
    exec (.hostWindowRequest true) ⟨q, h⟩ = .next ⟨q, h.postedOut⟩ := by
  show execHostWindowRequest true ⟨q, h⟩ = _
  simp only [execHostWindowRequest, State.on_eq, hu, Bool.not_true, Bool.false_eq_true, if_false, if_true]

theorem exec_hostWindowRequest_np (hu : h.is Fld.HP_LINK_UP = true) : exec (.hostWindowRequest false) ⟨q, h⟩ = .next ⟨q, h.npOut⟩ := by
  show execHostWindowRequest false ⟨q, h⟩ = _
  simp only [execHostWindowRequest, State.on_eq, hu, Bool.not_true, Bool.false_eq_true, if_false]

theorem Hub.postedOut_msix (h : Hub) {v : Nat} {rest : List PostedOut} (hp : h.host.posted = .msix v :: rest) (hb : h.hostBar = none) :
    h.postedOut = Hub.emit { h with host := { h.host with posted := rest } } (.msix v) := by
  simp only [Hub.postedOut, hp, hb]

/-- R204: a vector that may not leave stays pending. -/
theorem Hub.postedOut_msix_barred (h : Hub) {v c : Nat} {rest : List PostedOut} (hp : h.host.posted = .msix v :: rest)
    (hb : h.hostBar = some c) : h.postedOut =
      { h with host := { h.host with posted := rest, msixPending := v :: h.host.msixPending.filter (· ≠ v) } } := by
  simp only [Hub.postedOut, hp, hb]

theorem Hub.postedOut_write (h : Hub) {ps : List (Nat × List Byte)} {i : Nat} {f : Frame} {rest : List PostedOut}
    (hp : h.host.posted = .write ps i f none :: rest) (hb : h.hostBar = none) :
    h.postedOut = (Hub.emitPieces { h with host := { h.host with posted := rest } } ps).pwNote f.hdr := by
  simp only [Hub.postedOut, hp, hb]

/-- R196: what the end of a posted write notes where nothing waits for it: its place among the writes performed. -/
theorem Hub.pwEntry_keeps (h : Hub) (hdr : Header) : { h.pwEntry hdr with xact := h.xact } = h ∧ (h.pwEntry hdr).xact.held = h.xact.held := by
  unfold Hub.pwEntry
  dsimp only
  split <;> exact ⟨rfl, rfl⟩

theorem Hub.pwEntry_out (h : Hub) (hdr : Header) : (h.pwEntry hdr).out = h.out := (congrArg Hub.out (h.pwEntry_keeps hdr).1 :)
theorem Hub.pwEntry_host (h : Hub) (hdr : Header) : (h.pwEntry hdr).host = h.host := (congrArg Hub.host (h.pwEntry_keeps hdr).1 :)

theorem Hub.pwEntry_frame (h : Hub) (hdr : Header) {p : Nat → Bool} : FrameKept h (h.pwEntry hdr) p :=
  have he := (h.pwEntry_keeps hdr).1
  .of_fields (congrArg Hub.regs he :) (congrArg (fun g => g.sw.vat) he :) (congrArg Hub.log he :) (congrArg Hub.flash he :)

theorem Hub.pwEntry_of_nil (h : Hub) (hdr : Header) (hd : h.xact.donePw = []) :
    Assoc.get (h.pwEntry hdr).xact.donePw hdr.source = some (hdr.seq, h.clock) := by
  simp [Hub.pwEntry, hd]

theorem Hub.pwNote_of_empty (h : Hub) (hdr : Header) (hp : h.host.posted = []) (hh : h.xact.held = []) : h.pwNote hdr = h.pwEntry hdr := by
  have he := (h.pwEntry_keeps hdr).2.trans hh
  simp only [Hub.pwNote, hp, List.any_nil, Bool.false_eq_true, if_false, Hub.fenceRelease_of_held_nil _ he]

/-- R208: a posted write in one TLP, behind which nothing stands, leaves for the root complex and is performed (R196). -/
theorem Hub.postedOut_write_single (h : Hub) {a i : Nat} {f : Frame} (hd : d ≠ []) (ha : d.length + a % 4096 ≤ 4096)
    (hl : d.length ≤ h.host.maxPayload) (hp : h.host.posted = [.write [(a, d)] i f none]) (hb : h.hostBar = none) (hh : h.xact.held = []) :
    h.postedOut = (Hub.emit { h with host := { h.host with posted := [] } } (.octets 5 [a] d)).pwEntry f.hdr := by
  rw [h.postedOut_write hp hb, Hub.emitPieces_single { h with host := { h.host with posted := [] } } hd hl ha]
  exact Hub.pwNote_of_empty _ _ rfl hh

/-- Of the requests of a number, those marked as gone have gone. -/
theorem sent_of_mem_map {l : List NpOut} {k : Nat} {x : NpOut}
    (hx : x ∈ l.map (fun y => if y.id = k then { y with sent := true } else y)) (hk : x.id = k) : x.sent = true := by
  obtain ⟨y, -, rfl⟩ := List.mem_map.mp hx
  by_cases hy : y.id = k
  · simp only [if_pos hy]
  · rw [if_neg hy] at hk
    exact absurd hk hy

/-- R197: the first request that has not gone goes to the root complex where its completion has its space. -/
theorem Hub.npOut_goes (h : Hub) {e : NpOut} (hf : h.host.nps.find? (fun e => !e.sent) = some e) (hb : h.hostBar = none)
    (hg : h.npMayGo e = true) : h.npOut =
      Hub.emitNp { h with host := { h.host with nps := h.host.nps.map (fun x => if x.id = e.id then { x with sent := true } else x) } } e := by
  simp only [Hub.npOut, hf, hb, hg, if_true]

/-! ### Completions of the root complex -/

/-- R183: a successful completion of a request without the lane rule answers it with the octets that came, and frees its place. -/
theorem exec_pcieCompletionRx {id : Nat} {e : NpOut} (hf : h.host.nps.find? (fun e => decide (e.id = id) && e.sent) = some e)
    (h9 : e.inp ≠ 9) (h10 : e.inp ≠ 10) (hdi : e.di = false) (hl : d.length = e.len) (h0 : 0 < e.len) :
    exec (.pcieCompletionRx id true d) ⟨q, h⟩ = .next ⟨q, (((Hub.disarm
      { h with host := { h.host with nps := h.host.nps.filter (fun x => x.id != id) } } (.held id)).complete e.frame.hdr e.frame.rdlen stSC
        d).fenceRelease)⟩ := by
  have hs : slice d 0 e.len = d := hl ▸ slice_all d
  have hg : laneGather false e.addr e.len [(e.addr, d)] = d := hl ▸ laneGather_false e.addr d
  show execPcieCompletionRx id true d ⟨q, h⟩ = _
  simp only [execPcieCompletionRx, State.on_eq, hf, hdi, laneRuns_false e.addr h0, List.foldl_cons, List.foldl_nil, List.nil_append, hs, hg,
    Hub.finish, h9, h10, or_self, if_false, if_true]

/-- A request whose place in the host port is freed is answered, where no request waits at the fence. -/
theorem Hub.freed_answers (h : Hub) (port : HostPort) (tm : Timer) {hdr : Header} {l : Nat} {g : Bool} (rdlen : Nat) (d : List Byte)
    (hh : h.xact.held = []) (hl : h.routeLane hdr.sring.toNat hdr.shub.toNat = some (l, g)) :
    let t := ((Hub.disarm { h with host := port } tm).complete hdr rdlen stSC d).fenceRelease
    Answers h t hdr stSC d ∧ t.host = port ∧ FrameKept h t (fun x => x == Reg.XB_CNT_GUESS || x == Reg.XB_EVT) := by
  obtain ⟨hhost, hxact⟩ := (Hub.disarm { h with host := port } tm).complete_host_xact hdr rdlen stSC d
  obtain ⟨hans, hframe⟩ := (Hub.disarm { h with host := port } tm).complete_answers hdr rdlen stSC d hl
  have hsc : ¬(hdr.sub = 0 ∧ stSC ≠ stSC) := fun hc => hc.2 rfl
  rw [if_neg hsc] at hans
  rw [Hub.fenceRelease_of_held_nil _ (by rw [hxact]; exact hh)]
  exact ⟨hans, hhost, FrameKept.trans (FrameKept.of_fields rfl rfl rfl rfl) hframe⟩

/-! ### The statement -/

/-- Settles O30: each access is brought to the one update that its clause tells, and that update's frame is known. -/
theorem hostAccesses : Obligations.HostAccesses := by
  unfold Obligations.HostAccesses
  intro h q bar off d hu
  refine ⟨fun hd hr => ⟨fun hb hs => ?_, fun hb hs hi => ?_, fun w m l gu hb hs hi hw ha hl hh hself hlane => ?_, fun hb hd4 h4 hl => ?_⟩,
    fun len h0 hl hr hb => ⟨fun hs => ?_, fun hs hi => ?_, fun w m hs hi hw hm => ?_⟩,
    fun v rest hp => ⟨fun hb => ?_, fun hb => ?_⟩, fun ad i f rest hd ha hl hp hb hh hrest => ?_, fun e hf hb hg => ?_,
    fun id e l gu hf h9 h10 hdi hl h0 hh hlane => ?_⟩
  · exact completes_of_exec (exec_hostBarWrite_preSeal hu hd hr hb hs) ⟨h.countPreSeal_get, rfl, h.countPreSeal_frame (by simp)⟩
  · refine completes_of_exec (exec_hostBarWrite_noWindow hu hd hr hb hs hi) ⟨Hub.rd_wr_same _ _ _, rfl, ?_⟩
    exact (h.countBy_frame 1 (by simp)).trans (.of_fields rfl rfl rfl rfl)
  · refine completes_of_exec (exec_hostBarWrite_mapped hu hd hr hb hs hi) ?_
    rw [h.hostPosted_single hw hd ha hl]
    exact h.sendPosted_offers _ _ d hh hself hlane
  · subst hb
    exact completes_of_exec (exec_hostBarWrite_bar4 hu hd hr) ⟨h.bar4Write_word hd4 h4 hl, h.bar4Write_frame off d none⟩
  · refine completes_of_exec (exec_hostBarRead_preSeal hu h0 hl hr hb hs) ⟨rfl, Hub.countPreSeal_get _, ?_⟩
    exact h.countPreSeal_frame (by simp)
  · refine completes_of_exec (exec_hostBarRead_noWindow hu h0 hl hr hb hs hi) ⟨rfl, Hub.rd_wr_same _ _ _, ?_⟩
    exact (h.countBy_frame 1 (by simp)).trans (.of_fields rfl rfl rfl rfl)
  · exact completes_of_exec (exec_hostBarRead_mapped hu h0 hl hr hb hs hi hw hm) ⟨rfl, rfl, rfl, FrameKept.of_fields rfl rfl rfl rfl⟩
  · refine completes_of_exec (exec_hostWindowRequest_posted hu) ?_
    rw [h.postedOut_msix hp hb]
    exact ⟨rfl, rfl, FrameKept.of_fields rfl rfl rfl rfl⟩
  · refine completes_of_exec (exec_hostWindowRequest_posted hu) ?_
    rw [h.postedOut_msix_barred hp hb]
    exact ⟨List.mem_cons_self, rfl, rfl, FrameKept.of_fields rfl rfl rfl rfl⟩
  · subst hrest
    refine completes_of_exec (exec_hostWindowRequest_posted hu) ?_
    rw [h.postedOut_write_single hd ha hl hp hb hh]
    refine ⟨Hub.pwEntry_out _ _, by rw [Hub.pwEntry_host]; rfl, fun hn => Hub.pwEntry_of_nil _ _ hn, ?_⟩
    exact FrameKept.trans (FrameKept.of_fields rfl rfl rfl rfl) (Hub.pwEntry_frame _ _)
  · refine completes_of_exec (exec_hostWindowRequest_np hu) ?_
    rw [h.npOut_goes hf hb hg, Hub.emitNp_host]
    exact ⟨fun x hx hk => sent_of_mem_map hx hk, List.length_map _,
      FrameKept.trans (FrameKept.of_fields rfl rfl rfl rfl) (Hub.emitNp_frame _ e)⟩
  · refine completes_of_exec (exec_pcieCompletionRx hf h9 h10 hdi hl h0) ?_
    obtain ⟨hans, hhost, hframe⟩ := h.freed_answers { h.host with nps := h.host.nps.filter (fun x => x.id != id) } (.held id) e.frame.rdlen d
      hh hlane
    refine ⟨hans, fun x hx => ?_, hframe⟩
    rw [hhost] at hx
    simpa using (List.mem_filter.mp hx).2

end Sys2Proof.Machine
end
